-- ==== Sys2Proof/Word.lean ====
section
/-! DEFINITION. The plain types of words and of sparse stores. -/

namespace Sys2Proof

/-- A byte of memory. -/
abbrev Byte := BitVec 8

/-- A register word (R9: registers are 32 bits wide). -/
abbrev Word := BitVec 32

/-- A store of values under numeric keys: keys rise strictly, an unlisted key holds the store's own default. -/
abbrev Sparse (α : Type) := List (Nat × α)

end Sys2Proof
end

