-- ==== Sys2Proof/Syntax.lean ====
section
/-! DEFINITION. The commands the block takes, as syntax. A command carries what reaches the block from outside with it:
the unit it concerns, the data that arrive, what a device outside the block (a pin, a peer, a host, a sensor) shows. -/

namespace Sys2Proof

/-- The commands of the block, one per row of the table of operations and events (spec/opcode_table.json). -/
inductive Instr where
  /-- NOP (R206): Table entry that issues and does nothing, costing only its DELAY. -/
  | nop (p : Nat)
  /-- END (R193): Table entry that puts the sequencer in DONE and ends the table once engines and transfers drain. -/
  | endTable (p : Nat)
  /-- LOOP_SET (R208): Loads loop counter c with a nonzero count. -/
  | loopSet (p : Nat)
  /-- LOOP_BACK (R208): Decrements loop counter c and branches back to TARGET while the result is nonzero. -/
  | loopBack (p : Nat)
  /-- BANK_SWITCH (R198): Table command that switches to the inactive table bank if it is READY and sets the bank-switched flag. -/
  | bankSwitch (p : Nat)
  /-- FLAG_CLR (R231): Clears named program flags, or returns the held slot of a ring's data flag. -/
  | flagClr (p : Nat)
  /-- DESC_SET (R205): Writes one 64-bit word of a descriptor, leaving TENANT, EPOCH and VALID unchanged. -/
  | descSet (p : Nat)
  /-- DESC_STEP (R208): Adds signed steps to a descriptor's SCALE_BASE, BASE and ELEM_BASE with wraparound. -/
  | descStep (p : Nat)
  /-- LOFT_HAND (R164): Hands the named Loft banks to new owner masters, effective for the new owner 4 tc later. -/
  | loftHand (p : Nat)
  /-- ESC_RESET (R89): Sets ESC_NEXT to the immediate value. -/
  | escReset (p : Nat)
  /-- FLUSH (R209): Emits and clears the named fingerprint and scout accumulators into the step record. -/
  | flush (p : Nat)
  /-- MMA (R141): Array command that multiplies two block operands exactly into a region of Pocket registers. -/
  | mma (p : Nat)
  /-- ESC_SLOT_ARRIVE (R92): Uncached escape slots arrive from the Granary and the frozen tile resumes. -/
  | escSlotArrive (p : Nat) (tc : Nat)
  /-- POCKET_LOAD (R211): Loads Pocket registers exactly from an I32 or Stook source in the tile's Loft. -/
  | pocketLoad (p : Nat)
  /-- STORE (R212): Output-stage command that scales, biases, activates, converts and writes Pocket registers to a Loft destination. -/
  | store (p : Nat)
  /-- SCOUT (R128): Output-stage pass that chooses and writes block scale codes and counts into a scout accumulator. -/
  | scout (p : Nat)
  /-- SCORE_MAX (R212): Attention pass one: writes scaled scores and folds them into the exact row maxima. -/
  | scoreMax (p : Nat)
  /-- VOP (R214): Vector-unit IEEE arithmetic, comparison or move over a vector length. -/
  | vop (p : Nat)
  /-- VFUNC (R150): Vector-unit transcendental function in strict or fast mode. -/
  | vfunc (p : Nat)
  /-- VCVT (R214): Vector-unit conversion between formats, optionally with stochastic rounding. -/
  | vcvt (p : Nat)
  /-- VDRAW (R117): Draws RAW32 or UNIT values from the Threshing function for each element. -/
  | vdraw (p : Nat)
  /-- VSORT (R214): Sorts 128 keys with indices, or merges a top-k selection. -/
  | vsort (p : Nat)
  /-- VDOT (R148): Exact FP32 dot product, sum or sum of squares into a VPn register. -/
  | vdot (p : Nat)
  /-- VRED64 (R149): FP64 reduction or small matrix product in reference or native order. -/
  | vred64 (p : Nat)
  /-- VTEST (R206): Finite test that sets the named flag when every element is finite. -/
  | vtest (p : Nat)
  /-- VPOUT (R214): Rounds one VPn value once and writes it to a destination. -/
  | vpout (p : Nat)
  /-- COMMAND_COMPLETE (R191): An engine command completes and sets its SFLAG if enabled. -/
  | commandComplete (p : Nat) (eng : Nat)
  /-- DMA_IN (R217): Starts a transfer into the tile's Loft, taking the named banks for DI. -/
  | dmaIn (p : Nat)
  /-- DMA_OUT (R217): Starts a transfer out of the tile's Loft, taking the named banks for DO. -/
  | dmaOut (p : Nat)
  /-- DMA_COMPLETE (R165): A crossing transfer completes; its banks pass to the return owner and its flag is set 4 tc later. -/
  | dmaComplete (p : Nat) (flag : Nat) (status : Nat) (data : List Nat)
  /-- FLAG_SEND (R233): Sends a class-0 set of a program flag to a tile on this or another device. -/
  | flagSend (p : Nat)
  /-- BARRIER (R239): Records the tile's arrival at a barrier slot and forwards it to the Binder. -/
  | barrier (p : Nat)
  /-- RING_PUSH (R246): Takes a ring credit and sends one slot of data to the consumer's ring bank. -/
  | ringPush (p : Nat)
  /-- RING_PUSH_COMPLETE (R246): The push's write is acknowledged; banks pass to RETURN and SFLAG is set 4 tc later. -/
  | ringPushComplete (p : Nat) (ring : Nat) (status : Nat)
  /-- COLLECTIVE (R308): Issues the tile's command for one bucket of a collective group. -/
  | collective (p : Nat)
  /-- COLLECTIVE_COMPLETE (R310): A collective's destination and record are written and its flag set. -/
  | collectiveComplete (p : Nat) (flag : Nat) (others : List (Nat × Nat))
  /-- TILE_TRIGGER (R185): The Reeve triggers a tile, starting entry 0 of the active bank. -/
  | tileTrigger (p : Nat)
  /-- WAIT_TIMEOUT (R190): A wait lasting WAIT_LIMIT units stops the table with ST_TIMEOUT. -/
  | waitTimeout (p : Nat)
  /-- LOFT_WAIT_TIMEOUT (R169): A non-owner Loft access times out and is abandoned. -/
  | loftWaitTimeout (p : Nat) (master : Nat)
  /-- LOFT_ATOMIC (R172): An atomic reaches its bank and is applied in arrival order. -/
  | loftAtomic (p : Nat) (master : Nat) (op : Nat) (a : Nat) (v : Nat)
  /-- MARCH_START (R178): A write of MARCH_CTRL.START starts a march run on XT-owned banks or is refused. -/
  | marchStart (p : Nat) (w : Nat)
  /-- MARCH_DONE (R179): A march run ends and faulty rows are soft-repaired into spare rows. -/
  | marchDone (p : Nat) (faulty : List Nat)
  /-- FLAG_SET_ARRIVE (R235): A flag set from another tile or device reaches a tile, or is dropped. -/
  | flagSetArrive (l : Nat) (f : Nat) (job : Nat) (src : Option Nat)
  /-- BAR_ARRIVE (R241): A device arrival reaches the home device and is counted or refused. -/
  | barArrive (slot : Nat) (rank : Nat) (round : Nat) (job : Nat)
  /-- BAR_RELEASE (R240): A device release reaches a member device and releases its tiles or is discarded. -/
  | barRelease (slot : Nat) (round : Nat)
  /-- RING_SLOT_ARRIVE (R244): Ring slot data reach the consumer bank, raising FULL, or are refused. -/
  | ringSlotArrive (ring : Nat) (slot : Nat) (desc : Nat) (data : Option (List Nat))
  /-- RING_SLOT_RETURN (R245): A slot returned by the consumer's pop reaches the producer's FREE count. -/
  | ringSlotReturn (ring : Nat)
  /-- WORK_MSG_SEND (R156): Every 65,536 tc a tile sends work messages for classes with unsent counts. -/
  | workMsgSend (p : Nat)
  /-- WORK_MSG_SECOND_COPY (R469): 256 tc after a work message the tile sends its second copy. -/
  | workMsgSecondCopy (p : Nat)
  /-- TILE_RESET (R153): TILE_CTRL.RESET sends unsent work counts, then resets the tile's engines and state. -/
  | tileReset (p : Nat)
  /-- TILE_ENABLE (R181): Setting a tile's ENABLE gives banks the owners held in LOFT_OWN. -/
  | tileEnable (p : Nat)
  /-- STEP_BOUNDARY (R35): Once tables end, the closing barrier releases and the seal is signed, boundary events run in order. -/
  | stepBoundary (u : Nat) (norms : List Nat) (moved faulty : List (Nat × Nat))
  /-- REPEAT_POINT (R35): An abandoned run ends, substitutions apply and the step is released again from its start state. -/
  | repeatPoint (u : Nat) (rebuilt : List (Nat × Nat))
  /-- STEP_SEAL (R460): The trust core signs the step seal record after the closing barrier. -/
  | stepSeal (u : Nat) (fps scouts : List Nat)
  /-- WINNOWER_COMPARE (R377): A word written by a sampled tile is compared with its verifier's. -/
  | winnowerCompare (p a b : Nat) (last : Bool) (slice : Option (List Nat))
  /-- VOTE_DONE (R379): The voter's result decides which tile loses. -/
  | voteDone (p agrees : Nat) (bad1 bad2 : Bool) (capture : List Nat)
  /-- GRN_REFRESH (R261): Per-bank refresh interval expires and the controller refreshes, including row-hammer neighbours. -/
  | grnRefresh (k : Nat) (bank : Nat) (pc : Nat) (rows : List Nat) (cycles : Nat)
  /-- GRANARY_ACCESS (R259): A Granary read or write is decoded, corrected or reported uncorrectable. -/
  | granaryAccess (a : Nat) (v : Option Nat) (flips : Nat) (odecc : Nat) (act : Bool) (p : Nat)
  /-- GRN_CAL_PASS (R263): A calibration pass starts on period or temperature step, retraining pseudo-channels. -/
  | grnCalPass (k : Nat) (temp : Int) (repaired : List Nat) (failed : List Nat)
  /-- PAGE_RETIREMENT (R265): A page retirement order writes a remap entry and starts copying granules. -/
  | pageRetirement (k : Nat)
  /-- GRANULE_COPY_DONE (R265): One granule's copy ends and the next begins or the page is marked faulty. -/
  | granuleCopyDone (k : Nat)
  /-- STACK_RETIREMENT (R268): A stack retirement order copies every page to survivors' reserve pages. -/
  | stackRetirement (k : Nat)
  /-- LANE_FAILING (R295): An optical lane loses lock or exceeds its error limit and is swapped or its port goes down. -/
  | laneFailing (e : Nat) (lane : Nat) (peerSpare : Bool)
  /-- LANE_SWAP (R295): A LANE_SWAP packet arrives and the end prepares to move the lane. -/
  | laneSwap (e : Nat) (lane : Nat) (ns : Nat)
  /-- LANE_SWAP_APPLY (R295): 10 µs after LANE_SWAP both ends move the lane to a spare and retrain. -/
  | laneSwapApply (e : Nat) (lane : Nat)
  /-- PORT_RETRAINED (R295): A retraining port comes up again and carries traffic. -/
  | portRetrained (e : Nat) (j : Nat)
  /-- FEED_LOSS (R298): An engine's light falls below threshold and its coupler moves to the other module. -/
  | feedLoss (e : Nat) (lost : List Nat)
  /-- LASER_PRESENT_CHANGE (R298): A laser module's presence signal changes; a pulled module's LASER_EN is driven low. -/
  | laserPresentChange (m : Nat) (present : Bool)
  /-- LASER_STABLE (R297): A re-enabled module reports stable output and couplers return to it. -/
  | laserStable (m : Nat)
  /-- WAIN_DATA_RX (R288): A DATA packet is verified, acknowledged and delivered in sequence order. -/
  | wainDataRx (port : Nat) (job : Nat) (rank : Nat) (cls : Nat) (seq : Nat) (epoch : Nat) (flits : Nat) (ok : Bool) (decodes : Bool) (ce : Bool) (what : Nat) (a : Nat) (n : Nat) (data : List Nat)
  /-- WAIN_ACK_RX (R288): An acknowledgement frees packets and may trigger fast retransmission. -/
  | wainAckRx (job : Nat) (rank : Nat) (cls : Nat) (ack : Nat) (sack : Nat) (ok : Bool) (ce : Bool)
  /-- WAIN_CREDIT_RX (R286): A CREDIT packet returns per-class credit on a direct-mode port. -/
  | wainCreditRx (port : Nat) (cls : Nat) (cells : Nat)
  /-- REFUSE_RX (R332): A REFUSE reaches the sender, which remaps stale-epoch data or ends the transfer. -/
  | refuseRx (job : Nat) (rank : Nat) (status : Nat) (kind : Nat) (a : Nat) (b : Nat) (c : Nat)
  /-- KEEPALIVE_RX (R290): A KEEPALIVE arrives and refreshes the peer's liveness. -/
  | keepaliveRx (job : Nat) (rank : Nat) (ok : Bool)
  /-- KEEPALIVE_SEND (R290): After 100 µs with no exchange a KEEPALIVE is sent to a rank. -/
  | keepaliveSend (job : Nat) (rank : Nat)
  /-- CREDIT_SEND (R286): A CREDIT packet goes out at least every 256 ns while credit is owed. -/
  | creditSend (port : Nat)
  /-- WAIN_RTO (R288): An unacknowledged packet reaches RTO and is retransmitted. -/
  | wainRto (job : Nat) (rank : Nat) (cls : Nat) (seq : Nat)
  /-- PEER_LOSS (R290): PEER_LOSS elapses without acknowledgement or traffic and the peer is declared lost. -/
  | peerLoss (job : Nat) (rank : Nat)
  /-- ECN_WINDOW_GROW (R291): Every 8 µs without a CE echo the connection window grows by 16 cells. -/
  | ecnWindowGrow (job : Nat) (rank : Nat) (cls : Nat)
  /-- PFC_PAUSE_RX (R286): A received PFC pause stops the paused priority on a switched port. -/
  | pfcPauseRx (port : Nat) (prio : Nat) (quanta : Nat)
  /-- HALT_PACKET (R292): A network HALT halts every tile of the job within 1 µs of ingress. -/
  | haltPacket (job : Nat) (rank : Nat) (ok : Bool)
  /-- FENCE_PACKET (R333): A network FENCE holds new class-1 and class-2 work of the job. -/
  | fencePacket (job : Nat) (rank : Nat) (ok : Bool) (epoch : Option Nat)
  /-- DRAIN_PACKET (R334): A network DRAIN fences the job and ends held and open work. -/
  | drainPacket (job : Nat) (rank : Nat) (ok : Bool) (epoch : Option Nat)
  /-- FENCE_COMPLETE (R333): No fenced traffic remains in flight and the fence is reported complete. -/
  | fenceComplete (job : Nat)
  /-- PTP_MESSAGE_RX (R301): A PTP message updates the device's PTP clock. -/
  | ptpMessageRx (port : Nat) (ns : Nat)
  /-- PPS_EDGE (R301): A rising edge on PTP_PPS_IN is timestamped into PTP_OFFSET. -/
  | ppsEdge
  /-- KEY_AGREEMENT_RX (R454): A MACsec key-agreement frame from the link partner advances the agreement. -/
  | keyAgreementRx (port : Nat) (ok : Bool) (admitted : Bool) (last : Bool)
  /-- KEY_AGREEMENT_TIMER (R454): Every 24 h, or 1 s after a failure, a new key agreement runs. -/
  | keyAgreementTimer (port : Nat)
  /-- BUCKET_READY (R321): A readiness notice reaches the home rank, which may close the bucket. -/
  | bucketReady (g : Nat) (rank : Nat) (bucket : Nat) (step : Nat)
  /-- BUCKET_DEADLINE (R321): DEADLINE expires at the home rank and the bucket closes with the ready ranks. -/
  | bucketDeadline (g : Nat) (bucket : Nat) (step : Nat)
  /-- BUCKET_SET_RX (R322): A member receives the included set and sends data or applies the straggler policy. -/
  | bucketSetRx (g : Nat) (bucket : Nat) (step : Nat) (ns : Nat) (ranks : List Nat)
  /-- GLEANER_GRANARY_SCRUB (R372): The scrub pacing timer reads and, if corrected, rewrites the next granule. -/
  | gleanerGranaryScrub (flips : List (Nat × Nat))
  /-- GLEANER_IDLE_MARCH (R372): Every IDLE_S seconds idle tiles run a preserving march. -/
  | gleanerIdleMarch (p : Nat)
  /-- TABLE_SCRUB_TICK (R372): Every 16 tc the scrub port checks one table or descriptor word. -/
  | tableScrubTick (p flips : Nat)
  /-- SILO_SCRUB (R427): The Silo scrub reads a written page and relocates it if needed. -/
  | siloScrub (corrected : Nat) (aged ue : Bool) (retired : Option Nat) (last : Bool)
  /-- TMR_SWEEP (R386): Every millisecond triplicated fields are voted and disagreeing copies rewritten. -/
  | tmrSweep (faults : List (Nat × Nat))
  /-- LINK_FLIT_FAIL (R369): An uncorrectable link flit is retransmitted, failing the link after five in a row. -/
  | linkFlitFail (l : Nat) (d2d : Bool) (again : Bool)
  /-- BEFORE_IMAGE_COPY (R404): A step's first write to a persistent chunk copies its old contents first. -/
  | beforeImageCopy (u chunk : Nat)
  /-- PARITY_DELTA_RX (R410): A parity holder XORs an arriving delta into its inbox. -/
  | parityDeltaRx (u x t stripe announced : Nat) (bytes : List Nat)
  /-- INBOX_COMPLETE (R411): A holder's inbox complete report reaches the commit home. -/
  | inboxComplete (u rank : Nat) (snap : Bool)
  /-- COMMIT_RX (R411): On the commit, inbox is applied, before-images released, held writes released and the snapshot flag set. -/
  | commitRx (u : Nat)
  /-- SNAPSHOT_COMMITTED (R415): A snapshot image and record are written and the commit marker is written. -/
  | snapshotCommitted (u : Nat)
  /-- SNAPSHOT_START (R412): At a multiple of N, or after SNAP_NOW, a snapshot of the step's start state begins. -/
  | snapshotStart (u : Nat)
  /-- WH_SAMPLE (R466): Converters sample voltage and current and integrate energy. -/
  | whSample (mv : Nat) (ma : Nat) (smv : Nat) (sma : Nat)
  /-- WH_INTERVAL (R476): At each whole second an INTERVAL record is written and the mirror pushed. -/
  | whInterval
  /-- WH_HOURLY (R476): At each whole hour an HOURLY record is written. -/
  | whHourly
  /-- WH_WORK_MSG (R469): A work message copy is decoded, deduplicated and added to counters and its account. -/
  | whWorkMsg (p : Nat) (tenant : Nat) (job : Nat) (cls : Nat) (count : Nat) (seq : Nat) (verify : Bool) (rep : Bool) (second : Bool) (bad : Bool) (ok : Bool)
  /-- WH_LANE_UP (R470): A compute die's lane comes up and expectations reset to 0. -/
  | whLaneUp (die : Nat)
  /-- WH_ACCOUNT_IDLE (R472): An account idle for ACCOUNT_IDLE seconds closes with a JOB record. -/
  | whAccountIdle (k : Nat)
  /-- WH_SEAL_OPEN (R483): SEAL_SENSE opening latches TAMPER and raises the alarm. -/
  | whSealOpen
  /-- WH_RAILS_LOST (R485): Both rails fall; accounts close and records are written from hold-up. -/
  | whRailsLost
  /-- WH_POWER_UP (R485): At power-up an EVENT record gives the outage and any latched tamper. -/
  | whPowerUp
  /-- WH_SUPERCAP_EMPTY (R473): The supercapacitor runs out and time becomes invalid. -/
  | whSupercapEmpty
  /-- WH_READ_REG (R487): Management read of the Weighhouse registers. -/
  | whReadReg (off : Nat)
  /-- WH_READ_RECORD (R487): Management read of one store slot. -/
  | whReadRecord (area : Nat) (k : Nat)
  /-- WH_READ_CERT (R487): Management read of the metering certificate. -/
  | whReadCert
  /-- WH_TIME_ADJ (R473): Unauthenticated small adjustment of Weighhouse time. -/
  | whTimeAdj (v : Int)
  /-- WH_TIME_SET (R473): Authority-signed setting of Weighhouse time. -/
  | whTimeSet (ctr : Nat) (auth : Bool) (ns : Nat)
  /-- WH_PARAM_SET (R480): Authority-signed change of legally relevant parameters, blowing a seal fuse. -/
  | whParamSet (ctr : Nat) (auth : Bool) (kind : Nat) (v : Nat)
  /-- WH_FW_LOAD (R480): Authority-signed firmware load and restart, blowing a seal fuse. -/
  | whFwLoad (ctr : Nat) (auth : Bool) (version : Nat) (image : List Nat)
  /-- WH_TAMPER_CLEAR (R483): Authority-signed clear of TAMPER, blowing a seal fuse. -/
  | whTamperClear (ctr : Nat) (auth : Bool)
  /-- SQ_TAIL_WRITE (R502): Host writes a submission tail, making packets available or setting TAIL_BAD. -/
  | sqTailWrite (q : Nat) (v : Nat) (mem : List (Nat × Nat))
  /-- PACKET_TAKE (R503): The Reeve takes the next packet in turn and checks it. -/
  | packetTake (q : Nat) (ok : Bool) (bufOk : Bool)
  /-- Q_ENABLE (R502): Writing Q_CTRL.ENABLE to 1 resets the queue's rings, or is refused with commands outstanding. -/
  | qEnable (q : Nat)
  /-- Q_DISABLE (R502): Writing Q_CTRL.ENABLE to 0 stops taking packets. -/
  | qDisable (q : Nat)
  /-- URG_DOORBELL (R505): A doorbell submits an urgent slot, parsed in hardware ahead of the Reeve. -/
  | urgDoorbell (k : Nat)
  /-- TS_ENABLE (R512): Enabling a telemetry stream claims a hub timer. -/
  | tsEnable (k : Nat)
  /-- TS_SAMPLE_TICK (R512): A stream's period expires and it samples its register list into its ring. -/
  | tsSampleTick (k : Nat) (late : Bool)
  /-- REG_WRITE_PLAIN (R11): A write to a register field without behaviour of its own follows its access code. -/
  | regWritePlain (off : Nat) (v : Nat) (be : Nat)
  /-- JOB_START (R509): Starts a job from its descriptor in a free job slot. -/
  | jobStart (k : Nat) (kcvOk : Bool)
  /-- STEP (R35): Submits a training step, answered at its boundary. -/
  | step (k : Nat)
  /-- GENERATE (R508): Submits one serving token position. -/
  | generate (k : Nat)
  /-- RESHARD (R330): Orders a re-shard to a new epoch at the boundary of the named step. -/
  | reshard (k : Nat) (width : Nat)
  /-- JOB_END (R324): Ends a job, dropping remaining carries. -/
  | jobEnd (k : Nat)
  /-- PEER_WINDOW (R272): Opens a window of this device's Granary to a peer rank. -/
  | peerWindow (k : Nat)
  /-- HOST_WINDOW (R273): Opens a host-memory window for a job. -/
  | hostWindow (k : Nat)
  /-- WINDOW_CLOSE (R276): Closes a peer or host window. -/
  | windowClose (k : Nat)
  /-- HOST_COPY (R452): Copies whole pages between a host window and the Granary. -/
  | hostCopy (k : Nat)
  /-- REG_READ (R498): Reads a register through the Reeve relay. -/
  | regRead (k : Nat)
  /-- REG_WRITE (R497): Writes a register under a mask through the Reeve. -/
  | regWrite (k : Nat)
  /-- RANK_SET (R305): Writes rank-table entries. -/
  | rankSet (k : Nat)
  /-- LASER_SWAP_START (R297): Starts the swap of a laser module by moving its engines to the alternate feed. -/
  | laserSwapStart (k : Nat)
  /-- LASER_SWAP_ENABLE (R297): Enables a replaced laser module. -/
  | laserSwapEnable (k : Nat)
  /-- TIME_SET (R301): Sets the PTP clock's time of day. -/
  | timeSet (k : Nat)
  /-- CFG_WRITE (R430): Owner-authenticated write of a persistent configuration slot. -/
  | cfgWrite (k : Nat)
  /-- SAK_INSTALL (R455): Owner-authenticated install of static MACsec keys for a switched port. -/
  | sakInstall (k : Nat)
  /-- TABLE_LOAD (R197): Loads entries and metadata into a tile's inactive table bank. -/
  | tableLoad (k : Nat) (readback : Bool)
  /-- DESC_WRITE (R205): Reeve writes descriptors of a tile that is not running. -/
  | descWrite (k : Nat)
  /-- TABLE_BANK_SWITCH_NOW (R200): Switches an idle tile's table bank at once. -/
  | tableBankSwitchNow (k : Nat)
  /-- TABLE_BANK_SWITCH_ARM (R199): Arms a table bank switch for the next step boundary. -/
  | tableBankSwitchArm (k : Nat)
  /-- BARRIER_CFG (R238): Configures a barrier slot. -/
  | barrierCfg (k : Nat)
  /-- RING_CFG (R244): Configures a ring queue. -/
  | ringCfg (k : Nat)
  /-- GROUP_CFG (R307): Configures a collective group slot. -/
  | groupCfg (k : Nat)
  /-- LAYOUT_LOAD (R328): Loads layout-table entries into the pending slot. -/
  | layoutLoad (k : Nat)
  /-- RETIRE_PAGE (R265): Orders retirement of a Granary page. -/
  | retirePage (k : Nat)
  /-- RETIRE_STACK (R268): Orders retirement of a Granary stack. -/
  | retireStack (k : Nat)
  /-- QUARANTINE_RELEASE (R385): Owner-authenticated release of a quarantined tile after tests. -/
  | quarantineRelease (k : Nat) (ok : Bool)
  /-- FIRST_FAILURE_CLEAR (R394): Owner-authenticated clear of the first-failure region. -/
  | firstFailureClear (k : Nat)
  /-- PARITY_CFG (R407): Configures the device's parity group. -/
  | parityCfg (k base c : Nat)
  /-- SNAP_NOW (R412): Orders a snapshot at the start of the next step. -/
  | snapNow (k : Nat)
  /-- RECOVER (R420): Starts peer recovery into a new epoch. -/
  | recover (k c : Nat) (lost : Bool) (mem : List (Nat × Nat)) (full : Bool)
  /-- RESTORE (R423): Restores a job from a snapshot generation and starts replay. -/
  | restore (k : Nat) (akOk : Bool)
  /-- BI_RESIZE (R406): Enlarges or moves the before-image area. -/
  | biResize (k : Nat)
  /-- ALLOT_RELEASE (R417): Releases a job's Silo allotment and generations. -/
  | allotRelease (k : Nat)
  /-- EXPORT (R418): Exports a valid generation into a host window. -/
  | exportGen (k : Nat)
  /-- IMPORT (R418): Imports a generation into a Silo allotment. -/
  | importGen (k : Nat)
  /-- ATTEST (R445): Returns an attestation report and certificates for a tenant nonce. -/
  | attest (k : Nat)
  /-- SESSION_OPEN (R445): Opens a tenant session and installs its TRK. -/
  | sessionOpen (k : Nat)
  /-- SESSION_CLOSE (R448): Closes a tenant session, destroying keys and zero-filling partitions. -/
  | sessionClose (k : Nat)
  /-- PART_ALLOC (R449): Allocates and zero-fills a tenant partition. -/
  | partAlloc (k : Nat)
  /-- PART_FREE (R449): Zero-fills and frees a tenant partition. -/
  | partFree (k : Nat)
  /-- FW_LOAD (R440): Owner-authenticated firmware load into the unbooted slot. -/
  | fwLoad (k : Nat)
  /-- FUSE_SVN (R441): Blows SVN fuses up to the booted image's SVN. -/
  | fuseSvn (k : Nat)
  /-- OWNER_CLAIM (R443): Claims an unowned device with its claim code. -/
  | ownerClaim (k : Nat)
  /-- OWNER_TRANSFER (R443): Installs a new owner record signed by the current owner. -/
  | ownerTransfer (k : Nat)
  /-- LOCK (R461): Sets TC_LOCK bits. -/
  | lockBits (k : Nat)
  /-- SLEEP (R525): Enters Sleep when no job slot is in use. -/
  | sleep (k : Nat)
  /-- DEEP_SLEEP (R525): Enters Deep sleep when no job slot is in use. -/
  | deepSleep (k : Nat)
  /-- OFF (R525): Enters Off when no job slot is in use. -/
  | powerOff (k : Nat)
  /-- WAKE_TIMER (R525): Sets or cancels the wake timer. -/
  | wakeTimer (k : Nat)
  /-- TELEM_SAMPLE (R513): Writes one sample of a stream's list into a buffer. -/
  | telemSample (k : Nat)
  /-- HALT (R505): Urgent halt of every tile of a job within 1 µs. -/
  | halt (k : Nat)
  /-- FENCE (R333): Urgent fence of a job's class-1 and class-2 traffic. -/
  | fence (k : Nat)
  /-- DRAIN (R334): Urgent drain ending a job's held and open collectives. -/
  | drain (k : Nat)
  /-- FENCE_LIFT (R333): Lifts a standing fence. -/
  | fenceLift (k : Nat)
  /-- STARTUP_ROW (R30): A start-up row begins once the blocks it depends on have started. -/
  | startupRow (row : Nat) (ok : Bool) (bad : List Nat)
  /-- COLD_RESET (R534): The standby rail rises and the cold start sequence begins. -/
  | coldReset
  /-- PWR_GOOD_RISE (R534): PWR_GOOD rises and the main domains are powered. -/
  | pwrGoodRise
  /-- PERST_RELEASE (R534): PERST_N rises and start-up rows 2 to 8 run. -/
  | perstRelease
  /-- WARM_RESET (R535): PERST_N held low for 1 µs halts, darkens and resets the main device. -/
  | warmReset
  /-- PCIE_HOT_RESET (R492): A hot reset or link disable on PCIe acts as a warm reset. -/
  | pcieHotReset (disable : Bool)
  /-- PCIE_LINK_DOWN (R492): The PCIe link drops and retrains while jobs continue. -/
  | pcieLinkDown
  /-- POWER_FAULT (R541): A supply fault halts jobs, flushes the Daybook and drops the device to Off. -/
  | powerFault (r : Nat)
  /-- STANDBY_RAIL_LOSS (R541): The standby rail is lost and the main domains go down. -/
  | standbyRailLoss
  /-- REFCLK_LOSS (R533): REFCLK loss halts jobs and takes ports down. -/
  | refclkLoss
  /-- REFCLK_RELOCK (R533): REFCLK stable for 10 ms relocks the PLLs and retrains ports. -/
  | refclkRelock
  /-- IDLE_ENTRY (R521): No job and no enabled tile for the idle delay stops TCLK. -/
  | idleEntry
  /-- WAKE_IN_EDGE (R527): WAKE_IN held high 1 ms wakes the device. -/
  | wakeInEdge
  /-- HK_WAKE_NOW (R527): Host write to HK_WAKE.NOW wakes the device from Sleep. -/
  | hkWakeNow
  /-- WEIGHHOUSE_ALARM_WAKE (R527): The Weighhouse alarm level rises and wakes the device. -/
  | weighhouseAlarmWake
  /-- WAKE_TIMER_EXPIRE (R527): HK_TIMER reaches 0 and wakes the device. -/
  | wakeTimerExpire
  /-- THERMAL_SAMPLE (R542): Sensor readings are compared with warn and throttle limits. -/
  | thermalSample (readings : List (Nat × Nat))
  /-- THERMAL_TRIP (R542): A trip comparator halts jobs, drives THERM_TRIP_N low and powers down to Off. -/
  | thermalTrip (off : Nat)
  /-- THERM_TRIP_RELEASE (R542): A trip releases and the device wakes if AUTO_RESUME is set. -/
  | thermTripRelease
  /-- THROTTLE_RISE (R543): Every 1 ms over a limit or the power cap the throttle level rises. -/
  | throttleRise
  /-- THROTTLE_FALL (R543): Every 10 ms well under the limits the throttle level falls. -/
  | throttleFall
  /-- STBY_TIME_LOAD (R532): Each second the standby time counter is loaded from the PTP clock. -/
  | stbyTimeLoad
  /-- D2D_LANE_RETRAIN (R545): A die-to-die link retrains one lane on its spare. -/
  | d2dLaneRetrain (l : Nat) (fail : Bool)
  /-- MGMT_READ_HK (R540): Management reads a housekeeping register and releases MGMT_ALERT_N. -/
  | mgmtReadHk (off : Nat)
  /-- MGMT_READ_DAYBOOK (R540): Management reads one Daybook entry. -/
  | mgmtReadDaybook (n : Nat)
  /-- MGMT_READ_STATE (R540): Management reads power state, last wake and reset cause. -/
  | mgmtReadState
  /-- MGMT_WAKE (R540): Management WAKE command wakes the device. -/
  | mgmtWake
  /-- MGMT_LASER_SWAP (R540): Management request for a laser swap. -/
  | mgmtLaserSwap (m : Nat) (phase : Nat)
  /-- MGMT_ALERT_RESPONSE (R540): The endpoint answers the SMBus alert-response address. -/
  | mgmtAlertResponse
  /-- POWER_STATE_ENTRY_DONE (R521): Entry into Sleep, Deep sleep or Off completes, moving HK_PSTATE from its entry state to the target state and starting exit at once if a wake was latched. -/
  | powerStateEntryDone
  /-- SLEEP_EXIT_DONE (R524): Exit from Sleep completes once the clocks run, self-refresh is left and the ports are up, and the Reeve sets READY. -/
  | sleepExitDone
  /-- PCIE_LINK_UP (R529): The PCIe link finishes training and comes up, releasing WAKE_OUT_N and letting ring fetches resume. -/
  | pcieLinkUp (speed : Nat) (width : Nat)
  /-- WH_LANE_DOWN (R470): A compute die's work lane goes down at the Weighhouse receiver, setting LINK_DOWN and raising the alarm if the die is powered. -/
  | whLaneDown (die : Nat)
  /-- PTP_LOCK_LOST (R301): The PTP clock loses lock to its time transmitter and goes into holdover on REFCLK, with the change recorded in the Daybook. -/
  | ptpLockLost
  /-- COUPLER_MOVE_DONE (R297): The 100 µs coupler move of a laser swap completes, after which LASER_EN[m] is driven low and SAFE_TO_REMOVE is set. -/
  | couplerMoveDone (e : Nat)
  /-- REFRESH_MANAGEMENT_REQUEST (R261): An HBM4 stack requests refresh through refresh management, and the controller issues the requested refresh. -/
  | refreshManagementRequest (k : Nat) (bank : Nat) (pc : Nat) (rows : List Nat) (cycles : Nat)
  /-- LATCHING_READ (R498): A host BAR read of the low half of a LO/HI pair latches the high half for that requester, with its side effects happening once. -/
  | latchingRead (off : Nat)
  deriving DecidableEq, Repr

end Sys2Proof
end

