-- ==== Sys2Proof/Machine/Sparse.lean ====
section
/-! DEFINITION. Reading and writing a sparse store, and bytes held in one. -/

namespace Sys2Proof.Machine

/-- The value under key `k`; `d` where none is listed. -/
def sget {α : Type} (d : α) : Sparse α → Nat → α
  | [], _ => d
  | (k', v) :: r, k => if k' = k then v else sget d r k

/-- `v` put under key `k`, the keys' order kept. -/
def sput {α : Type} : Sparse α → Nat → α → Sparse α
  | [], k, v => [(k, v)]
  | (k', v') :: r, k, v =>
    if k < k' then (k, v) :: (k', v') :: r
    else if k = k' then (k, v) :: r
    else (k', v') :: sput r k v

/-- Key `k` taken out. -/
def sdel {α : Type} (m : Sparse α) (k : Nat) : Sparse α := m.filter (fun e => e.1 != k)

/-- `v` written under key `k` of a store whose unlisted keys hold `d`: writing `d` takes the entry out. -/
def sset {α : Type} [DecidableEq α] (d : α) (m : Sparse α) (k : Nat) (v : α) : Sparse α :=
  if v = d then sdel m k else sput m k v

/-- The listed value under `k`, if there is one. -/
def sget? {α : Type} : Sparse α → Nat → Option α
  | [], _ => none
  | (k', v) :: r, k => if k' = k then some v else sget? r k

/-- The keys of a store rise strictly. -/
def keysRise {α : Type} : Sparse α → Bool
  | [] => true
  | [_] => true
  | a :: b :: r => a.1 < b.1 && keysRise (b :: r)

/-- Canonical form: keys rise strictly and no entry equals the default. -/
def canonical {α : Type} [DecidableEq α] (d : α) (m : Sparse α) : Bool :=
  keysRise m && m.all (fun e => e.2 != d)

/-- A byte of a memory; a byte nothing has written reads 0 (log entry 2). -/
def rdByte (m : List Host.Cell) (a : Nat) : Byte := sget 0 m a

/-- A byte written. -/
def wrByte (m : List Host.Cell) (a : Nat) (v : Byte) : List Host.Cell := sset 0 m a v

/-- `n` bytes from `a` up. -/
def rdBytes (m : List Host.Cell) (a n : Nat) : List Byte := (List.range n).map (fun i => rdByte m (a + i))

/-- Bytes written from `a` up. -/
def wrBytes : List Host.Cell → Nat → List Byte → List Host.Cell
  | m, _, [] => m
  | m, a, b :: bs => wrBytes (wrByte m a b) (a + 1) bs

/-- The canonical form of a byte memory. -/
def Memory.wf (m : List Host.Cell) : Bool := canonical (0 : Byte) m

/-- The little-endian value of bytes (R9). -/
def leNat : List Byte → Nat
  | [] => 0
  | b :: bs => b.toNat + 256 * leNat bs

/-- The `n` little-endian bytes of a value (R9). -/
def leBytes : Nat → Nat → List Byte
  | 0, _ => []
  | n + 1, v => BitVec.ofNat 8 v :: leBytes n (v / 256)

/-- Bits [hi:lo] of a natural number. -/
def bits (v hi lo : Nat) : Nat := (v >>> lo) % 2 ^ (hi + 1 - lo)

/-- Bit `i`. -/
def bit (v i : Nat) : Bool := v.testBit i

/-- `v` with bits [hi:lo] replaced by `x`. -/
def setBits (v hi lo x : Nat) : Nat :=
  v - (bits v hi lo) <<< lo + (x % 2 ^ (hi + 1 - lo)) <<< lo

/-- A Boolean as a bit. -/
def b2n (b : Bool) : Nat := if b then 1 else 0

/-- The two's-complement value of the low `n` bits of `v`. -/
def sext (v n : Nat) : Int :=
  let x := v % 2 ^ n
  if x ≥ 2 ^ (n - 1) then (x : Int) - 2 ^ n else x

/-- The low `n` bits of an integer. -/
def wrapN (i : Int) (n : Nat) : Nat := (i % (2 ^ n : Int)).toNat

end Sys2Proof.Machine
end

