-- ==== Sys2Proof/Machine/Value.lean ====
section
/-! DEFINITION. Exact values: what a code of any format stands for, and exact sums, products and comparisons of them
(R64, R75, R78). A finite value is a sign, a magnitude and a power of two, so minus zero keeps its sign (R52). -/

namespace Sys2Proof.Machine

/-- An exact value: NaN (signalling or quiet), an infinity, or sign × mag × 2^exp. -/
inductive Val where
  | nan (signalling : Bool)
  | inf (neg : Bool)
  | fin (neg : Bool) (mag : Nat) (exp : Int)
  deriving DecidableEq, Repr

/-- Plus zero. -/
def Val.zero : Val := .fin false 0 0

/-- A value from an integer times a power of two. -/
def Val.ofInt (i : Int) (e : Int) : Val := .fin (i < 0) i.natAbs e

/-- The signed integer of a finite value in units of 2^u, for u at or below its exponent. -/
def scaledInt (neg : Bool) (mag : Nat) (e u : Int) : Int :=
  let m : Int := (mag * 2 ^ (e - u).toNat : Nat)
  if neg then -m else m

/-- NaN of either kind. -/
def Val.isNan : Val → Bool
  | .nan _ => true
  | _ => false

/-- A signalling NaN. -/
def Val.isSnan : Val → Bool
  | .nan s => s
  | _ => false

/-- An infinity of either sign. -/
def Val.isInf : Val → Bool
  | .inf _ => true
  | _ => false

/-- A zero of either sign. -/
def Val.isZero : Val → Bool
  | .fin _ m _ => m == 0
  | _ => false

/-- A finite value. -/
def Val.isFin : Val → Bool
  | .fin .. => true
  | _ => false

/-- The sign: true for minus, minus zero included. -/
def Val.isNeg : Val → Bool
  | .fin n _ _ => n
  | .inf n => n
  | .nan _ => false

/-- The value with its sign turned. -/
def Val.neg : Val → Val
  | .fin n m e => .fin (!n) m e
  | .inf n => .inf (!n)
  | .nan s => .nan s

/-- The magnitude. -/
def Val.abs : Val → Val
  | .fin _ m e => .fin false m e
  | .inf _ => .inf false
  | .nan s => .nan s

/-- Exact sum. A zero sum of unlike signs is +0 here; the IEEE sign of a zero sum is fixed where rounding is known.
NaN absorbs; opposite infinities give NaN (R64). -/
def Val.add : Val → Val → Val
  | .nan _, _ => .nan false
  | _, .nan _ => .nan false
  | .inf a, .inf b => if a = b then .inf a else .nan false
  | .inf a, .fin .. => .inf a
  | .fin .., .inf b => .inf b
  | .fin n m e, .fin n' m' e' =>
    if m = 0 ∧ m' = 0 then .fin (n && n') 0 0
    else if m = 0 then .fin n' m' e'
    else if m' = 0 then .fin n m e
    else
      let u := min e e'
      Val.ofInt (scaledInt n m e u + scaledInt n' m' e' u) u

/-- Exact product; zero times infinity is NaN (R64). -/
def Val.mul : Val → Val → Val
  | .nan _, _ => .nan false
  | _, .nan _ => .nan false
  | .inf a, .inf b => .inf (a != b)
  | .inf a, .fin n m _ => if m = 0 then .nan false else .inf (a != n)
  | .fin n m _, .inf b => if m = 0 then .nan false else .inf (n != b)
  | .fin n m e, .fin n' m' e' => .fin (n != n') (m * m') (e + e')

/-- The value times 2^k. -/
def Val.scale : Val → Int → Val
  | .fin n m e, k => .fin n m (e + k)
  | v, _ => v

/-- Order of two values that are not NaN, zeros equal: less, equal or greater. -/
def Val.cmp (a b : Val) : Ordering :=
  match a, b with
  | .inf x, .inf y => if x = y then .eq else if x then .lt else .gt
  | .inf x, _ => if x then .lt else .gt
  | _, .inf y => if y then .gt else .lt
  | .fin n m e, .fin n' m' e' =>
    let u := min e e'
    compare (scaledInt n m e u) (scaledInt n' m' e' u)
  | _, _ => .eq

/-- Strictly less, for values that are not NaN. -/
def Val.lt (a b : Val) : Bool := a.cmp b == .lt

/-- Equal as numbers, for values that are not NaN. -/
def Val.eqv (a b : Val) : Bool := a.cmp b == .eq

/-- The exact value in units of 2^u where it is a whole number of them. -/
def Val.inUnits (v : Val) (u : Int) : Option Int :=
  match v with
  | .fin n m e =>
    if u ≤ e then some (scaledInt n m e u)
    else
      let d := 2 ^ (u - e).toNat
      if m % d = 0 then some (if n then -((m / d : Nat) : Int) else ((m / d : Nat) : Int)) else none
  | _ => none

/-- The power of two of the leading bit of a nonzero magnitude. -/
def topExp (mag : Nat) (e : Int) : Int := e + (Nat.log2 mag : Int)

end Sys2Proof.Machine
end

