-- ==== Sys2Proof/Config.lean ====
section
/-! DEFINITION. What the spec leaves open: free values, constants without a body, so that a statement holds whatever they
are. -/

namespace Sys2Proof.Config

open Sys2Proof.Machine (Val)

/-- A free value for each count of the state's counter (log entry 1). -/
opaque freeNat : Nat → Nat

/-- The run of a block that a finite product of two operand formats joins: which 40-bit band of product exponent (R83,
G16), and on which side of the fixed product magnitude (R83, G8w). The spec does not place the bands (log entry 8). -/
opaque runBand (fa fb : Nat) (product : Val) : Nat

/-- Which of the codes within the bound of R66 a fast function delivers: the function, the format's fraction width, the
operands (log entry 10). -/
opaque fastPick (fn fw : Nat) (x y : Val) : Nat

/-- The result code of an FP64 reduction in the native order of R100: the shape code, the initial value and the terms
(log entry 11). -/
opaque nativeOrder (shape init : Nat) (terms : List (Nat × Nat)) : Nat

/-- Whether 0 × ∞ plus a quiet NaN signals invalid, which IEEE 754-2019 leaves to the implementation (log entry 12). -/
opaque fmaNanInvalid : Bool

/-- The type of the error record that a trust-core log event writes where the spec names none (R463; log entry 61). -/
opaque errType (event : Nat) : Nat

/-- The reason code of a Binder log record that the spec orders without a code: 0 a HALT, FENCE or DRAIN dropped (R292), 1 a
transfer that meets no peer window (R272; log entry 62). -/
opaque binderReason (kind : Nat) : Nat

/-- The DIK's public keys, the ECDSA key first (R436): they come from the device's own secret. -/
opaque dikPublic : List Nat

/-- Whether the ECDSA P-384 and ML-DSA-87 parts of a signature block verify under public keys over a digest (R457; log entry
75). -/
opaque verify (keys digest block : List Nat) : Bool

/-- The unique device secret, 256 bits (R436). -/
opaque uds : Nat

/-- The AK's public keys, 2,689 bytes as a number, by M0 (R436): they come from the device's own secret. -/
opaque akPublic (m0 : List Nat) : Nat

/-- The AK's ECDSA and ML-DSA signatures over a digest, 4,723 bytes as a number (R457). -/
opaque akSign (m0 digest : List Nat) : Nat

/-- The DIK certificate, 12 KiB as a number (R437). -/
opaque dikCert : Nat

/-- The DIK's signature block in the AK certificate, 8 KiB as a number (R437). -/
opaque akCertBlock (m0 : List Nat) : Nat

/-- The public keys of an ephemeral ECDH and ML-KEM pair, 1,665 bytes as a number (R445). -/
opaque ephPublic (n : Nat) : Nat

/-- Z of a session, 80 bytes as a number, by the ephemeral pair and the tenant's key and ciphertext (R445). -/
opaque sharedSecret (eph : Nat) (tenant : List Nat) : Nat

/-- What an image's header says and whether its signature block verifies (R438, R439): class, version, SVN. The spec does not lay the
header out (log entry 96). -/
opaque imageHeader (image : List Nat) : Nat × Nat × Nat × Bool

/-- The public key of the metering key pair, 97 bytes as a number (R477): it comes from the Weighhouse's own secret. -/
opaque whPublic : Nat

/-- The metering key's signature over a digest, 96 bytes as a number (R475). -/
opaque whSign : List Nat → Nat

/-- The metering root's signature in the certificate, 96 bytes as a number (R477). -/
opaque whRoot : Nat

/-- The 30 detail bytes of an EVENT record, as a number, by its code and what it reports; the spec does not lay them out (R476; log
entry 91). -/
opaque whDetail (code fact : Nat) : Nat

end Sys2Proof.Config
end

