-- ==== Sys2Proof/Machine/Round.lean ====
section
/-! DEFINITION. Rounding one exact value once into a format (R62, R63, R124), with the NUM_STATUS flags it raises
(R58). -/

namespace Sys2Proof.Machine

/-! The NUM_STATUS bits of R58. -/

/-- INVALID. -/
def nsINVALID : Nat := 1
/-- DIVZERO. -/
def nsDIVZERO : Nat := 2
/-- OVERFLOW. -/
def nsOVERFLOW : Nat := 4
/-- UNDERFLOW. -/
def nsUNDERFLOW : Nat := 8
/-- INEXACT. -/
def nsINEXACT : Nat := 16
/-- FLUSHED. -/
def nsFLUSHED : Nat := 32
/-- SAT. -/
def nsSAT : Nat := 64
/-- SCALE_RSVD. -/
def nsSCALE_RSVD : Nat := 128
/-- NV_OUT. -/
def nsNV_OUT : Nat := 256

/-- A flag mask when a condition holds. -/
def flagIf (c : Bool) (m : Nat) : Nat := if c then m else 0

/-- Rounding directions: the four of NUM_CTRL.RND (R56), and the stochastic rounding of R124 with its 32-bit draw. -/
inductive Rm where
  | ne
  | up
  | down
  | zero
  | sr (u : Nat)
  deriving DecidableEq, Repr

/-- Stochastic rounding. -/
def Rm.isSr : Rm → Bool
  | .sr _ => true
  | _ => false

/-- NUM_CTRL.RND as a direction (R56). -/
def rmOfRnd (r : Nat) : Rm :=
  match r with
  | 0 => .ne
  | 1 => .up
  | 2 => .down
  | _ => .zero

/-- A magnitude m ÷ 2^sh rounded to an integer, and whether that changed it. `sticky` says that the true magnitude lies
strictly between m and m + 1; a caller that sets it leaves at least two bits below the rounding place. -/
def roundShift (rm : Rm) (neg : Bool) (m sh : Nat) (sticky : Bool) : Nat × Bool :=
  let q := m >>> sh
  let r := m % 2 ^ sh
  let inexact := r != 0 || sticky
  let up : Bool :=
    match rm with
    | .ne => inexact && (2 * r > 2 ^ sh || (2 * r == 2 ^ sh && (sticky || q % 2 == 1)))
    | .up => inexact && !neg
    | .down => inexact && neg
    | .zero => false
    | .sr u => inexact && (r * 2 ^ 32) / 2 ^ sh + u ≥ 2 ^ 32
  (if up then q + 1 else q, inexact)

/-- A binary floating-point format: exponent width and fraction width (R48). -/
structure Ieee where
  ew : Nat
  fw : Nat
  deriving DecidableEq, Repr

/-- G16 (R48). -/
def ieeeG16 : Ieee := ⟨8, 7⟩
/-- FP16 (R48). -/
def ieeeFP16 : Ieee := ⟨5, 10⟩
/-- FP32 (R48). -/
def ieeeFP32 : Ieee := ⟨8, 23⟩
/-- FP64 (R48). -/
def ieeeFP64 : Ieee := ⟨11, 52⟩

/-- The exponent bias. -/
def Ieee.bias (f : Ieee) : Int := 2 ^ (f.ew - 1) - 1
/-- The sign bit's weight in a code. -/
def Ieee.signBit (f : Ieee) : Nat := 2 ^ (f.ew + f.fw)
/-- The code of +∞ (R48). -/
def Ieee.infCode (f : Ieee) : Nat := (2 ^ f.ew - 1) * 2 ^ f.fw
/-- The canonical NaN (R48, R49). -/
def Ieee.nanCode (f : Ieee) : Nat := f.infCode + 2 ^ (f.fw - 1)
/-- The code of the largest finite value. -/
def Ieee.maxCode (f : Ieee) : Nat := f.infCode - 1
/-- The code of a zero of a sign. -/
def Ieee.zeroCode (f : Ieee) (neg : Bool) : Nat := if neg then f.signBit else 0

/-- What a code stands for (R48). -/
def Ieee.decode (f : Ieee) (c : Nat) : Val :=
  let neg := c.testBit (f.ew + f.fw)
  let e := bits c (f.ew + f.fw - 1) f.fw
  let m := c % 2 ^ f.fw
  if e = 2 ^ f.ew - 1 then
    if m = 0 then .inf neg else .nan (!m.testBit (f.fw - 1))
  else if e = 0 then .fin neg m (1 - f.bias - f.fw)
  else .fin neg (2 ^ f.fw + m) (e - f.bias - f.fw)

/-- A subnormal code. -/
def Ieee.subnormal (f : Ieee) (c : Nat) : Bool :=
  bits c (f.ew + f.fw - 1) f.fw == 0 && c % 2 ^ f.fw != 0

/-- The IEEE overflow result for a direction and sign (R63). -/
def Ieee.overflow (f : Ieee) (rm : Rm) (neg : Bool) : Nat :=
  let toInf := match rm with
    | .ne => true
    | .sr _ => true
    | .up => !neg
    | .down => neg
    | .zero => false
  (if neg then f.signBit else 0) + (if toInf then f.infCode else f.maxCode)

/-- A nonzero magnitude mag × 2^e (with `sticky` above it) rounded into the format: its code, and the flags OVERFLOW,
UNDERFLOW (tininess after rounding, R58) and INEXACT. A magnitude above the largest finite value rounds to nearest under
stochastic rounding (R124). -/
def Ieee.roundMag (f : Ieee) (rm : Rm) (neg : Bool) (mag : Nat) (e : Int) (sticky : Bool) : Nat × Nat :=
  let emin : Int := 1 - f.bias
  let p := topExp mag e
  let top : Int := f.bias
  let rm' : Rm := match rm with
    | .sr u =>
      if p > top then .ne
      else if p = top ∧ (f.fw : Int) ≤ p - e ∧ mag > (2 ^ (f.fw + 1) - 1) * 2 ^ (p - e - f.fw).toNat then .ne
      else .sr u
    | r => r
  let ulp : Int := (if p < emin then emin else p) - f.fw
  let (q, inexact) :=
    if e ≥ ulp then (mag * 2 ^ (e - ulp).toNat, sticky)
    else roundShift rm' neg mag (ulp - e).toNat sticky
  let body : Nat :=
    if p < emin then q else ((p + f.bias).toNat) * 2 ^ f.fw + q - 2 ^ f.fw
  let s := if neg then f.signBit else 0
  if p > top ∨ body ≥ f.infCode then (f.overflow rm' neg, nsOVERFLOW + nsINEXACT)
  else
    let tiny : Bool :=
      if p < emin - 1 then true
      else if p < emin then
        let u' := p - f.fw
        let q' := if e ≥ u' then mag * 2 ^ (e - u').toNat else (roundShift rm' neg mag (u' - e).toNat sticky).1
        q' < 2 ^ (f.fw + 1)
      else false
    let under := match rm with
      | .sr _ => inexact && bits body (f.ew + f.fw - 1) f.fw == 0
      | _ => inexact && tiny
    (s + body, flagIf inexact nsINEXACT + flagIf under nsUNDERFLOW)

/-- A value rounded once into a binary floating-point format (R62, R63). -/
def Ieee.encode (f : Ieee) (rm : Rm) (v : Val) (sticky : Bool := false) : Nat × Nat :=
  match v with
  | .nan s => (f.nanCode, flagIf s nsINVALID)
  | .inf n => ((if n then f.signBit else 0) + f.infCode, 0)
  | .fin n m e => if m = 0 then (f.zeroCode n, 0) else f.roundMag rm n m e sticky

/-- A stored zero is +0 (R52). -/
def Ieee.stored (f : Ieee) (c : Nat) : Nat := if c = f.signBit then 0 else c

/-- A block-scaled format: exponent width, fraction width and bias (R43). -/
structure GFmt where
  e : Nat
  m : Nat
  b : Nat
  deriving DecidableEq, Repr

/-- The NV code of a block-scaled format (R43): the code that would be minus zero. -/
def GFmt.nv (g : GFmt) : Nat := 2 ^ (g.e + g.m)
/-- The code of the largest finite magnitude (R43). -/
def GFmt.maxCode (g : GFmt) : Nat := 2 ^ (g.e + g.m) - 1
/-- The largest finite magnitude (R43), as mag × 2^exp. -/
def GFmt.maxVal (g : GFmt) : Val := .fin false (2 ^ (g.m + 1) - 1) ((2 ^ g.e - 1 : Int) - g.b - g.m)

/-- A valid scale code: −96 to +95 (R45). -/
def scaleValid (s : Int) : Bool := -96 ≤ s && s ≤ 95

/-- What an element code and its block's scale code stand for (R42). -/
def GFmt.decode (g : GFmt) (c : Nat) (s : Int) : Val :=
  if s = -128 then Val.zero
  else if !scaleValid s then .nan false
  else
    let sign := c.testBit (g.e + g.m)
    let e := bits c (g.e + g.m - 1) g.m
    let m := c % 2 ^ g.m
    if sign && e == 0 && m == 0 then .nan false
    else if e = 0 then .fin sign m (1 - (g.b : Int) - g.m + s)
    else .fin sign (2 ^ g.m + m) ((e : Int) - g.b - g.m + s)

/-- A value rounded once onto a block-scaled format's grid at a valid scale (R62, R63, R53). -/
def GFmt.encode (g : GFmt) (rm : Rm) (v : Val) (s : Int) : Nat × Nat :=
  match v with
  | .nan _ => (g.nv, nsNV_OUT)
  | .inf _ => (g.nv, nsNV_OUT)
  | .fin n mag e0 =>
    if mag = 0 then (0, 0)
    else if (Val.scale g.maxVal s).lt (.fin false mag e0) then
      (g.maxCode + (if n then g.nv else 0), nsSAT + nsINEXACT)
    else
      let e := e0 - s
      let emin : Int := 1 - (g.b : Int)
      let p := topExp mag e
      let ulp : Int := (if p < emin then emin else p) - g.m
      let (q, inexact) :=
        if e ≥ ulp then (mag * 2 ^ (e - ulp).toNat, false) else roundShift rm n mag (ulp - e).toNat false
      let body : Nat := if p < emin then q else ((p + g.b).toNat) * 2 ^ g.m + q - 2 ^ g.m
      let small := body < 2 ^ g.m
      let fl := flagIf inexact nsINEXACT + flagIf (inexact && small) nsUNDERFLOW
      if body = 0 then (0, fl) else (body + (if n then g.nv else 0), fl)

/-- A finite value rounded to an integer (R62). -/
def roundToInt (rm : Rm) (n : Bool) (mag : Nat) (e : Int) : Int × Bool :=
  let (q, inexact) :=
    if e ≥ 0 then (mag * 2 ^ e.toNat, false) else roundShift rm n mag (-e).toNat false
  (if n then -(q : Int) else q, inexact)

/-- A value converted to a two's-complement integer of `w` bits (R63): the code, the flags, and whether a finite value
was clamped. `fromFloat` says whether the source is a floating-point format. -/
def intEncode (w : Nat) (rm : Rm) (fromFloat : Bool) (v : Val) : Nat × Nat × Bool :=
  let lo : Int := -(2 ^ (w - 1))
  let hi : Int := 2 ^ (w - 1) - 1
  match v with
  | .nan _ => (0, nsINVALID, false)
  | .inf n => (wrapN (if n then lo else hi) w, nsINVALID, false)
  | .fin n mag e =>
    let (i, inexact) := roundToInt rm n mag e
    if i < lo ∨ i > hi then
      (wrapN (if i < lo then lo else hi) w, if fromFloat then nsINVALID else nsSAT + nsINEXACT, true)
    else (wrapN i w, flagIf inexact nsINEXACT, false)

end Sys2Proof.Machine
end

