-- ==== Sys2Proof/Machine/Format.lean ====
section
/-! DEFINITION. The thirteen formats (R40): widths, packing (R44), what codes stand for (R42, R48, R51, R76, R78,
R79), conversions into each (R61 to R63), and the canonical Stook of a value (R80). -/

namespace Sys2Proof.Machine

/-! Format codes of R40. -/

/-- G4. -/
def fG4 : Nat := 0
/-- G6a. -/
def fG6a : Nat := 1
/-- G6b. -/
def fG6b : Nat := 2
/-- G8. -/
def fG8 : Nat := 3
/-- G8w. -/
def fG8w : Nat := 4
/-- I8. -/
def fI8 : Nat := 5
/-- G16. -/
def fG16 : Nat := 6
/-- FP16. -/
def fFP16 : Nat := 7
/-- FP32. -/
def fFP32 : Nat := 8
/-- FP64. -/
def fFP64 : Nat := 9
/-- Stook. -/
def fStook : Nat := 10
/-- Bushel. -/
def fBushel : Nat := 11
/-- I32. -/
def fI32 : Nat := 12

/-- A format code that is not reserved (R41). -/
def fmtOk (f : Nat) : Bool := f ≤ 12

/-- The element width in bits (R40). -/
def fmtWidth (f : Nat) : Nat := [4, 6, 6, 8, 8, 8, 16, 16, 32, 64, 128, 640, 32].getD f 8

/-- A block-scaled format (R40). -/
def isGBlock (f : Nat) : Bool := f ≤ 4

/-- The block-scaled formats' parameters (R43). -/
def gfmt (f : Nat) : GFmt :=
  match f with
  | 0 => ⟨2, 1, 1⟩
  | 1 => ⟨2, 3, 1⟩
  | 2 => ⟨3, 2, 3⟩
  | 3 => ⟨4, 3, 7⟩
  | _ => ⟨5, 2, 15⟩

/-- The binary floating-point formats' parameters (R48). -/
def ieeeFmt (f : Nat) : Option Ieee :=
  match f with
  | 6 => some ieeeG16
  | 7 => some ieeeFP16
  | 8 => some ieeeFP32
  | 9 => some ieeeFP64
  | _ => none

/-- A floating-point format: one whose out-of-range value turned integer raises INVALID (R63). -/
def isFloat (f : Nat) : Bool := f ≤ 4 || (6 ≤ f && f ≤ 9)

/-! Bushels and Stooks. -/

/-- The Bushel code of a value, saturated under R77, and whether it saturated (R75, R76). -/
def bushelCode (v : Val) : Nat × Bool :=
  match v with
  | .nan _ => (2 ^ 639, false)
  | .inf n => (2 ^ 639 + (if n then 2 else 1), false)
  | .fin n m e =>
    let i : Int :=
      if e ≥ -320 then scaledInt n m e (-320)
      else let q : Nat := m / 2 ^ (-320 - e).toNat
           if n then -(q : Int) else q
    if i > 2 ^ 639 - 1 then (2 ^ 639 - 1, true)
    else if i < -(2 ^ 639) + 3 then (2 ^ 639 + 3, true)
    else (wrapN i 640, false)

/-- What a Bushel code stands for (R76). -/
def bushelVal (c : Nat) : Val :=
  if c = 2 ^ 639 then .nan false
  else if c = 2 ^ 639 + 1 then .inf false
  else if c = 2 ^ 639 + 2 then .inf true
  else Val.ofInt (sext c 640) (-320)

/-- A value brought into the Bushel's finite range, and whether that changed it (R77). -/
def bushelClamp (v : Val) : Val × Bool :=
  let r := bushelCode v
  if r.2 then (bushelVal r.1, true) else (v, false)

/-- An exact addition into a Bushel (R77). -/
def bushelAdd (a b : Val) : Val × Bool := bushelClamp (a.add b)

/-- The 128-bit word of a window and a significand (R78). -/
def stookWord (w : Nat) (s : Int) : Nat := w * 2 ^ 120 + wrapN s 120

/-- The canonical word of a value that needs no escape; none when it needs one (R80). -/
def stookOf (v : Val) : Option Nat :=
  match v with
  | .nan _ => some (0xFF * 2 ^ 120 + 3 * 2 ^ 118)
  | .inf n => some (0xFF * 2 ^ 120 + (if n then 2 else 1) * 2 ^ 118)
  | .fin _ m _ =>
    if m = 0 then some 0
    else (List.range 66).findSome? (fun (w : Nat) =>
      match v.inUnits (8 * (w : Int) - 320) with
      | some s => if -(2 ^ 119) ≤ s ∧ s < 2 ^ 119 ∧ ¬(w = 65 ∧ s = -(2 ^ 119)) then some (stookWord w s) else none
      | none => none)

/-- The escape word that names a logical tile's slot (R79). -/
def escapeWord (tile slot : Nat) : Nat := 0xFF * 2 ^ 120 + (tile % 256) * 2 ^ 24 + slot % 2 ^ 24

/-- What kind of Stook a word is. -/
inductive StookKind where
  | value (v : Val)
  | escape (tile slot : Nat)
  | bad
  deriving DecidableEq, Repr

/-- A Stook word read (R78, R79, R82). A slot's bounds are the reader's to check. -/
def stookKind (w : Nat) : StookKind :=
  let win := bits w 127 120
  let s := w % 2 ^ 120
  if win ≤ 65 then
    if win = 65 ∧ s = 2 ^ 119 then .bad else .value (Val.ofInt (sext s 120) (8 * win - 320))
  else if win = 0xFF then
    match bits s 119 118 with
    | 0 => if bits s 117 32 = 0 then .escape (bits s 31 24) (bits s 23 0) else .bad
    | 1 => if s % 2 ^ 118 = 0 then .value (.inf false) else .bad
    | 2 => if s % 2 ^ 118 = 0 then .value (.inf true) else .bad
    | _ => if s % 2 ^ 118 = 0 then .value (.nan false) else .bad
  else .bad

/-! Elements. -/

/-- What an element code of a format other than Stook stands for, with its block's scale code where it has one. -/
def elemVal (f : Nat) (c : Nat) (s : Int) : Val :=
  if isGBlock f then (gfmt f).decode c s
  else if f = fI8 then Val.ofInt (sext c 8) 0
  else if f = fI32 then Val.ofInt (sext c 32) 0
  else if f = fBushel then bushelVal c
  else match ieeeFmt f with
    | some i => i.decode c
    | none => .nan false

/-- The conversions R61 offers to a command that converts between formats. -/
def convOffered (src dst : Nat) : Bool :=
  fmtOk src && fmtOk dst &&
    !(isGBlock src && dst == fI32) && !(src == fFP64 && (dst == fStook || dst == fBushel))

/-- What a conversion delivers: the element code, the NUM_STATUS flags, and whether an I8 was saturated. -/
structure Conv where
  code : Nat
  flags : Nat
  satI8 : Bool
  deriving DecidableEq, Repr

/-- A value rounded once into a format other than Stook (R62, R63). `scale` is the block's scale code of a block-scaled
destination, `stored` says that a zero loses its sign (R52), as a stochastic rounding's always does (R124), `fromFloat` that the source is a floating-point format. -/
def convert (dst : Nat) (rm : Rm) (scale : Int) (fromFloat stored : Bool) (v : Val) : Conv :=
  let sn := flagIf v.isSnan nsINVALID
  if isGBlock dst then
    let r := (gfmt dst).encode rm v scale
    ⟨r.1, r.2 ||| sn, false⟩
  else if dst = fI8 then
    let r := intEncode 8 rm fromFloat v
    ⟨r.1, r.2.1, r.2.2⟩
  else if dst = fI32 then
    let r := intEncode 32 rm fromFloat v
    ⟨r.1, r.2.1, false⟩
  else match ieeeFmt dst with
    | some i =>
      let r := i.encode rm v
      ⟨if stored || rm.isSr then i.stored r.1 else r.1, r.2 ||| sn, false⟩
    | none => ⟨(bushelCode v).1, sn, false⟩

/-- The element code a NaN or NV takes in a format (R48, R43, R63). -/
def nanCodeOf (f : Nat) : Nat :=
  if isGBlock f then (gfmt f).nv
  else match ieeeFmt f with
    | some i => i.nanCode
    | none => if f = fStook then 0xFF * 2 ^ 120 + 3 * 2 ^ 118 else if f = fBushel then 2 ^ 639 else 0

/-- The largest finite value of a block-scaled format at a scale (R43). -/
def gMaxAt (f : Nat) (s : Int) : Val := Val.scale (gfmt f).maxVal s

/-- The smallest nonzero magnitude of a block-scaled format at a scale (R43). -/
def gMinAt (f : Nat) (s : Int) : Val := .fin false 1 (1 - ((gfmt f).b : Int) - (gfmt f).m + s)

/-! Packing (R44). -/

/-- Element codes packed into bytes, `w` bits each, from the least significant bit up. -/
def packBits (w : Nat) (cs : List Nat) : List Byte :=
  let total := cs.foldr (fun c acc => c % 2 ^ w + acc * 2 ^ w) 0
  leBytes ((cs.length * w + 7) / 8) total

/-- The `i`-th code of `w` bits in bytes. -/
def unpackBits (w : Nat) (bs : List Byte) (i : Nat) : Nat :=
  bits (leNat bs) (i * w + w - 1) (i * w)

end Sys2Proof.Machine
end

