-- ==== Sys2Proof/Machine/State.lean ====
section
/-! DEFINITION. The state of the module, as plain data. Registers the spec numbers live in register stores keyed by
offset (an unlisted register holds its reset value, Machine/RegMap.lean); the rest is under its own name. -/

namespace Sys2Proof.Machine

/-- Why the model stops. Every one names a command that cannot come about in the state it meets, so that no behaviour
of the hardware is cut off: safe. -/
inductive Fault where
  /-- raised by every command that names a unit the device does not have (a tile from 272 up, a stack from 24 up, a
  queue from 16 up); safe -/
  | noSuchUnit
  /-- raised by an issue of a table entry that is not the one the named tile's sequencer issues next, or that another
  event of the tile comes before; safe -/
  | notNextEntry
  /-- raised by the completion or the arrival of something that is not in flight; safe -/
  | nothingInFlight
  /-- raised by an event whose condition does not hold (a timer that has not run out, a threshold not reached, a
  packet that is not waiting, a supply that is already in the named state); safe -/
  | conditionNotMet
  /-- raised by an event of a block that has no power or clock, or is held in reset (R39); safe -/
  | unpowered
  deriving DecidableEq, Repr

/-- Why the model has no meaning for a command. -/
inductive Refusal where
  /-- raised by the dispatch of a command whose meaning is not written; the mnemonic as the table spells it; safe -/
  | notModelled (mnemonic : String)
  deriving DecidableEq, Repr

/-! ## Register tables -/

/-- The access codes of R11; the suffix T of R15 does not change what a write does. -/
inductive Access where
  | ro | rw | w1c | wo | rwe | rwl
  deriving DecidableEq, Repr

/-- What a field stores for a written value outside its range. -/
inductive Fix where
  | none
  | zeroTo (v : Nat)
  | atMost (v : Nat)
  | atLeast (v : Nat)
  | clamp (lo hi : Nat)
  | log2
  | orWith (v : Nat)
  deriving DecidableEq, Repr

/-- A register field: bits, access, reset value (plus `step` times the register's index), range rule. -/
structure FieldDesc where
  hi : Nat
  lo : Nat
  acc : Access
  reset : Nat
  step : Nat
  fix : Fix
  deriving DecidableEq, Repr

/-- A register, or an array of them with two strides: offsets base + i × s1 + j × s2. `enable` is the register whose
bit 0 gates RWE fields, and the stride it follows i by (R13). -/
structure RegDesc where
  base : Nat
  s1 : Nat
  n1 : Nat
  s2 : Nat
  n2 : Nat
  enable : Option (Nat × Nat)
  fields : List FieldDesc
  deriving DecidableEq, Repr

/-- A register store: written words by offset. -/
abbrev Regs := Sparse Word

/-! ## Tiles (chapters 03 to 08) -/

/-- One promotion that an array or vector command has made: the register, its tc, whether it replaces, the exact run,
and the register's value before it (R138, R142, R143). Kept while a read may still come before it. -/
structure Promo where
  reg : Nat
  tc : Nat
  clr : Bool
  run : Val
  before : Val
  deriving DecidableEq, Repr

/-- The engines of R152 and R206. -/
inductive Eng where
  | array | out | vu | dma | bn
  deriving DecidableEq, Repr

/-- A command an engine holds, or a flag set that is under way: the tc from which the engine accepts its next command,
the tc of completion, the flags set then, the mark in a log of the entry it came from (R191, R206, R223), and the banks it uses by master, which
it may lose to a handover before it is done (R164). -/
structure EngCmd where
  eng : Eng
  accept : Nat
  done : Nat
  flags : List Nat
  entry : Nat
  uses : List (Nat × Nat)
  deriving DecidableEq, Repr

/-- An access that waits for banks its master does not own (R167): the entry and its position, the issue tc, the tc of the
access that waits, its engine, master and banks, the tile's descriptors at the issue. `rest` is a command whose work had
begun and only has to complete; `cross` is the transfer of another tile, by its tile and SFLAG, that waits at this tile's
Loft. -/
structure LoftWait where
  eng : Eng
  entry : BitVec 256
  index : Nat
  issued : Nat
  since : Nat
  master : Nat
  banks : Nat
  desc : Sparse (BitVec 256)
  rest : Option EngCmd
  cross : Option (Nat × Nat)
  deriving DecidableEq, Repr

/-- What kind of crossing transfer (R217, R246, R308). -/
inductive XferKind where
  | dmaIn | dmaOut | push | coll
  deriving DecidableEq, Repr

/-- A crossing transfer of the tile in progress, or ended and not yet consumed (R165, R218). -/
structure Xfer where
  /-- its kind, SFLAG and whether it still runs -/
  kind : XferKind
  flag : Option Nat
  running : Bool
  /-- no wait has consumed its flag yet (R218) -/
  out : Bool
  /-- banks held, the owner they go back to, its master; its entry, the entry's position, descriptors and issue tc (R165) -/
  banks : Nat
  ret : Nat
  master : Nat
  entry : BitVec 256
  index : Nat
  src : BitVec 256
  dst : BitVec 256
  issued : Nat
  /-- banks an earlier transfer still holds, to be taken when it completes (R166) -/
  waits : Nat
  /-- banks a deferred handover names, and their new owners (R166) -/
  deferred : List (Nat × Nat)
  /-- held at the Binder port by a fence (R333) -/
  held : Bool
  /-- of a push: the ring + 16 × the slot; of a collective: the group + 64 × the bucket -/
  aux : Nat
  /-- the status it ends with whatever comes, where its issue fixes one (R273, R289) -/
  status : Option Nat
  /-- the completion record's descriptor, of a collective (R310) -/
  note : BitVec 256
  deriving DecidableEq, Repr

/-- A group of escape-slot fetches that freezes the tile when it begins (R92). -/
structure Fetch where
  start : Nat
  slots : List Nat
  deriving DecidableEq, Repr

/-- One flag's events within its latest tc (R231): the tc, the level before it, sets, consumptions and clears in it; and,
while the events so far leave a merge that has been logged, its place in the log (64 or more: counted in LOG_LOST), and
the flag's OVERSET bit and SEQ_STATUS.ILLEGAL before it. -/
structure FlagTc where
  tc : Nat
  a : Bool
  s : Nat
  k : Bool
  x : Bool
  logged : Option (Nat × Bool × Bool)
  deriving DecidableEq, Repr

/-- A fingerprint accumulator (R110, R111): its tensor, the elements counted, the four lanes, the sum of squares. -/
structure FpAcc where
  tid : Option Nat
  count : Nat
  lanes : List Nat
  squares : Val
  deriving DecidableEq, Repr

/-- A scout accumulator (R131). -/
structure ScAcc where
  tid : Option Nat
  count : Nat
  clipped : Nat
  under : Nat
  blocks : Nat
  allZero : Nat
  limHi : Nat
  limLo : Nat
  largest : Option Int
  smallest : Option Int
  deriving DecidableEq, Repr

/-- A read of a Pocket register by an output-stage command in flight: the register, its tc, and the destination bytes it
decides (R143, R144). -/
structure OutRead where
  reg : Nat
  tc : Nat
  addr : Nat
  len : Nat
  deriving DecidableEq, Repr

/-- Bits of a vector register that a command in the vector unit still has to write: the tc, the byte address, the bit
offset, the width, the value (R147). -/
structure VWrite where
  tc : Nat
  addr : Nat
  off : Nat
  width : Nat
  val : Nat
  deriving DecidableEq, Repr

/-- A march run in progress (R175, R176): the banks, the mode, the tc at which it ends. -/
structure March where
  banks : Nat
  preserving : Bool
  repair : Bool
  ends : Nat
  deriving DecidableEq, Repr

/-- A work message (R156). -/
structure WorkMsg where
  tenant : Nat
  tile : Nat
  verify : Bool
  rep : Bool
  job : Nat
  step : Nat
  cls : Nat
  count : Nat
  seq : Nat
  deriving DecidableEq, Repr

/-- The table a run started from: the active bank, its entries and metadata, and whether the other bank was READY
(R198, R370; log entry 77). -/
structure StartTable where
  bank : Nat
  entries : Sparse (BitVec 256)
  prog : Nat
  num : Nat
  ents : Nat
  other : Bool
  deriving DecidableEq, Repr

/-- One physical tile. -/
structure Tile where
  /-- the tile block's registers (R56, R58, R112, R135, R157, R182, R225, R249, R495) -/
  regs : Regs
  /-- the logical tile it stands for (R23); none for a spare -/
  logical : Option Nat
  /-- the job it works for; 0 none (R508) -/
  job : Nat
  /-- Loft bytes by local address (R159) -/
  loft : List Host.Cell
  /-- flipped bits of a stored 144-bit Loft word, by word number (R160) -/
  loftErr : Sparse (BitVec 144)
  /-- corrected reads of a Loft row since the last boundary, by row number (R370) -/
  loftCe : Sparse Nat
  /-- array Pocket registers 0 to 12,287 and VPn at 12,288 + n (R83) -/
  pocket : Sparse (BitVec 128)
  /-- promotions that a read may still come before -/
  hist : List Promo
  /-- Pocket-part slots held on the tile, most recently used first (R92) -/
  cache : List (Nat × BitVec 640)
  /-- V0 to V63 as bytes, 512 to a register (R147) -/
  vregs : List Host.Cell
  /-- vector-register writes under way, in the order of their commands -/
  vpend : List VWrite
  /-- table entries, bank × 4,096 + index (R187, R196) -/
  entries : Sparse (BitVec 256)
  /-- flipped bits of a stored entry word, 2 × (bank × 4,096 + index) + half (R188) -/
  entryErr : Sparse (BitVec 144)
  /-- descriptors (R201) -/
  desc : Sparse (BitVec 256)
  /-- flipped bits of a stored descriptor half, 2 × handle + half (R368) -/
  descErr : Sparse (BitVec 144)
  /-- Threshing keys by slot (R117) -/
  keys : Sparse (BitVec 128)
  /-- fingerprint and scout accumulators by number (R111, R131) -/
  fp : Sparse FpAcc
  sc : Sparse ScAcc
  /-- next entry to issue (R185) -/
  next : Nat
  /-- local tc of the latest issue, or of the trigger (R185) -/
  last : Nat
  /-- local tc of the trigger, from which SEQ_TC counts (R225) -/
  t0 : Nat
  /-- least DELAY of the next entry: 1, or 8 after a bank switch (R185, R198) -/
  minDelay : Nat
  /-- the local tc at which the wait of the entry in WAIT ended, if it has (R189) -/
  woken : Option Nat
  /-- an entry has issued since the trigger (R550) -/
  issuedAny : Bool
  /-- commands the engines hold, by engine (R152, R206) -/
  eng : List EngCmd
  /-- accesses that wait for Loft banks (R167) -/
  loftWait : List LoftWait
  /-- crossing transfers (R165, R217) -/
  xfers : List Xfer
  /-- events of each flag in its latest tc (R231) -/
  flagTc : Sparse FlagTc
  /-- freezes: local tc at which each begins, and its length (R145) -/
  freezes : List (Nat × Nat)
  /-- escape-slot fetches (R92) -/
  fetch : List Fetch
  /-- local tc of the latest change of owner, by bank (R164) -/
  handTc : Sparse Nat
  /-- the march in progress (R175) -/
  march : Option March
  /-- unsent work counts by class (R155, R156) -/
  unsent : Sparse Nat
  /-- messages whose second copy is due, with the global tc of the first copy (R469) -/
  second : List (Nat × WorkMsg)
  /-- next work-message sequence number, 64 bits (R156) -/
  workSeq : Nat
  /-- marks of R156 -/
  verify : Bool
  rep : Bool
  /-- the IEEE pipelines have passed their known-answer tests (R73) -/
  ieeeOk : Bool
  /-- a failed unit since the last boundary (R383), and whether by a Loft fault -/
  failed : Bool
  loftFailed : Bool
  /-- escape arena: physical address of the verifier's shadow escape area, when it is a verifier (R376) -/
  shadow : Option Nat
  /-- local tc at which the latest array command's last promotion window ends (R141) -/
  arrayEnd : Nat
  /-- reads of Pocket registers by output-stage commands that later array commands may still come before (R144) -/
  outReads : List OutRead
  /-- entries issued in this step: index and outcome code, oldest first (R377) -/
  trace : List (Nat × Nat)
  /-- a barrier round the device's arrival was refused in: the tile stops at its current or next entry (R241) -/
  barStop : Bool
  /-- an armed switch met a bank that is not READY: the release waits for its load (R199) -/
  switchWait : Bool
  /-- the scrub port's next table or descriptor word, and the tc of its last one (R372) -/
  scrub : Nat
  scrubTc : Nat
  /-- the Reeve's copy of the table the run started from (R370; log entry 77) -/
  start : Option StartTable
  deriving DecidableEq, Repr

/-- A fresh fingerprint accumulator. -/
def FpAcc.empty : FpAcc := ⟨none, 0, [0, 0, 0, 0], Val.zero⟩

/-- A fresh scout accumulator. -/
def ScAcc.empty : ScAcc := ⟨none, 0, 0, 0, 0, 0, 0, 0, none, none⟩

/-- A tile as a cold reset leaves it (R153, R181, R200, R225, R249). RAM nothing has written holds 0 (log entry 2). -/
def Tile.reset : Tile :=
  { regs := [], logical := none, job := 0, loft := [], loftErr := [], loftCe := [], pocket := [], hist := [],
    cache := [], vregs := [], vpend := [], entries := [], entryErr := [], desc := [], descErr := [], keys := [], fp := [], sc := [],
    next := 0, last := 0, t0 := 0, minDelay := 1, woken := none, issuedAny := false, eng := [], loftWait := [], xfers := [],
    flagTc := [], freezes := [], fetch := [], handTc := [], march := none, unsent := [], second := [], workSeq := 0,
    verify := false, rep := false, ieeeOk := false, failed := false, loftFailed := false, shadow := none, arrayEnd := 0, outReads := [], trace := [],
    barStop := false, switchWait := false, scrub := 0, scrubTc := 0, start := none }

/-! ## The device -/

/-- The device's clocks: tc since reset, real time in ps, the PTP clock's base and whether it runs, the standby time
counter's base (R8, R301, R530, R532). A clock reads base + (ps − its ps) ÷ 1,000 ns. -/
structure Clock where
  now : Nat
  ps : Nat
  ptpBase : Nat
  ptpPs : Nat
  ptpRun : Bool
  stbyBase : Nat
  stbyPs : Nat
  deriving DecidableEq, Repr

/-- What fuses and manufacture fix (R1, R23, R514): grade code, fused-off physical tiles, reference-order revision,
stepping. -/
structure Fuses where
  grade : Nat
  fusedOff : List Nat
  refRev : Nat
  stepping : Nat
  deriving DecidableEq, Repr

/-- One record of a job's step record (R111, R131, R224): the job, what it is, the logical tile, its bytes. -/
structure RecItem where
  job : Nat
  kind : Nat
  tile : Nat
  bytes : List Byte
  deriving DecidableEq, Repr

/-- The integrity block beside its registers (R389 to R394). -/
structure Integ where
  /-- Daybook entries (R392) -/
  daybook : Sparse (BitVec 512)
  /-- ring records the first-failure region still takes (R394) -/
  ffLeft : Nat
  /-- next first-failure entry written -/
  ffNext : Nat
  /-- latest CORRECTED record of a unit: its key, its time in ns, corrections counted since (R391) -/
  ceLast : Sparse (Nat × Nat)
  deriving DecidableEq, Repr

/-- A re-shard that a command has ordered (R330): the step at whose boundary it happens, the new epoch, the program-defined
kinds that move, the command to answer. -/
structure Reshard where
  step : Nat
  epoch : Nat
  kinds : Nat
  cmd : Nat
  deriving DecidableEq, Repr

/-- A job in a job slot: its descriptor's items (R509) and where it stands in its steps. -/
structure Job where
  /-- JOB_ID and tenant (R508, R509) -/
  id : Nat
  tenant : Nat
  /-- TILES, RANK -/
  tiles : Nat
  rank : Nat
  ranks : Nat
  /-- the step of the current run, or of the next one while none runs -/
  step : Nat
  /-- a run of the step has been released and has neither reached its boundary nor its repeat point -/
  running : Bool
  /-- its run has been abandoned (R36, R371) -/
  abandoned : Bool
  /-- state of the job has to be rebuilt before the next release (R371) -/
  rebuild : Bool
  /-- a class-0 halt has stopped it (R195, R505) -/
  halted : Bool
  /-- it runs in replay mode (R327) -/
  replay : Bool
  /-- the seal of the current run has been signed (R460) -/
  sealed : Bool
  /-- the command answered at the boundary, and those held for the steps after it (R35); the step of the last one taken -/
  cmd : Option Nat
  held : List Nat
  lastStep : Option Nat
  /-- boundaries reached (R372); the status that caused a repeat (R325); a logical tile to be sampled again (R380) -/
  bounds : Nat
  cause : Nat
  again : List Nat
  /-- data cursors: of the current run's command, and the one recorded (R403) -/
  cursor : Nat
  /-- the job-end command that waits for the tables to end (R508) -/
  ending : Option Nat
  /-- the re-shard ordered (R330) -/
  reshard : Option Reshard
  /-- NUMERICS, KEYS (slot and key), ESCAPE, REGIONS (address, chunks), GROUPS, PLAN, WINNOWER -/
  numCtrl : Nat
  keys : List (Nat × Nat)
  escBase : Nat
  escSlots : Nat
  regions : List (Nat × Nat)
  groups : List (List Byte)
  rounded : Bool
  width : Nat
  winnower : Nat
  /-- the offset O that the trust core drew (R375) -/
  offset : Nat
  /-- the chain digest C, and the last step sealed with its S (R459, R460) -/
  chain : List Nat
  /-- C before the steps from two before the last one sealed on, by step (R453) -/
  chains : Sparse (List Nat)
  sealedS : Option (Nat × List Nat)
  /-- before-images held: chunk address and bytes; the listed chunks are the dirty ones (R404) -/
  before : List (Nat × List Byte)
  /-- those that writes of the next step have taken before the commit (R405) -/
  beforeNext : List (Nat × List Byte)
  /-- the commit of the latest boundary is complete (R411); the start step that the parity describes after the commit in progress -/
  committed : Bool
  commitTo : Nat
  /-- Δs at this holder by the member's position: how many have come, how many are announced (R410) -/
  deltas : Sparse (Nat × Nat)
  /-- holders that reported their inbox complete, at the commit home (R411) -/
  inboxes : List Nat
  /-- SNAP_NOW was ordered; a snapshot of the start of the current step is due (R412); the start step of the one being
  written (R415) -/
  snapNow : Bool
  snapDue : Bool
  snapping : Option Nat
  /-- ranks that have reported the snapshot's marker -/
  snapDone : List Nat
  /-- the commit in progress waits for the snapshot of its step's start (R411, R416) -/
  snapPend : Bool
  /-- diagnosis slots that hold a capture (R378) -/
  captures : Nat
  /-- the last step that the host's ledger names, in replay mode (R423) -/
  replayEnd : Nat
  deriving DecidableEq, Repr

/-- A command taken (R503): where it came from (a queue, or 16 + an urgent slot), SQ_HEAD after it was taken, its 64 bytes, the
plain bytes of its host buffer, whether it has started and whether its interim reply is written. -/
structure Cmd where
  src : Nat
  head : Nat
  bytes : List Byte
  buf : List Byte
  started : Bool
  interim : Bool
  deriving DecidableEq, Repr

/-- A tenant's session (R445, R446): keys of 32 bytes, the lowest sequence number not yet seen and those seen above it. -/
structure Session where
  tenant : Nat
  kc : List Nat
  kr : List Nat
  kt : List Nat
  trk : List Nat
  low : Nat
  seen : List Nat
  deriving DecidableEq, Repr

/-- An attestation report that a session may still open on (R445): its time in ps, its digest, the number of its ephemeral
keys. -/
structure Report where
  ps : Nat
  digest : List Nat
  eph : Nat
  deriving DecidableEq, Repr

/-- A firmware image in the boot area (R438): version, SVN, digest, and whether its signature block verifies. -/
structure Image where
  version : Nat
  svn : Nat
  digest : List Nat
  ok : Bool
  deriving DecidableEq, Repr

/-- The trust core beside its registers (R434 to R464). -/
structure Trust where
  sessions : List Session
  report : Option Report
  /-- wrong claim codes since cold reset (R443) -/
  claims : Nat
  /-- firmware staged for the next boundary: class, image (R440) -/
  staged : List (Nat × Image)
  /-- the slot each class was booted from (R439) -/
  booted : List Nat
  /-- key agreements: by port, the association number and the time in ps of the last one, and whether it failed (R454) -/
  agreed : Sparse (Nat × Nat × Bool)
  /-- entries written to the trust-core log since cold reset (R463) -/
  logSeq : Nat
  /-- the owner-admission digest of configuration item 0x0700 (R454) -/
  admission : Option (List Nat)
  deriving DecidableEq, Repr

/-- The owner record (R443): the public keys, the ECDSA key first, and the owner counter. -/
structure Owner where
  keys : List Nat
  counter : Nat
  deriving DecidableEq, Repr

/-- A snapshot generation (R413 to R415): its sequence number, start step, image as ciphertext, generation record, and whether
its commit marker is written. -/
structure Gen where
  seq : Nat
  m : Nat
  image : List Byte
  record : List Byte
  marker : Bool
  deriving DecidableEq, Repr

/-- A job's Silo allotment (R415, R417): tenant, extents, its two generation slots. -/
structure Allot where
  tenant : Nat
  extents : Nat
  gens : List (Nat × Gen)
  deriving DecidableEq, Repr

/-- The Silo (R424 to R427): allotments by job, and the bytes written to it. -/
structure Silo where
  allots : Sparse Allot
  written : Nat
  deriving DecidableEq, Repr

/-- A sampled tile and its verifier (R375 to R379): job, logical tile, the sampled physical tile, the verifier, the spare held as the
voter (272 none), the words compared, how far it stands (0 comparing, 1 mismatch to be voted on, 2 mismatch without a slice, 3
finished), and the words that differ. -/
structure Mirror where
  job : Nat
  tile : Nat
  phys : Nat
  verifier : Nat
  voter : Nat
  compared : Nat
  state : Nat
  words : Nat × Nat
  deriving DecidableEq, Repr

/-- What a message of the Binder or of Wain says (R233, R240, R245, R246, R284, R290, R295, R321). -/
inductive Msg where
  /-- a flag set: sending and target logical tile, flag -/
  | set (src dst flag : Nat)
  /-- a device arrival at a barrier slot, and a device release -/
  | barArrive (slot round : Nat)
  | barRelease (slot round : Nat)
  /-- the home's answer ST_BARRIER_OVERRUN to a device arrival (R241) -/
  | barRefuse (slot round : Nat)
  /-- a slot returned to its producer; slot data for the consumer -/
  | slotReturn (ring : Nat)
  | slotData (ring slot : Nat) (elems : List Nat)
  /-- slot data of a producer on this device: its physical tile -/
  | slotHere (ring slot p : Nat)
  /-- a readiness notice, and the set of included ranks (R321) -/
  | ready (gid bucket step rank : Nat)
  | included (gid bucket step : Nat) (ranks : List Nat) (ns : Nat)
  /-- packets of a transfer or a collective: how many flits -/
  | data (flits : Nat)
  /-- a refusal of class-1 or class-2 data, with its status (R284, R329) -/
  | refuse (status : Nat)
  | keepalive
  /-- a key-agreement frame (R454) -/
  | keyFrame
  | credit (cls cells : Nat)
  | laneSwap (eng lane : Nat)
  | laneAck (eng lane : Nat)
  /-- a parity holder's or member's report, and the commit (R410, R411) -/
  | inboxComplete (step holder : Nat)
  | commit (step : Nat)
  /-- a change of a stripe, with how many the sender sends to this holder (R410); a sender that has none sends the count alone, with
  stripe 2^32 − 1 -/
  | delta (step stripe count : Nat)
  /-- a rank's snapshot has its marker (R416) -/
  | snapDone (step rank : Nat)
  deriving DecidableEq, Repr

/-- What the device sends. -/
inductive Out where
  /-- a Wain packet (R284): destination rank, class, job, sequence number in its connection, transmit count -/
  | wain (rank cls job seq tx : Nat) (m : Msg)
  /-- an acknowledgement (R284): rank, class, job, every number below it, selective bits, CE echo -/
  | ack (rank cls job upto sack : Nat) (ce : Bool)
  /-- a message to a port's link partner (R286, R295) -/
  | link (port : Nat) (m : Msg)
  /-- the old word that an atomic SWAP returns to its master (R171) -/
  | swapped (tile addr old : Nat)
  /-- a work message, first or second copy (R156, R469) -/
  | work (second : Bool) (m : WorkMsg)
  /-- bytes returned to a reader of a register or over management -/
  | answer (who : Nat) (bytes : List Byte)
  deriving DecidableEq, Repr

/-- A packet not acknowledged yet (R288): its sequence number, what it carries, when it was first and last sent. -/
structure Unacked where
  seq : Nat
  msg : Msg
  first : Nat
  ps : Nat
  deriving DecidableEq, Repr

/-- What a packet asks of this device's memory (R272, R332): nothing more than its arrival; a write or a read of the Granary under
a peer window; a remapped contribution of a tensor for the sums after a step, as index and Bushel code in turn. -/
inductive WainAsk where
  | none
  | write (a : Nat) (bs : List Byte)
  | read (a n : Nat)
  | carry (tid step : Nat) (elems : List (Nat × Nat))
  deriving DecidableEq, Repr

/-- A connection to a rank in one class of one job (R288, R290, R291): the next sequence number and the transmit count of the
sender, what is not acknowledged, the window in cells, the times of the last shrink and growth of it; the next number the
receiver expects and those it holds; the latest exchange each way, by arrival and by sending. -/
structure Conn where
  next : Nat
  tx : Nat
  unacked : List Unacked
  window : Nat
  shrinkPs : Nat
  growPs : Nat
  expect : Nat
  held : List (Nat × WainAsk)
  rxPs : Nat
  txPs : Nat
  deriving DecidableEq, Repr

/-- A connection at its job's start (R288, R291). -/
def Conn.fresh (ps : Nat) : Conn := ⟨0, 0, [], 4096, ps, ps, 0, [], ps, ps⟩

/-- A lane swap under way (R295): engine, logical lane, the time in ps at which both ends move, and whether this end asked
for it. -/
structure LaneMove where
  eng : Nat
  lane : Nat
  ps : Nat
  asked : Bool
  deriving DecidableEq, Repr

/-- A bucket of this device in a step (R320, R321): group slot, bucket, step, operation, tensor, the logical tiles that have
started, whether every member tile has, the contribution by logical element index (a Bushel code of a sum; otherwise an
element as the Binder carries it, its scale code above it), carries folded in, the set of included ranks once it is known, bits
of R310 byte 5, the ledger entry that concerns it. -/
structure Bucket where
  slot : Nat
  bucket : Nat
  step : Nat
  op : Nat
  tid : Nat
  tiles : List Nat
  ready : Bool
  contrib : List (Nat × Nat)
  folded : Nat
  included : Option (List Nat)
  self : Nat
  ledger : Nat
  deriving DecidableEq, Repr

/-- A bucket at its home rank (R321, R323): the ranks ready, the PTP time of the first notice. -/
structure HomeBucket where
  slot : Nat
  bucket : Nat
  step : Nat
  ready : List Nat
  firstNs : Nat
  firstPs : Nat
  closed : Bool
  deriving DecidableEq, Repr

/-- A contribution kept for a later step (R322, R332). -/
structure Carry where
  job : Nat
  gid : Nat
  bucket : Nat
  step : Nat
  tid : Nat
  elems : List (Nat × Nat)
  deriving DecidableEq, Repr

/-- A ledger entry (R325). -/
structure Ledger where
  seq : Nat
  time : Nat
  step : Nat
  type : Nat
  action : Nat
  gid : Nat
  bucket : Nat
  epoch : Nat
  job : Nat
  decider : Nat
  rank : Nat
  included : Nat
  count : Nat
  detail : Nat
  deriving DecidableEq, Repr

/-- An entry of a layout table (R328). -/
structure Layout where
  tid : Nat
  first : Nat
  count : Nat
  rank : Nat
  tile : Nat
  kind : Nat
  addr : Nat
  deriving DecidableEq, Repr

/-- A fence on a job (R333): one epoch, or all, whether a drain, and whether it has been reported complete. -/
structure Fence where
  job : Nat
  epoch : Option Nat
  drain : Bool
  complete : Bool
  deriving DecidableEq, Repr

/-- A tenant's partition of the Granary, in bytes (R449). -/
structure Part where
  tenant : Nat
  base : Nat
  size : Nat
  deriving DecidableEq, Repr

/-- A Granary controller beside its registers (R261 to R271). -/
structure Stack where
  /-- pages ordered to retire, oldest first (R267) -/
  orders : List Nat
  /-- the remap entry whose page is being copied (R265) -/
  copying : Option Nat
  /-- corrected reads by page in this scrub period (R370) -/
  pageCe : Sparse Nat
  /-- times in ns of the pages retired in the last 24 h (R370) -/
  retired : List Nat
  /-- row-hammer trackers by bank × 64 + pseudo-channel: rows and counts (R262) -/
  hammer : Sparse (List (Nat × Nat))
  /-- time in ps and temperature of the last calibration pass (R263) -/
  calPs : Nat
  calTemp : Int
  deriving DecidableEq, Repr

/-- A stack's retirement (R268): ordered, or copying a page, or done. -/
inductive StackRet where
  | ordered (d : Nat)
  | copying (d page granule : Nat)
  | done (d : Nat)
  deriving DecidableEq, Repr

/-- What survives every reset (R271, R385, R392, R424, R430, R439, R441, R443): remap entries by stack, the retired stack,
quarantined tiles, the owner record, blown SVN fuses and boot-area images by class (slot A, slot B), static MACsec
keys (each the port, the direction, the association, four bytes of identifier and the key), the Silo, the repair table. -/
structure Persist where
  remap : Sparse (List (Nat × Nat × Bool))
  stack : Option StackRet
  quarantine : List Nat
  owner : Option Owner
  svn : List Nat
  images : List (Option Image × Option Image)
  saks : List (List Nat)
  silo : Silo
  /-- the repair table: physical tiles by logical tile; none as manufactured (log entry 5) -/
  repair : Option (List (Option Nat))
  deriving DecidableEq, Repr

/-- A completion record of a transfer (R165, R169, R218): the physical tile, the entry's position,
its SFLAG, the status. -/
structure XferRec where
  tile : Nat
  index : Nat
  flag : Option Nat
  status : Nat
  deriving DecidableEq, Repr

/-- A controller as a cold reset leaves it. -/
def Stack.reset : Stack := ⟨[], none, [], [], [], 0, 0⟩

/-- The supplies, the reset and wake logic of the standby domain (R518 to R543): the standby rail; the hub domain powered, which
goes with the other main domains but for Sleep; PWR_GOOD and PERST_N; the PCIe link up; REFCLK present, and since which time
in ps; wake sources latched while a power state is entered, bit code − 1; the time of a thermal trip that holds; the times of the
setting of HK_TIMER, of the last job or tile work, of the last change of the throttle level, of the last load of the standby time;
the HK_STATUS bits that management has not read, bit 5 the Weighhouse alarm; TCLK runs. -/
structure Power where
  stby : Bool
  hub : Bool
  good : Bool
  perst : Bool
  link : Bool
  refOk : Bool
  refPs : Nat
  wakes : Nat
  trip : Option Nat
  timerPs : Nat
  idlePs : Nat
  throttlePs : Nat
  loadPs : Nat
  unread : Nat
  tclk : Bool
  /-- the reset cause that the next start from Off records (R538) -/
  cause : Nat
  deriving DecidableEq, Repr

/-- An open account (R472): its key, segment, times of its first and last message, main energy at both in mJ, thirty counts
(billable, VERIFY, REPEAT by class), INCOMPLETE. -/
structure WhAccount where
  tenant : Nat
  job : Nat
  segment : Nat
  start : Nat
  last : Nat
  mj0 : Nat
  mj1 : Nat
  counts : List Nat
  lost : Bool
  deriving DecidableEq, Repr

/-- What the Weighhouse gathers until its next INTERVAL or HOURLY record (R476): lowest and highest voltage in 10 mV, peak power in
0.1 W (none before the first sample), main energy at the record before. -/
structure WhSpan where
  range : Option (Nat × Nat × Nat)
  mj0 : Nat
  deriving DecidableEq, Repr

/-- The Weighhouse (R466 to R488), a die of its own. -/
structure Wh where
  /-- it runs; the time in ps at which it stopped; its supercapacitor still holds -/
  on : Bool
  offPs : Nat
  cap : Bool
  /-- firmware version, SHA-384 of the firmware, seal fuses blown, command counter (R480 to R482) -/
  fw : Nat
  fwDigest : List Nat
  seals : Nat
  counter : Nat
  /-- Weighhouse time: its base in ns and the time in ps it was set; the adjustments of the last day (R473) -/
  base : Nat
  basePs : Nat
  adjs : List (Nat × Int)
  timeInvalid : Bool
  tamper : Bool
  /-- the latch of an opening without supply (R483) -/
  latch : Bool
  /-- energies in mJ with what is below 1 mJ, in pJ (R466) -/
  main : Nat
  mainRest : Nat
  stby : Nat
  stbyRest : Nat
  /-- main power over the last second in 0.1 W, main input voltage in 10 mV -/
  power : Nat
  volt : Nat
  second : WhSpan
  hour : WhSpan
  /-- the second and the hour of the last record; flags of this second; since when OVER_RANGE lasts, in ps (R468, R486) -/
  lastSec : Nat
  lastHour : Nat
  overSec : Bool
  underSec : Bool
  overPs : Option Nat
  /-- counts by class: cumulative, and of this interval (R471) -/
  cum : List Nat
  now : List Nat
  accounts : List WhAccount
  /-- by tenant × 2^32 + job: one above the last segment closed -/
  segments : Sparse Nat
  /-- the next sequence number by physical tile; lanes down; messages lost, from a second copy, bad (R469, R470) -/
  expect : Sparse Nat
  laneDown : Nat
  gap : Nat
  corr : Nat
  bad : Nat
  lost : Bool
  /-- records: the next number, the slots (49,152 + k for the account area), heads, the first 16 bytes of the last digest -/
  seq : Nat
  store : Sparse (BitVec 2048)
  ivHead : Nat
  acHead : Nat
  last : List Nat
  sealChanged : Bool
  /-- parameters (R480): rated W, ACCOUNT_IDLE s, SMBus address, gain and offset of each channel -/
  rated : Nat
  idle : Nat
  address : Nat
  cal : List Nat
  /-- record flags at the last push; the alarm as housekeeping last saw it (R486) -/
  pushed : Nat
  seen : Bool
  deriving DecidableEq, Repr

/-- Every part of the module. -/
structure Dev where
  /-- the clocks (R8, R301, R530, R532) -/
  clock : Clock
  /-- what fuses and manufacture fix (R1, R23, R514) -/
  fuses : Fuses
  /-- the registers outside the tile blocks (R494) -/
  regs : Regs
  /-- the physical tiles by number; one not listed is as a cold reset leaves it (R22, R23) -/
  tiles : Sparse Tile
  /-- the integrity block (R389) -/
  integ : Integ
  /-- host memory that queues, replies and transfers use (R493, R502) -/
  hostMem : List Host.Cell
  /-- MSI-X messages sent, oldest first (R490) -/
  msix : List Nat
  /-- Granary bytes by physical address (R254) -/
  grnMem : List Host.Cell
  /-- flipped bits of a stored Granary word (R258) -/
  grnErr : Sparse (BitVec 144)
  /-- the Granary controllers by stack (R261) -/
  grnStacks : Sparse Stack
  /-- the retirement of a stack (R268) -/
  stackRet : Option StackRet
  /-- partitions of the Granary (R449) -/
  parts : List Part
  /-- what survives every reset (R271, R385, R424, R439) -/
  persist : Persist
  /-- the module is a failed unit (R269, R369, R386) -/
  failed : Bool
  /-- the time in ps at which the Gleaner's Granary pass began (R373) -/
  gleanPs : Nat
  /-- the times in ps at which the Silo's scrub pass began and, by tile, at which an idle tile was last marched (R372, R427) -/
  siloPs : Nat
  marchPs : Sparse Nat
  /-- jobs by job slot (R508) -/
  jobs : Sparse Job
  /-- step record in the control area, oldest first (R111, R131, R224) -/
  stepRec : List RecItem
  /-- what the device has sent, oldest first (R156, R171, R284, R286) -/
  outbox : List Out
  /-- class-0 messages and slot data on their way within the device, oldest first, with their job (R233, R246) -/
  inner : List (Nat × Msg)
  /-- connections by job, rank and class (R288) -/
  conns : Sparse Conn
  /-- lane swaps under way (R295) -/
  laneMoves : List LaneMove
  /-- ports that train (R295, R298) -/
  training : List Nat
  /-- credit in cells held, and owed, by port × 4 + class (R286) -/
  credits : Sparse Nat
  owed : Sparse Nat
  /-- priorities paused by port (R286) -/
  paused : List (Nat × Nat)
  /-- since when a laser module is present, in ps (R297) -/
  laserPs : Sparse Nat
  /-- couplers on their way: engine, and whether to the alternate module (R297, R298) -/
  couplers : List (Nat × Bool)
  /-- spare optical lanes in use by engine (R295) -/
  spares : Sparse (List Nat)
  /-- buckets of this device (R320) -/
  buckets : List Bucket
  /-- buckets this device is home of (R321) -/
  homes : List HomeBucket
  /-- deferrals in a row: GID, bucket, rank, how often (R323) -/
  deferred : List (Nat × Nat × Nat × Nat)
  /-- contributions kept for a later step (R322) -/
  carries : List Carry
  /-- the ledger: the entries of the jobs in the slots (R325, R326) -/
  ledger : List Ledger
  /-- the ledger a replay or a repeat honours (R327) -/
  honoured : List Ledger
  /-- layout tables: of the current epoch, the one before, the one loaded for the next (R328) -/
  layoutCur : List Layout
  layoutPrev : List Layout
  layoutNext : List Layout
  /-- fences (R333) -/
  fences : List Fence
  /-- ranks counted at a barrier's home, by slot (R240) -/
  barRanks : Sparse (List Nat)
  /-- the local device arrival of the round has been sent, by slot (R240) -/
  barSent : Sparse Bool
  /-- pushes of a ring since the release of the step (R246) -/
  ringK : Sparse Nat
  /-- since which tc a ring's producer has had no free slot (R247) -/
  ringFullFrom : Sparse Nat
  /-- completion records of transfers (R218) -/
  xferRecs : List XferRec
  /-- commands taken and not answered, by the number of their taking; the next number; the queue whose turn it is (R503) -/
  cmds : Sparse Cmd
  cmdNext : Nat
  turn : Nat
  /-- the trust core (R434) -/
  trust : Trust
  /-- high halves latched: requester × 2^26 + offset of the high half (R498) -/
  latches : Sparse Nat
  /-- page versions of host windows: window × 2^40 + page (R452) -/
  hostVer : Sparse Nat
  /-- the tenant of an open window, by peer window or 32 + host window (R448) -/
  winTenant : Sparse Nat
  /-- sampled tiles and their verifiers (R375) -/
  mirrors : List Mirror
  /-- supplies, reset and wake logic (R518) -/
  power : Power
  /-- flit failures in a row by link, and the links that have failed (R369) -/
  flits : Sparse Nat
  linkFailed : List Nat
  /-- the Weighhouse (R466) -/
  wh : Wh
  /-- the slots of the mirror, interval area and account area, oldest first (R486) -/
  whIv : List (BitVec 2048)
  whAc : List (BitVec 2048)
  /-- the model's own count of free values taken (log entry 1) -/
  freeCtr : Nat
  deriving DecidableEq, Repr

/-- The whole block: the queue of commands that wait, and the device. -/
structure State where
  pending : List Instr
  dev : Dev
  deriving DecidableEq, Repr


/-- The Weighhouse of a module whose standby rail is up, with nothing measured yet (log entry 90). -/
def Wh.reset : Wh :=
  { on := true, offPs := 0, cap := true, fw := 0, fwDigest := List.replicate 48 0, seals := 0, counter := 0, base := 0, basePs := 0, adjs := [],
    timeInvalid := false, tamper := false, latch := false, main := 0, mainRest := 0, stby := 0, stbyRest := 0, power := 0, volt := 0,
    second := ⟨none, 0⟩, hour := ⟨none, 0⟩, lastSec := 0, lastHour := 0, overSec := false, underSec := false, overPs := none,
    cum := List.replicate 10 0, now := List.replicate 10 0, accounts := [], segments := [], expect := [], laneDown := 15, gap := 0, corr := 0, bad := 0,
    lost := false, seq := 0, store := [], ivHead := 0, acHead := 0, last := List.replicate 16 0, sealChanged := false, rated := 4400, idle := 10,
    address := 0x4E, cal := List.replicate 8 0, pushed := 0, seen := false }

/-- The device at cold reset (log entries 2 to 6 name what the spec does not give). -/
def Dev.reset : Dev :=
  { clock := ⟨0, 0, 0, 0, false, 0, 0⟩
    fuses := ⟨1, [], 1, 0⟩
    regs := []
    tiles := []
    integ := ⟨[], 0, 0, []⟩
    hostMem := []
    msix := []
    grnMem := []
    grnErr := []
    grnStacks := []
    stackRet := none
    parts := []
    persist := ⟨[], none, [], none, [0, 0, 0, 0], List.replicate 4 (some ⟨0, 0, [], true⟩, none), [], ⟨[], 0⟩, none⟩
    failed := false
    gleanPs := 0
    siloPs := 0
    marchPs := []
    jobs := []
    stepRec := []
    outbox := []
    inner := []
    conns := []
    laneMoves := []
    training := []
    credits := []
    owed := []
    paused := []
    laserPs := []
    couplers := []
    spares := []
    buckets := []
    homes := []
    deferred := []
    carries := []
    ledger := []
    honoured := []
    layoutCur := []
    layoutPrev := []
    layoutNext := []
    fences := []
    barRanks := []
    barSent := []
    ringK := []
    ringFullFrom := []
    xferRecs := []
    cmds := []
    cmdNext := 0
    turn := 0
    trust := ⟨[], none, 0, [], [], [], 0, none⟩
    latches := []
    hostVer := []
    winTenant := []
    mirrors := []
    power := ⟨true, false, false, false, false, false, 0, 0, none, 0, 0, 0, 0, 0, false, 5⟩
    flits := []
    linkFailed := []
    wh := Wh.reset
    whIv := []
    whAc := []
    freeCtr := 0 }

/-- The block right after reset: no command waits. -/
def State.reset : State := { pending := [], dev := Dev.reset }

end Sys2Proof.Machine
end

