-- ==== Sys2Proof/Machine/RegMap.lean ====
section
/-! DEFINITION. The register tables of the spec as data: every register's place, its fields' bits, access codes (R11),
reset values, and the values a write stores in place of an out-of-range one. A register array is one row with two
strides. Reading and writing by these rows stands in Machine/Ops.lean. -/

namespace Sys2Proof.Machine

/-- The registers of a tile block, by tile offset (R56, R58, R112, R135, R157, R182, R225, R249, R495), part 1. -/
def tileRegs1 : List RegDesc := [
  -- NUM_CTRL (R56): PROFILE, FN_FAST, FTZ, RND
  ⟨0x200, 0x8000000, 1, 0x4, 1, some (0x0, 0x0),
    [⟨0, 0, .rwe, 0, 0, .none⟩, ⟨1, 1, .rwe, 0, 0, .none⟩, ⟨2, 2, .rwe, 0, 0, .none⟩, ⟨4, 3, .rwe, 0, 0, .none⟩]⟩,
  -- NUM_STATUS (R58): INVALID, DIVZERO, OVERFLOW, UNDERFLOW, INEXACT, FLUSHED, SAT, SCALE_RSVD, NV_OUT
  ⟨0x204, 0x8000000, 1, 0x4, 1, none,
    [⟨0, 0, .w1c, 0, 0, .none⟩, ⟨1, 1, .w1c, 0, 0, .none⟩, ⟨2, 2, .w1c, 0, 0, .none⟩, ⟨3, 3, .w1c, 0, 0, .none⟩, ⟨4, 4, .w1c, 0, 0, .none⟩, ⟨5, 5, .w1c, 0, 0, .none⟩, ⟨6, 6, .w1c, 0, 0, .none⟩, ⟨7, 7, .w1c, 0, 0, .none⟩, ⟨8, 8, .w1c, 0, 0, .none⟩]⟩,
  -- ACC_STATUS (R112): BUSHEL_OVF, ESC_POCKET, ESC_TENSOR, SCALE_OOR, ESC_EXHAUST
  ⟨0x208, 0x8000000, 1, 0x4, 1, none,
    [⟨0, 0, .w1c, 0, 0, .none⟩, ⟨1, 1, .w1c, 0, 0, .none⟩, ⟨2, 2, .w1c, 0, 0, .none⟩, ⟨3, 3, .w1c, 0, 0, .none⟩, ⟨4, 4, .w1c, 0, 0, .none⟩]⟩,
  -- ESC_BASE (R112): ADDR
  ⟨0x20C, 0x8000000, 1, 0x4, 1, some (0x0, 0x0),
    [⟨28, 0, .rwe, 0, 0, .none⟩]⟩,
  -- ESC_SLOTS (R112): COUNT
  ⟨0x210, 0x8000000, 1, 0x4, 1, some (0x0, 0x0),
    [⟨20, 0, .rwe, 0, 0, .atMost 1048576⟩]⟩,
  -- ESC_NEXT (R112): NEXT
  ⟨0x214, 0x8000000, 1, 0x4, 1, none,
    [⟨20, 0, .rw, 0, 0, .none⟩]⟩,
  -- ESC_COUNT (R112): ESCAPES
  ⟨0x218, 0x8000000, 1, 0x4, 1, none,
    [⟨31, 0, .ro, 0, 0, .none⟩]⟩,
  -- ESC_STALL_TC (R112): TC
  ⟨0x21C, 0x8000000, 1, 0x4, 1, none,
    [⟨31, 0, .ro, 0, 0, .none⟩]⟩,
  -- RUN_EXTRA_TC (R112): TC
  ⟨0x220, 0x8000000, 1, 0x4, 1, none,
    [⟨31, 0, .ro, 0, 0, .none⟩]⟩,
  -- THR_KEYS (R135): LOADED
  ⟨0x240, 0x8000000, 1, 0x4, 1, none,
    [⟨7, 0, .ro, 0, 0, .none⟩]⟩,
  -- THR_STEP (R135): STEP
  ⟨0x244, 0x8000000, 1, 0x4, 1, none,
    [⟨31, 0, .ro, 0, 0, .none⟩]⟩,
  -- THR_KCVk (R135): KCV
  ⟨0x248, 0x8000000, 1, 0x4, 8, none,
    [⟨31, 0, .ro, 0, 0, .none⟩]⟩,
  -- SR_COUNT (R135): ELEMENTS
  ⟨0x268, 0x8000000, 1, 0x4, 1, none,
    [⟨31, 0, .ro, 0, 0, .none⟩]⟩,
  -- SAT_I8_COUNT (R135): ELEMENTS
  ⟨0x26C, 0x8000000, 1, 0x4, 1, none,
    [⟨31, 0, .ro, 0, 0, .none⟩]⟩,
  -- SCOUT_STATUS (R135): BLOCK_REWRITE, SCALE_LIMIT
  ⟨0x270, 0x8000000, 1, 0x4, 1, none,
    [⟨0, 0, .w1c, 0, 0, .none⟩, ⟨1, 1, .w1c, 0, 0, .none⟩]⟩,
  -- ENG_STATUS (R157): POCKET_RACE, VP_RACE, FN_SLOW
  ⟨0x280, 0x8000000, 1, 0x4, 1, none,
    [⟨0, 0, .w1c, 0, 0, .none⟩, ⟨1, 1, .w1c, 0, 0, .none⟩, ⟨2, 2, .w1c, 0, 0, .none⟩]⟩,
  -- FREEZE_TC (R157): TC
  ⟨0x284, 0x8000000, 1, 0x4, 1, none,
    [⟨31, 0, .ro, 0, 0, .none⟩]⟩,
  -- FN_SLOW_TC (R157): TC
  ⟨0x288, 0x8000000, 1, 0x4, 1, none,
    [⟨31, 0, .ro, 0, 0, .none⟩]⟩,
  -- ARRAY_BUSY_TC (R157): TC
  ⟨0x28C, 0x8000000, 1, 0x4, 1, none,
    [⟨31, 0, .ro, 0, 0, .none⟩]⟩,
  -- OUT_BUSY_TC (R157): TC
  ⟨0x290, 0x8000000, 1, 0x4, 1, none,
    [⟨31, 0, .ro, 0, 0, .none⟩]⟩,
  -- VU_BUSY_TC (R157): TC
  ⟨0x294, 0x8000000, 1, 0x4, 1, none,
    [⟨31, 0, .ro, 0, 0, .none⟩]⟩,
  -- WORK_LO_c (R157): COUNT
  ⟨0x2A0, 0x8000000, 1, 0x8, 10, none,
    [⟨31, 0, .ro, 0, 0, .none⟩]⟩,
  -- WORK_HI_c (R157): COUNT
  ⟨0x2A4, 0x8000000, 1, 0x8, 10, none,
    [⟨31, 0, .ro, 0, 0, .none⟩]⟩,
  -- WORK_SEQ (R157): SEQ
  ⟨0x2F0, 0x8000000, 1, 0x4, 1, none,
    [⟨31, 0, .ro, 0, 0, .none⟩]⟩]

/-- The registers of a tile block, by tile offset (R56, R58, R112, R135, R157, R182, R225, R249, R495), part 2. -/
def tileRegs2 : List RegDesc := [
  -- LOFT_OWN (R182): OWNER_0, OWNER_1, OWNER_2, OWNER_3, OWNER_4, OWNER_5, OWNER_6, OWNER_7
  ⟨0x300, 0x8000000, 1, 0x4, 1, some (0x0, 0x0),
    [⟨3, 0, .rwe, 7, 0, .none⟩, ⟨7, 4, .rwe, 7, 0, .none⟩, ⟨11, 8, .rwe, 7, 0, .none⟩, ⟨15, 12, .rwe, 7, 0, .none⟩, ⟨19, 16, .rwe, 7, 0, .none⟩, ⟨23, 20, .rwe, 7, 0, .none⟩, ⟨27, 24, .rwe, 7, 0, .none⟩, ⟨31, 28, .rwe, 7, 0, .none⟩]⟩,
  -- LOFT_OWN_NOW (R182): OWNER_0, OWNER_1, OWNER_2, OWNER_3, OWNER_4, OWNER_5, OWNER_6, OWNER_7
  ⟨0x304, 0x8000000, 1, 0x4, 1, none,
    [⟨3, 0, .ro, 7, 0, .none⟩, ⟨7, 4, .ro, 7, 0, .none⟩, ⟨11, 8, .ro, 7, 0, .none⟩, ⟨15, 12, .ro, 7, 0, .none⟩, ⟨19, 16, .ro, 7, 0, .none⟩, ⟨23, 20, .ro, 7, 0, .none⟩, ⟨27, 24, .ro, 7, 0, .none⟩, ⟨31, 28, .ro, 7, 0, .none⟩]⟩,
  -- LOFT_CTRL (R182): TIMEOUT, RING
  ⟨0x308, 0x8000000, 1, 0x4, 1, some (0x0, 0x0),
    [⟨7, 0, .rwe, 0x40, 0, .zeroTo 1⟩, ⟨15, 8, .rwe, 0, 0, .none⟩]⟩,
  -- LOFT_STATUS (R182): ENGINE_WAIT, TIMEOUT, HANDOVER_DEFERRED, ATOMIC_WRAP, ATOMIC_NAN, MARCH_FAIL, MARCH_REFUSED, REPAIR_EXHAUST
  ⟨0x30C, 0x8000000, 1, 0x4, 1, none,
    [⟨0, 0, .w1c, 0, 0, .none⟩, ⟨1, 1, .w1c, 0, 0, .none⟩, ⟨2, 2, .w1c, 0, 0, .none⟩, ⟨3, 3, .w1c, 0, 0, .none⟩, ⟨4, 4, .w1c, 0, 0, .none⟩, ⟨5, 5, .w1c, 0, 0, .none⟩, ⟨6, 6, .w1c, 0, 0, .none⟩, ⟨7, 7, .w1c, 0, 0, .none⟩]⟩,
  -- LOFT_CONFLICT_m (R182): COUNT
  ⟨0x310, 0x8000000, 1, 0x4, 8, none,
    [⟨31, 0, .ro, 0, 0, .none⟩]⟩,
  -- LOFT_WAIT_TC_m (R182): TC
  ⟨0x330, 0x8000000, 1, 0x4, 8, none,
    [⟨31, 0, .ro, 0, 0, .none⟩]⟩,
  -- MARCH_CTRL (R182): START, MODE, REPAIR, BANKS
  ⟨0x350, 0x8000000, 1, 0x4, 1, none,
    [⟨0, 0, .wo, 0, 0, .none⟩, ⟨1, 1, .rw, 0, 0, .none⟩, ⟨2, 2, .rw, 1, 0, .none⟩, ⟨15, 8, .rw, 0, 0, .none⟩]⟩,
  -- MARCH_STATUS (R182): BUSY, FAULTY
  ⟨0x354, 0x8000000, 1, 0x4, 1, none,
    [⟨0, 0, .ro, 0, 0, .none⟩, ⟨15, 8, .ro, 0, 0, .none⟩]⟩,
  -- LOFT_REPAIR_b_i (R182): ROW, VALID
  ⟨0x400, 0x8000000, 1, 0x4, 128, none,
    [⟨9, 0, .ro, 0, 0, .none⟩, ⟨15, 15, .ro, 0, 0, .none⟩]⟩,
  -- SEQ_CTRL (R225): WAIT_LIMIT
  ⟨0x600, 0x8000000, 1, 0x4, 1, some (0x0, 0x0),
    [⟨7, 0, .rwe, 0, 0, .none⟩]⟩,
  -- SEQ_STATUS (R225): STATE, ACTIVE, READY_0, READY_1, SWITCH_ARMED, ILLEGAL, FUSED, WAIT_TIMEOUT
  ⟨0x604, 0x8000000, 1, 0x4, 1, none,
    [⟨2, 0, .ro, 0, 0, .none⟩, ⟨3, 3, .ro, 0, 0, .none⟩, ⟨4, 4, .ro, 0, 0, .none⟩, ⟨5, 5, .ro, 0, 0, .none⟩, ⟨6, 6, .ro, 0, 0, .none⟩, ⟨8, 8, .w1c, 0, 0, .none⟩, ⟨9, 9, .w1c, 0, 0, .none⟩, ⟨10, 10, .w1c, 0, 0, .none⟩]⟩,
  -- SEQ_PC (R225): INDEX, BANK
  ⟨0x608, 0x8000000, 1, 0x4, 1, none,
    [⟨11, 0, .ro, 0, 0, .none⟩, ⟨12, 12, .ro, 0, 0, .none⟩]⟩,
  -- SEQ_STOP (R225): INDEX, BANK, STATUS
  ⟨0x60C, 0x8000000, 1, 0x4, 1, none,
    [⟨11, 0, .ro, 0, 0, .none⟩, ⟨12, 12, .ro, 0, 0, .none⟩, ⟨23, 16, .ro, 0, 0, .none⟩]⟩,
  -- SEQ_TC_LO (R225): TC
  ⟨0x610, 0x8000000, 1, 0x4, 1, none,
    [⟨31, 0, .ro, 0, 0, .none⟩]⟩,
  -- SEQ_TC_HI (R225): TC
  ⟨0x614, 0x8000000, 1, 0x4, 1, none,
    [⟨31, 0, .ro, 0, 0, .none⟩]⟩,
  -- ISSUED (R225): COUNT
  ⟨0x618, 0x8000000, 1, 0x4, 1, none,
    [⟨31, 0, .ro, 0, 0, .none⟩]⟩,
  -- PRED_SKIP (R225): COUNT
  ⟨0x61C, 0x8000000, 1, 0x4, 1, none,
    [⟨31, 0, .ro, 0, 0, .none⟩]⟩,
  -- LOG_COUNT (R225): COUNT
  ⟨0x620, 0x8000000, 1, 0x4, 1, none,
    [⟨6, 0, .ro, 0, 0, .none⟩]⟩,
  -- LOG_LOST (R225): COUNT
  ⟨0x624, 0x8000000, 1, 0x4, 1, none,
    [⟨31, 0, .ro, 0, 0, .none⟩]⟩,
  -- JOB_IDS (R225): EPOCH, TENANT
  ⟨0x628, 0x8000000, 1, 0x4, 1, none,
    [⟨15, 0, .ro, 0, 0, .none⟩, ⟨31, 16, .ro, 0, 0, .none⟩]⟩,
  -- DMA_OUTSTANDING (R225): COUNT
  ⟨0x62C, 0x8000000, 1, 0x4, 1, none,
    [⟨4, 0, .ro, 0, 0, .none⟩]⟩,
  -- LOOP_c (R225): COUNT
  ⟨0x630, 0x8000000, 1, 0x4, 4, none,
    [⟨31, 0, .ro, 0, 0, .none⟩]⟩,
  -- STALL_TC_s (R225): TC
  ⟨0x700, 0x8000000, 1, 0x8, 64, none,
    [⟨31, 0, .ro, 0, 0, .none⟩]⟩,
  -- STALL_N_s (R225): COUNT
  ⟨0x704, 0x8000000, 1, 0x8, 64, none,
    [⟨31, 0, .ro, 0, 0, .none⟩]⟩]

/-- The registers of a tile block, by tile offset (R56, R58, R112, R135, R157, R182, R225, R249, R495), part 3. -/
def tileRegs3 : List RegDesc := [
  -- TBL_META_b (R225): PROG_ID
  ⟨0x680, 0x8000000, 1, 0x10, 2, none,
    [⟨31, 0, .ro, 0, 0, .none⟩]⟩,
  -- TBL_META_b+4 (R225): NUM_CTRL, GRADE, REV
  ⟨0x684, 0x8000000, 1, 0x10, 2, none,
    [⟨4, 0, .ro, 0, 0, .none⟩, ⟨11, 8, .ro, 0, 0, .none⟩, ⟨19, 12, .ro, 0, 0, .none⟩]⟩,
  -- TBL_META_b+4+4 (R225): ENTRIES
  ⟨0x688, 0x8000000, 1, 0x10, 2, none,
    [⟨12, 0, .ro, 0, 0, .none⟩]⟩,
  -- LOG_n (R225): ENTRY
  ⟨0x900, 0x8000000, 1, 0x4, 512, none,
    [⟨31, 0, .ro, 0, 0, .none⟩]⟩,
  -- FLAGS_LO (R249): LEVEL
  ⟨0x1100, 0x8000000, 1, 0x4, 1, none,
    [⟨31, 0, .ro, 0, 0, .none⟩]⟩,
  -- FLAGS_HI (R249): LEVEL, HW
  ⟨0x1104, 0x8000000, 1, 0x4, 1, none,
    [⟨7, 0, .ro, 0, 0, .none⟩, ⟨11, 8, .ro, 0, 0, .none⟩]⟩,
  -- OVERSET_LO (R249): OVERSET
  ⟨0x1108, 0x8000000, 1, 0x4, 1, none,
    [⟨31, 0, .w1c, 0, 0, .none⟩]⟩,
  -- OVERSET_HI (R249): OVERSET
  ⟨0x110C, 0x8000000, 1, 0x4, 1, none,
    [⟨7, 0, .w1c, 0, 0, .none⟩]⟩,
  -- FLAG_STATUS (R249): OVERSET, DRIFT, RELEASE_STALE, SET_DROPPED, BAR_OVERRUN
  ⟨0x1110, 0x8000000, 1, 0x4, 1, none,
    [⟨0, 0, .w1c, 0, 0, .none⟩, ⟨1, 1, .w1c, 0, 0, .none⟩, ⟨2, 2, .w1c, 0, 0, .none⟩, ⟨3, 3, .w1c, 0, 0, .none⟩, ⟨4, 4, .w1c, 0, 0, .none⟩]⟩,
  -- BAR_TILE (R249): PENDING, RELEASED, SLOT, ROUND
  ⟨0x1114, 0x8000000, 1, 0x4, 1, none,
    [⟨0, 0, .ro, 0, 0, .none⟩, ⟨1, 1, .ro, 0, 0, .none⟩, ⟨7, 2, .ro, 0, 0, .none⟩, ⟨31, 16, .ro, 0, 0, .none⟩]⟩,
  -- BAR_LEFT (R249): COUNT
  ⟨0x1118, 0x8000000, 1, 0x4, 1, none,
    [⟨31, 0, .ro, 0, 0, .none⟩]⟩,
  -- SETS_DROPPED (R249): COUNT
  ⟨0x111C, 0x8000000, 1, 0x4, 1, none,
    [⟨31, 0, .ro, 0, 0, .none⟩]⟩,
  -- FLAG_COUNT_f (R249): SETS, TAKES
  ⟨0x1200, 0x8000000, 1, 0x4, 40, none,
    [⟨15, 0, .ro, 0, 0, .none⟩, ⟨31, 16, .ro, 0, 0, .none⟩]⟩,
  -- TILE_CTRL (R495): ENABLE, RESET
  ⟨0x0, 0x8000000, 1, 0x4, 1, none,
    [⟨0, 0, .rw, 0, 0, .none⟩, ⟨1, 1, .wo, 0, 0, .none⟩]⟩]

/-- The registers of a tile block, by tile offset (R56, R58, R112, R135, R157, R182, R225, R249, R495). -/
def tileRegs : List RegDesc :=
  tileRegs1 ++ tileRegs2 ++ tileRegs3

/-- The registers of BAR0 outside the tile blocks, by BAR0 offset (R250, R275, R276, R303-R305, R342, R343, R366, R397, R432, R464, R488, R514, R515, R546), part 1. -/
def devRegs1 : List RegDesc := [
  -- BAR_CFG (R250): KEEPER, ALIGN, VALID
  ⟨0x384000, 0x40, 64, 0x4, 1, none,
    [⟨8, 0, .ro, 0, 0, .none⟩, ⟨9, 9, .ro, 0, 0, .none⟩, ⟨10, 10, .ro, 0, 0, .none⟩]⟩,
  -- BAR_JOB (R250): JOB
  ⟨0x384004, 0x40, 64, 0x4, 1, none,
    [⟨31, 0, .ro, 0, 0, .none⟩]⟩,
  -- BAR_HOME (R250): HOME, DEVICES
  ⟨0x384008, 0x40, 64, 0x4, 1, none,
    [⟨14, 0, .ro, 0, 0, .none⟩, ⟨31, 16, .ro, 0, 0, .none⟩]⟩,
  -- BAR_STATE (R250): ROUND, ARRIVED
  ⟨0x38400C, 0x40, 64, 0x4, 1, none,
    [⟨15, 0, .ro, 0, 0, .none⟩, ⟨24, 16, .ro, 0, 0, .none⟩]⟩,
  -- BAR_HOME_ARRIVED (R250): DEVICES
  ⟨0x384010, 0x40, 64, 0x4, 1, none,
    [⟨15, 0, .ro, 0, 0, .none⟩]⟩,
  -- BAR_MASK_w (R250): MEMBER
  ⟨0x384020, 0x40, 64, 0x4, 8, none,
    [⟨31, 0, .ro, 0, 0, .none⟩]⟩,
  -- RING_CFG (R250): PRODUCER, CONSUMER, SF, DF, VALID
  ⟨0x385000, 0x40, 16, 0x4, 1, none,
    [⟨8, 0, .ro, 0, 0, .none⟩, ⟨17, 9, .ro, 0, 0, .none⟩, ⟨23, 18, .ro, 0, 0, .none⟩, ⟨29, 24, .ro, 0, 0, .none⟩, ⟨30, 30, .ro, 0, 0, .none⟩]⟩,
  -- RING_PEERS (R250): PROD_RANK, CONS_RANK
  ⟨0x385004, 0x40, 16, 0x4, 1, none,
    [⟨14, 0, .ro, 0, 0, .none⟩, ⟨30, 16, .ro, 0, 0, .none⟩]⟩,
  -- RING_GEOM (R250): N_M1, SLOT_ROWS, BANK, BASE_ROW
  ⟨0x385008, 0x40, 16, 0x4, 1, none,
    [⟨7, 0, .ro, 0, 0, .none⟩, ⟨17, 8, .ro, 0, 0, .none⟩, ⟨20, 18, .ro, 0, 0, .none⟩, ⟨30, 21, .ro, 0, 0, .none⟩]⟩,
  -- RING_JOB (R250): JOB
  ⟨0x38500C, 0x40, 16, 0x4, 1, none,
    [⟨31, 0, .ro, 0, 0, .none⟩]⟩,
  -- RING_STATE (R250): FREE, FULL, CREDIT, HELD
  ⟨0x385010, 0x40, 16, 0x4, 1, none,
    [⟨8, 0, .ro, 0, 0, .none⟩, ⟨17, 9, .ro, 0, 0, .none⟩, ⟨26, 18, .ro, 0, 0, .none⟩, ⟨27, 27, .ro, 0, 0, .none⟩]⟩,
  -- RING_PUSHES (R250): COUNT
  ⟨0x385014, 0x40, 16, 0x4, 1, none,
    [⟨31, 0, .ro, 0, 0, .none⟩]⟩,
  -- RING_POPS (R250): COUNT
  ⟨0x385018, 0x40, 16, 0x4, 1, none,
    [⟨31, 0, .ro, 0, 0, .none⟩]⟩,
  -- RING_FULL_TC (R250): TC
  ⟨0x38501C, 0x40, 16, 0x4, 1, none,
    [⟨31, 0, .ro, 0, 0, .none⟩]⟩,
  -- RING_LEFTOVER (R250): COUNT
  ⟨0x385020, 0x40, 16, 0x4, 1, none,
    [⟨31, 0, .ro, 0, 0, .none⟩]⟩,
  -- GRN_CTRL (R275): ENABLE
  ⟨0x100000, 0x10000, 24, 0x4, 1, none,
    [⟨0, 0, .rw, 0, 0, .none⟩]⟩,
  -- GRN_STATUS (R275): CORRECTED, UNCORRECTABLE, POISON_WRITTEN, LANE_REPAIRED, CAL_FAIL, RETIRE_REFUSED, RETIRING, STACK_RETIRED
  ⟨0x100004, 0x10000, 24, 0x4, 1, none,
    [⟨0, 0, .w1c, 0, 0, .none⟩, ⟨1, 1, .w1c, 0, 0, .none⟩, ⟨2, 2, .w1c, 0, 0, .none⟩, ⟨3, 3, .w1c, 0, 0, .none⟩, ⟨4, 4, .w1c, 0, 0, .none⟩, ⟨5, 5, .w1c, 0, 0, .none⟩, ⟨6, 6, .ro, 0, 0, .none⟩, ⟨7, 7, .ro, 0, 0, .none⟩]⟩,
  -- GRN_RESERVE (R275): K, FREE
  ⟨0x100008, 0x10000, 24, 0x4, 1, none,
    [⟨1, 0, .ro, 1, 0, .none⟩, ⟨19, 2, .ro, 0xAAAB, 0, .none⟩]⟩,
  -- GRN_RH (R275): LIMIT
  ⟨0x10000C, 0x10000, 24, 0x4, 1, some (0x100000, 0x10000),
    [⟨13, 0, .rwe, 0x400, 0, .atLeast 64⟩]⟩,
  -- GRN_CAL (R275): PERIOD, TEMP_STEP
  ⟨0x100010, 0x10000, 24, 0x4, 1, some (0x100000, 0x10000),
    [⟨15, 0, .rwe, 0x80, 0, .zeroTo 1⟩, ⟨23, 16, .rwe, 4, 0, .zeroTo 1⟩]⟩,
  -- GRN_CE_COUNT (R275): WORDS
  ⟨0x100014, 0x10000, 24, 0x4, 1, none,
    [⟨31, 0, .ro, 0, 0, .none⟩]⟩,
  -- GRN_UE_COUNT (R275): WORDS
  ⟨0x100018, 0x10000, 24, 0x4, 1, none,
    [⟨31, 0, .ro, 0, 0, .none⟩]⟩,
  -- GRN_ODECC_COUNT (R275): EVENTS
  ⟨0x10001C, 0x10000, 24, 0x4, 1, none,
    [⟨31, 0, .ro, 0, 0, .none⟩]⟩,
  -- GRN_RH_ACTIONS (R275): COUNT
  ⟨0x100020, 0x10000, 24, 0x4, 1, none,
    [⟨31, 0, .ro, 0, 0, .none⟩]⟩]

/-- The registers of BAR0 outside the tile blocks, by BAR0 offset (R250, R275, R276, R303-R305, R342, R343, R366, R397, R432, R464, R488, R514, R515, R546), part 2. -/
def devRegs2 : List RegDesc := [
  -- GRN_REFRESH_TC (R275): CYCLES
  ⟨0x100024, 0x10000, 24, 0x4, 1, none,
    [⟨31, 0, .ro, 0, 0, .none⟩]⟩,
  -- GRN_CAL_PASSES (R275): COUNT
  ⟨0x100028, 0x10000, 24, 0x4, 1, none,
    [⟨31, 0, .ro, 0, 0, .none⟩]⟩,
  -- GRN_RETIRE (R275): PAGE, GRANULE
  ⟨0x10002C, 0x10000, 24, 0x4, 1, none,
    [⟨19, 0, .ro, 0, 0, .none⟩, ⟨24, 20, .ro, 0, 0, .none⟩]⟩,
  -- GRN_REMAP_USED (R275): COUNT
  ⟨0x100030, 0x10000, 24, 0x4, 1, none,
    [⟨12, 0, .ro, 0, 0, .none⟩]⟩,
  -- GRN_TEMP (R275): CELSIUS
  ⟨0x100034, 0x10000, 24, 0x4, 1, none,
    [⟨7, 0, .ro, 0, 0, .none⟩]⟩,
  -- GRN_REMAP_n (R275): SRC, COPYING, VALID
  ⟨0x101000, 0x10000, 24, 0x8, 4096, none,
    [⟨19, 0, .ro, 0, 0, .none⟩, ⟨30, 30, .ro, 0, 0, .none⟩, ⟨31, 31, .ro, 0, 0, .none⟩]⟩,
  -- GRN_REMAP_DST (R275): DST
  ⟨0x101004, 0x10000, 24, 0x8, 4096, none,
    [⟨19, 0, .ro, 0, 0, .none⟩]⟩,
  -- WIN_JOB (R276): JOB
  ⟨0x386000, 0x20, 32, 0x4, 1, none,
    [⟨31, 0, .ro, 0, 0, .none⟩]⟩,
  -- WIN_JOB (R276): JOB
  ⟨0x386400, 0x20, 16, 0x4, 1, none,
    [⟨31, 0, .ro, 0, 0, .none⟩]⟩,
  -- WIN_CFG (R276): RANK, READ, WRITE, VALID
  ⟨0x386004, 0x20, 32, 0x4, 1, none,
    [⟨14, 0, .ro, 0, 0, .none⟩, ⟨16, 16, .ro, 0, 0, .none⟩, ⟨17, 17, .ro, 0, 0, .none⟩, ⟨31, 31, .ro, 0, 0, .none⟩]⟩,
  -- WIN_CFG (R276): RANK, READ, WRITE, VALID
  ⟨0x386404, 0x20, 16, 0x4, 1, none,
    [⟨14, 0, .ro, 0, 0, .none⟩, ⟨16, 16, .ro, 0, 0, .none⟩, ⟨17, 17, .ro, 0, 0, .none⟩, ⟨31, 31, .ro, 0, 0, .none⟩]⟩,
  -- WIN_BASE_LO (R276): BASE
  ⟨0x386008, 0x20, 32, 0x4, 1, none,
    [⟨31, 0, .ro, 0, 0, .none⟩]⟩,
  -- WIN_BASE_LO (R276): BASE
  ⟨0x386408, 0x20, 16, 0x4, 1, none,
    [⟨31, 0, .ro, 0, 0, .none⟩]⟩,
  -- WIN_BASE_HI (R276): BASE
  ⟨0x38600C, 0x20, 32, 0x4, 1, none,
    [⟨31, 0, .ro, 0, 0, .none⟩]⟩,
  -- WIN_BASE_HI (R276): BASE
  ⟨0x38640C, 0x20, 16, 0x4, 1, none,
    [⟨31, 0, .ro, 0, 0, .none⟩]⟩,
  -- WIN_SIZE (R276): SIZE
  ⟨0x386010, 0x20, 32, 0x4, 1, none,
    [⟨31, 0, .ro, 0, 0, .none⟩]⟩,
  -- WIN_SIZE (R276): SIZE
  ⟨0x386410, 0x20, 16, 0x4, 1, none,
    [⟨31, 0, .ro, 0, 0, .none⟩]⟩,
  -- ENG_CTRL (R303): ENABLE, MODE, AUTO_SPARE
  ⟨0x300000, 0x10000, 8, 0x4, 1, some (0x300000, 0x10000),
    [⟨0, 0, .rw, 0, 0, .none⟩, ⟨1, 1, .rwe, 0, 0, .none⟩, ⟨2, 2, .rwe, 1, 0, .none⟩]⟩,
  -- ENG_STATUS (R303): FEED, LIGHT_OK, LANE_SPARED, SPARE_EXHAUST, FEED_SWITCHED, LANE_FAIL, SPARES_USED
  ⟨0x300004, 0x10000, 8, 0x4, 1, none,
    [⟨0, 0, .ro, 0, 0, .none⟩, ⟨1, 1, .ro, 0, 0, .none⟩, ⟨2, 2, .w1c, 0, 0, .none⟩, ⟨3, 3, .w1c, 0, 0, .none⟩, ⟨4, 4, .w1c, 0, 0, .none⟩, ⟨5, 5, .w1c, 0, 0, .none⟩, ⟨7, 6, .ro, 0, 0, .none⟩]⟩,
  -- ENG_LANE_MAP_0 (R303): LANE, LANE, LANE, LANE, LANE, LANE
  ⟨0x300008, 0x10000, 8, 0x4, 1, none,
    [⟨4, 0, .ro, 0, 0, .none⟩, ⟨9, 5, .ro, 1, 0, .none⟩, ⟨14, 10, .ro, 2, 0, .none⟩, ⟨19, 15, .ro, 3, 0, .none⟩, ⟨24, 20, .ro, 4, 0, .none⟩, ⟨29, 25, .ro, 5, 0, .none⟩]⟩,
  -- ENG_LANE_MAP_1 (R303): LANE, LANE, LANE, LANE, LANE, LANE
  ⟨0x30000C, 0x10000, 8, 0x4, 1, none,
    [⟨4, 0, .ro, 6, 0, .none⟩, ⟨9, 5, .ro, 7, 0, .none⟩, ⟨14, 10, .ro, 8, 0, .none⟩, ⟨19, 15, .ro, 9, 0, .none⟩, ⟨24, 20, .ro, 0xA, 0, .none⟩, ⟨29, 25, .ro, 0xB, 0, .none⟩]⟩,
  -- ENG_LANE_MAP_2 (R303): LANE, LANE, LANE, LANE, LANE, LANE
  ⟨0x300010, 0x10000, 8, 0x4, 1, none,
    [⟨4, 0, .ro, 0xC, 0, .none⟩, ⟨9, 5, .ro, 0xD, 0, .none⟩, ⟨14, 10, .ro, 0xE, 0, .none⟩, ⟨19, 15, .ro, 0xF, 0, .none⟩, ⟨24, 20, .ro, 0x10, 0, .none⟩, ⟨29, 25, .ro, 0x11, 0, .none⟩]⟩,
  -- ENG_BER_LIMIT (R303): LIMIT
  ⟨0x300014, 0x10000, 8, 0x4, 1, some (0x300000, 0x10000),
    [⟨19, 0, .rwe, 0x80000, 0, .none⟩]⟩,
  -- PORT_CFG_j (R303): UP, LINK_MODE, VID
  ⟨0x300020, 0x10000, 8, 0x4, 4, some (0x300000, 0x10000),
    [⟨0, 0, .rw, 0, 0, .none⟩, ⟨1, 1, .rwe, 0, 0, .none⟩, ⟨15, 4, .rwe, 1, 0, .none⟩]⟩]

/-- The registers of BAR0 outside the tile blocks, by BAR0 offset (R250, R275, R276, R303-R305, R342, R343, R366, R397, R432, R464, R488, R514, R515, R546), part 3. -/
def devRegs3 : List RegDesc := [
  -- PORT_STATUS_j (R303): LINK_UP, FEC_LOCK, MACSEC_READY, SWAPPING, WENT_DOWN, C0_PAUSED
  ⟨0x300030, 0x10000, 8, 0x4, 4, none,
    [⟨0, 0, .ro, 0, 0, .none⟩, ⟨1, 1, .ro, 0, 0, .none⟩, ⟨2, 2, .ro, 0, 0, .none⟩, ⟨3, 3, .ro, 0, 0, .none⟩, ⟨4, 4, .w1c, 0, 0, .none⟩, ⟨5, 5, .w1c, 0, 0, .none⟩]⟩,
  -- FEC_CORR_j (R303): COUNT
  ⟨0x300040, 0x10000, 8, 0x8, 4, none,
    [⟨31, 0, .ro, 0, 0, .none⟩]⟩,
  -- FEC_UNCORR_j (R303): COUNT
  ⟨0x300044, 0x10000, 8, 0x8, 4, none,
    [⟨31, 0, .ro, 0, 0, .none⟩]⟩,
  -- LANE_SER_l (R303): COUNT
  ⟨0x300060, 0x10000, 8, 0x4, 18, none,
    [⟨31, 0, .ro, 0, 0, .none⟩]⟩,
  -- WAIN_CTRL (R304): ENABLE, ECN_EN
  ⟨0x380000, 0x8000000, 1, 0x4, 1, some (0x380000, 0x0),
    [⟨0, 0, .rw, 0, 0, .none⟩, ⟨1, 1, .rwe, 1, 0, .none⟩]⟩,
  -- WAIN_UDP (R304): PORT
  ⟨0x380004, 0x8000000, 1, 0x4, 1, some (0x380000, 0x0),
    [⟨15, 0, .rwe, 0xC80C, 0, .none⟩]⟩,
  -- WAIN_PCP (R304): PCP0, PCP1, PCP2, PCP3
  ⟨0x380008, 0x8000000, 1, 0x4, 1, some (0x380000, 0x0),
    [⟨2, 0, .rwe, 6, 0, .none⟩, ⟨6, 4, .rwe, 4, 0, .none⟩, ⟨10, 8, .rwe, 3, 0, .none⟩, ⟨14, 12, .rwe, 1, 0, .none⟩]⟩,
  -- WAIN_ETS (R304): W1, W2, W3, C0_SHARE
  ⟨0x38000C, 0x8000000, 1, 0x4, 1, some (0x380000, 0x0),
    [⟨7, 0, .rwe, 0x3C, 0, .none⟩, ⟨15, 8, .rwe, 0x1E, 0, .none⟩, ⟨23, 16, .rwe, 0xA, 0, .none⟩, ⟨31, 24, .rwe, 0xA, 0, .zeroTo 1⟩]⟩,
  -- WAIN_TIMERS (R304): RTO, PEER_LOSS
  ⟨0x380010, 0x8000000, 1, 0x4, 1, some (0x380000, 0x0),
    [⟨15, 0, .rwe, 0x7D, 0, .none⟩, ⟨31, 16, .rwe, 0x64, 0, .zeroTo 1⟩]⟩,
  -- WAIN_STATUS (R304): PEER_LOST, NO_ROUTE, SEAL_FAIL, HALT_DROPPED, C0_LATE
  ⟨0x380014, 0x8000000, 1, 0x4, 1, none,
    [⟨0, 0, .w1c, 0, 0, .none⟩, ⟨1, 1, .w1c, 0, 0, .none⟩, ⟨2, 2, .w1c, 0, 0, .none⟩, ⟨3, 3, .w1c, 0, 0, .none⟩, ⟨4, 4, .w1c, 0, 0, .none⟩]⟩,
  -- WAIN_RETX (R304): COUNT
  ⟨0x380018, 0x8000000, 1, 0x4, 1, none,
    [⟨31, 0, .ro, 0, 0, .none⟩]⟩,
  -- WAIN_SEAL_FAIL (R304): COUNT
  ⟨0x38001C, 0x8000000, 1, 0x4, 1, none,
    [⟨31, 0, .ro, 0, 0, .none⟩]⟩,
  -- WAIN_CE_RX (R304): COUNT
  ⟨0x380020, 0x8000000, 1, 0x4, 1, none,
    [⟨31, 0, .ro, 0, 0, .none⟩]⟩,
  -- LASER_CTRL (R304): EN, SWAP
  ⟨0x380100, 0x8000000, 1, 0x4, 1, none,
    [⟨3, 0, .ro, 0, 0, .none⟩, ⟨7, 4, .ro, 0, 0, .none⟩]⟩,
  -- LASER_STATUS (R304): PRESENT, LIT, SAFE_TO_REMOVE, FAILED
  ⟨0x380104, 0x8000000, 1, 0x4, 1, none,
    [⟨3, 0, .ro, 0, 0, .none⟩, ⟨7, 4, .ro, 0, 0, .none⟩, ⟨11, 8, .ro, 0, 0, .none⟩, ⟨15, 12, .w1c, 0, 0, .none⟩]⟩,
  -- PTP_STATUS (R304): LOCKED, HOLDOVER, PPS_PRESENT, JUMP, TOD_SET
  ⟨0x380200, 0x8000000, 1, 0x4, 1, none,
    [⟨0, 0, .ro, 0, 0, .none⟩, ⟨1, 1, .ro, 0, 0, .none⟩, ⟨2, 2, .ro, 0, 0, .none⟩, ⟨3, 3, .w1c, 0, 0, .none⟩, ⟨4, 4, .ro, 0, 0, .none⟩]⟩,
  -- PTP_OFFSET (R304): NS
  ⟨0x380204, 0x8000000, 1, 0x4, 1, none,
    [⟨31, 0, .ro, 0, 0, .none⟩]⟩,
  -- PTP_TIME_LO (R304): NS
  ⟨0x380208, 0x8000000, 1, 0x4, 1, none,
    [⟨31, 0, .ro, 0, 0, .none⟩]⟩,
  -- PTP_TIME_HI (R304): NS
  ⟨0x38020C, 0x8000000, 1, 0x4, 1, none,
    [⟨31, 0, .ro, 0, 0, .none⟩]⟩,
  -- PTP_PORT (R304): PORT
  ⟨0x380210, 0x8000000, 1, 0x4, 1, some (0x380000, 0x0),
    [⟨4, 0, .rwe, 0, 0, .none⟩]⟩,
  -- JOB_RANKS_u (R305): JOB
  ⟨0x380300, 0x8000000, 1, 0x8, 4, none,
    [⟨31, 0, .ro, 0, 0, .none⟩]⟩,
  -- JOB_RANKS_HI (R305): BASE, COUNT
  ⟨0x380304, 0x8000000, 1, 0x8, 4, none,
    [⟨14, 0, .ro, 0, 0, .none⟩, ⟨30, 15, .ro, 0, 0, .none⟩]⟩,
  -- RANK_CFG (R305): VALID, SELF, LOST, C0_PORT
  ⟨0x400000, 0x40, 32768, 0x4, 1, none,
    [⟨0, 0, .ro, 0, 0, .none⟩, ⟨1, 1, .ro, 0, 0, .none⟩, ⟨2, 2, .ro, 0, 0, .none⟩, ⟨8, 4, .ro, 0, 0, .none⟩]⟩,
  -- RANK_PORTS (R305): PORTS
  ⟨0x400004, 0x40, 32768, 0x4, 1, none,
    [⟨31, 0, .ro, 0, 0, .none⟩]⟩]

/-- The registers of BAR0 outside the tile blocks, by BAR0 offset (R250, R275, R276, R303-R305, R342, R343, R366, R397, R432, R464, R488, R514, R515, R546), part 4. -/
def devRegs4 : List RegDesc := [
  -- RANK_IP_w (R305): ADDR
  ⟨0x400010, 0x40, 32768, 0x4, 4, none,
    [⟨31, 0, .ro, 0, 0, .none⟩]⟩,
  -- RANK_MAC_LO (R305): MAC
  ⟨0x400020, 0x40, 32768, 0x4, 1, none,
    [⟨31, 0, .ro, 0, 0, .none⟩]⟩,
  -- RANK_MAC_HI (R305): MAC
  ⟨0x400024, 0x40, 32768, 0x4, 1, none,
    [⟨15, 0, .ro, 0, 0, .none⟩]⟩,
  -- COLL_CFG (R342): KEEPER, VALID, POLICY, ALGO, DEFER_MAX, GID
  ⟨0x388000, 0x80, 64, 0x4, 1, none,
    [⟨8, 0, .ro, 0, 0, .none⟩, ⟨9, 9, .ro, 0, 0, .none⟩, ⟨11, 10, .ro, 0, 0, .none⟩, ⟨12, 12, .ro, 0, 0, .none⟩, ⟨15, 13, .ro, 1, 0, .none⟩, ⟨31, 16, .ro, 0, 0, .none⟩]⟩,
  -- COLL_JOB (R342): JOB
  ⟨0x388004, 0x80, 64, 0x4, 1, none,
    [⟨31, 0, .ro, 0, 0, .none⟩]⟩,
  -- COLL_RANKS (R342): FIRST, COUNT
  ⟨0x388008, 0x80, 64, 0x4, 1, none,
    [⟨14, 0, .ro, 0, 0, .none⟩, ⟨31, 16, .ro, 0, 0, .none⟩]⟩,
  -- COLL_STRIDE (R342): STRIDE, HOME
  ⟨0x38800C, 0x80, 64, 0x4, 1, none,
    [⟨14, 0, .ro, 1, 0, .none⟩, ⟨30, 16, .ro, 0, 0, .none⟩]⟩,
  -- COLL_DEADLINE (R342): DEADLINE, QUORUM
  ⟨0x388010, 0x80, 64, 0x4, 1, none,
    [⟨15, 0, .ro, 0, 0, .none⟩, ⟨31, 16, .ro, 0, 0, .none⟩]⟩,
  -- COLL_OPEN (R342): BUCKETS
  ⟨0x388014, 0x80, 64, 0x4, 1, none,
    [⟨7, 0, .ro, 0, 0, .none⟩]⟩,
  -- COLL_SHORT (R342): COUNT
  ⟨0x388018, 0x80, 64, 0x4, 1, none,
    [⟨31, 0, .ro, 0, 0, .none⟩]⟩,
  -- COLL_SELF_OUT (R342): COUNT
  ⟨0x38801C, 0x80, 64, 0x4, 1, none,
    [⟨31, 0, .ro, 0, 0, .none⟩]⟩,
  -- COLL_LAST_WAIT (R342): NS
  ⟨0x388020, 0x80, 64, 0x4, 1, none,
    [⟨31, 0, .ro, 0, 0, .none⟩]⟩,
  -- COLL_MASK_w (R342): MEMBER
  ⟨0x388040, 0x80, 64, 0x4, 8, none,
    [⟨31, 0, .ro, 0, 0, .none⟩]⟩,
  -- BND_STATUS (R343): STALE_EPOCH, CARRY_DROPPED, LEDGER_FULL, PEER_ABORT, DRAINED, FENCED, REPLAY
  ⟨0x38A000, 0x8000000, 1, 0x4, 1, none,
    [⟨0, 0, .w1c, 0, 0, .none⟩, ⟨1, 1, .w1c, 0, 0, .none⟩, ⟨2, 2, .w1c, 0, 0, .none⟩, ⟨3, 3, .w1c, 0, 0, .none⟩, ⟨4, 4, .w1c, 0, 0, .none⟩, ⟨5, 5, .ro, 0, 0, .none⟩, ⟨6, 6, .ro, 0, 0, .none⟩]⟩,
  -- BND_STAGE_BASE (R343): ADDR
  ⟨0x38A004, 0x8000000, 1, 0x4, 1, none,
    [⟨28, 0, .ro, 0, 0, .none⟩]⟩,
  -- BND_STAGE_SIZE (R343): MIB
  ⟨0x38A008, 0x8000000, 1, 0x4, 1, none,
    [⟨15, 0, .ro, 0, 0, .none⟩]⟩,
  -- BND_CARRY_BASE (R343): ADDR
  ⟨0x38A00C, 0x8000000, 1, 0x4, 1, none,
    [⟨28, 0, .ro, 0, 0, .none⟩]⟩,
  -- BND_CARRY_SIZE (R343): MIB
  ⟨0x38A010, 0x8000000, 1, 0x4, 1, none,
    [⟨15, 0, .ro, 0, 0, .none⟩]⟩,
  -- BND_CARRY_USED (R343): KIB
  ⟨0x38A014, 0x8000000, 1, 0x4, 1, none,
    [⟨31, 0, .ro, 0, 0, .none⟩]⟩,
  -- LEDGER_BASE (R343): ADDR
  ⟨0x38A018, 0x8000000, 1, 0x4, 1, none,
    [⟨28, 0, .ro, 0, 0, .none⟩]⟩,
  -- LEDGER_CAP (R343): ENTRIES
  ⟨0x38A01C, 0x8000000, 1, 0x4, 1, none,
    [⟨20, 0, .ro, 0, 0, .none⟩]⟩,
  -- LEDGER_COUNT (R343): ENTRIES
  ⟨0x38A020, 0x8000000, 1, 0x4, 1, none,
    [⟨20, 0, .ro, 0, 0, .none⟩]⟩,
  -- LAYOUT_EPOCH (R343): CUR, PREV
  ⟨0x38A024, 0x8000000, 1, 0x4, 1, none,
    [⟨15, 0, .ro, 0, 0, .none⟩, ⟨31, 16, .ro, 0, 0, .none⟩]⟩,
  -- LAYOUT_CUR (R343): ENTRIES
  ⟨0x38A028, 0x8000000, 1, 0x4, 1, none,
    [⟨16, 0, .ro, 0, 0, .none⟩]⟩]

/-- The registers of BAR0 outside the tile blocks, by BAR0 offset (R250, R275, R276, R303-R305, R342, R343, R366, R397, R432, R464, R488, R514, R515, R546), part 5. -/
def devRegs5 : List RegDesc := [
  -- LAYOUT_PREV (R343): ENTRIES, VALID
  ⟨0x38A02C, 0x8000000, 1, 0x4, 1, none,
    [⟨16, 0, .ro, 0, 0, .none⟩, ⟨31, 31, .ro, 0, 0, .none⟩]⟩,
  -- BND_REMAPPED (R343): COUNT
  ⟨0x38A030, 0x8000000, 1, 0x4, 1, none,
    [⟨31, 0, .ro, 0, 0, .none⟩]⟩,
  -- BND_LOG_COUNT (R343): COUNT
  ⟨0x38A034, 0x8000000, 1, 0x4, 1, none,
    [⟨6, 0, .ro, 0, 0, .none⟩]⟩,
  -- BND_LOG_LOST (R343): COUNT
  ⟨0x38A038, 0x8000000, 1, 0x4, 1, none,
    [⟨31, 0, .ro, 0, 0, .none⟩]⟩,
  -- BND_LOG_n (R343): ENTRY
  ⟨0x38A100, 0x8000000, 1, 0x4, 512, none,
    [⟨31, 0, .ro, 0, 0, .none⟩]⟩,
  -- UPD_STATUS (R366): NONFINITE, STEP_SKIPPED, CLIP_RANGE, ROOT_FAIL, ROOT_SKIP
  ⟨0x38B000, 0x8000000, 1, 0x4, 1, none,
    [⟨0, 0, .w1c, 0, 0, .none⟩, ⟨1, 1, .w1c, 0, 0, .none⟩, ⟨2, 2, .w1c, 0, 0, .none⟩, ⟨3, 3, .w1c, 0, 0, .none⟩, ⟨4, 4, .w1c, 0, 0, .none⟩]⟩,
  -- UPD_NORM_COUNT (R366): ENTRIES
  ⟨0x38B004, 0x8000000, 1, 0x4, 1, none,
    [⟨12, 0, .ro, 0, 0, .none⟩]⟩,
  -- UPD_NORM_LOST (R366): COUNT
  ⟨0x38B008, 0x8000000, 1, 0x4, 1, none,
    [⟨31, 0, .ro, 0, 0, .none⟩]⟩,
  -- UPD_NORM_STEP (R366): STEP
  ⟨0x38B00C, 0x8000000, 1, 0x4, 1, none,
    [⟨31, 0, .ro, 0, 0, .none⟩]⟩,
  -- UPD_SKIPPED (R366): COUNT
  ⟨0x38B010, 0x8000000, 1, 0x4, 1, none,
    [⟨31, 0, .ro, 0, 0, .none⟩]⟩,
  -- UPD_ROOT_KEPT (R366): COUNT
  ⟨0x38B014, 0x8000000, 1, 0x4, 1, none,
    [⟨31, 0, .ro, 0, 0, .none⟩]⟩,
  -- UPD_GROUP_g_w (R366): WORD
  ⟨0x38C000, 0x8000000, 1, 0x4, 2048, none,
    [⟨31, 0, .ro, 0, 0, .none⟩]⟩,
  -- UPD_NORM_e_w (R366): WORD
  ⟨0x390000, 0x8000000, 1, 0x4, 65536, none,
    [⟨31, 0, .ro, 0, 0, .none⟩]⟩,
  -- INT_CTRL (R397): ENABLE
  ⟨0x40000, 0x8000000, 1, 0x4, 1, none,
    [⟨0, 0, .rw, 0, 0, .none⟩]⟩,
  -- INT_STATUS (R397): CORRECTED, UNCORRECTABLE, MISMATCH, QUARANTINE, NO_SPARE, TMR_REPAIR, SCRUB_LATE, RESOURCE_HELD, RETIRE_STACK, THERMAL
  ⟨0x40004, 0x8000000, 1, 0x4, 1, none,
    [⟨0, 0, .w1c, 0, 0, .none⟩, ⟨1, 1, .w1c, 0, 0, .none⟩, ⟨2, 2, .w1c, 0, 0, .none⟩, ⟨3, 3, .w1c, 0, 0, .none⟩, ⟨4, 4, .w1c, 0, 0, .none⟩, ⟨5, 5, .w1c, 0, 0, .none⟩, ⟨6, 6, .w1c, 0, 0, .none⟩, ⟨7, 7, .w1c, 0, 0, .none⟩, ⟨8, 8, .w1c, 0, 0, .none⟩, ⟨9, 9, .w1c, 0, 0, .none⟩]⟩,
  -- GLN_PERIOD (R397): GRANARY_H, SILO_H
  ⟨0x40008, 0x8000000, 1, 0x4, 1, some (0x40000, 0x0),
    [⟨15, 0, .rwe, 0x18, 0, .zeroTo 1⟩, ⟨31, 16, .rwe, 0xA8, 0, .zeroTo 1⟩]⟩,
  -- GLN_LOFT (R397): STEPS, IDLE_S
  ⟨0x4000C, 0x8000000, 1, 0x4, 1, some (0x40000, 0x0),
    [⟨15, 0, .rwe, 0x40, 0, .none⟩, ⟨31, 16, .rwe, 0x3C, 0, .zeroTo 1⟩]⟩,
  -- GLN_LIMITS (R397): CE_PAGE, CE_ROW, PAGES_DAY
  ⟨0x40010, 0x8000000, 1, 0x4, 1, some (0x40000, 0x0),
    [⟨7, 0, .rwe, 0x10, 0, .none⟩, ⟨15, 8, .rwe, 2, 0, .none⟩, ⟨23, 16, .rwe, 0x40, 0, .none⟩]⟩,
  -- GLN_PASSES (R397): COUNT
  ⟨0x40014, 0x8000000, 1, 0x4, 1, none,
    [⟨31, 0, .ro, 0, 0, .none⟩]⟩,
  -- GLN_LATE (R397): COUNT
  ⟨0x40018, 0x8000000, 1, 0x4, 1, none,
    [⟨31, 0, .ro, 0, 0, .none⟩]⟩,
  -- GLN_POS (R397): L
  ⟨0x4001C, 0x8000000, 1, 0x4, 1, none,
    [⟨24, 0, .ro, 0, 0, .none⟩]⟩,
  -- WNW_CTRL (R397): MODE, RATE, SLOTS
  ⟨0x40020, 0x8000000, 1, 0x4, 1, some (0x40000, 0x0),
    [⟨1, 0, .rwe, 1, 0, .none⟩, ⟨5, 2, .rwe, 6, 0, .atMost 8⟩, ⟨15, 8, .rwe, 8, 0, .none⟩]⟩,
  -- WNW_AREA_BASE (R397): ADDR
  ⟨0x40024, 0x8000000, 1, 0x4, 1, none,
    [⟨28, 0, .ro, 0, 0, .none⟩]⟩,
  -- WNW_STATUS (R397): SUSPENDED, CAPTURE_LOST, ACTIVE
  ⟨0x40028, 0x8000000, 1, 0x4, 1, none,
    [⟨0, 0, .ro, 0, 0, .none⟩, ⟨1, 1, .w1c, 0, 0, .none⟩, ⟨6, 2, .ro, 0, 0, .none⟩]⟩]

/-- The registers of BAR0 outside the tile blocks, by BAR0 offset (R250, R275, R276, R303-R305, R342, R343, R366, R397, R432, R464, R488, R514, R515, R546), part 6. -/
def devRegs6 : List RegDesc := [
  -- WNW_SAMPLED (R397): COUNT
  ⟨0x4002C, 0x8000000, 1, 0x4, 1, none,
    [⟨31, 0, .ro, 0, 0, .none⟩]⟩,
  -- WNW_SKIPPED (R397): COUNT
  ⟨0x40030, 0x8000000, 1, 0x4, 1, none,
    [⟨31, 0, .ro, 0, 0, .none⟩]⟩,
  -- WNW_MISMATCH (R397): COUNT
  ⟨0x40034, 0x8000000, 1, 0x4, 1, none,
    [⟨31, 0, .ro, 0, 0, .none⟩]⟩,
  -- WNW_LOST_TILE (R397): COUNT
  ⟨0x40038, 0x8000000, 1, 0x4, 1, none,
    [⟨31, 0, .ro, 0, 0, .none⟩]⟩,
  -- WNW_LOST_VERIFIER (R397): COUNT
  ⟨0x4003C, 0x8000000, 1, 0x4, 1, none,
    [⟨31, 0, .ro, 0, 0, .none⟩]⟩,
  -- TMR_REPAIRS (R397): COUNT
  ⟨0x40040, 0x8000000, 1, 0x4, 1, none,
    [⟨31, 0, .ro, 0, 0, .none⟩]⟩,
  -- ERR_SEQ (R397): SEQ
  ⟨0x40044, 0x8000000, 1, 0x4, 1, none,
    [⟨31, 0, .ro, 0, 0, .none⟩]⟩,
  -- DBK_PAGE (R397): PAGE
  ⟨0x40048, 0x8000000, 1, 0x4, 1, none,
    [⟨9, 0, .rw, 0, 0, .none⟩]⟩,
  -- DBK_HEAD (R397): ENTRY
  ⟨0x4004C, 0x8000000, 1, 0x4, 1, none,
    [⟨19, 0, .ro, 0x4400, 0, .none⟩]⟩,
  -- DBK_FF (R397): FROZEN
  ⟨0x40050, 0x8000000, 1, 0x4, 1, none,
    [⟨0, 0, .ro, 0, 0, .none⟩]⟩,
  -- RES_HOLDER_r (R397): BLOCK, INSTANCE, HELD
  ⟨0x40100, 0x8000000, 1, 0x4, 10, none,
    [⟨9, 0, .ro, 0, 0, .none⟩, ⟨23, 16, .ro, 0, 0, .none⟩, ⟨31, 31, .ro, 0, 0, .none⟩]⟩,
  -- REPAIR_MAP_l (R397): PHYS, VALID
  ⟨0x40400, 0x8000000, 1, 0x4, 256, none,
    [⟨8, 0, .ro, 0, 1, .none⟩, ⟨31, 31, .ro, 0, 0, .none⟩]⟩,
  -- PHYS_STATE_p (R397): STATE
  ⟨0x40800, 0x8000000, 1, 0x4, 272, none,
    [⟨2, 0, .ro, 0, 0, .none⟩]⟩,
  -- ERR_REC_n_w (R397): WORD
  ⟨0x48000, 0x8000000, 1, 0x4, 4096, none,
    [⟨31, 0, .ro, 0, 0, .none⟩]⟩,
  -- SLO_CTRL (R432): ENABLE
  ⟨0x50000, 0x8000000, 1, 0x4, 1, none,
    [⟨0, 0, .rw, 0, 0, .none⟩]⟩,
  -- SLO_STATUS (R432): READ_ONLY, RESERVE_LOW, WORN, BI_FULL, PARITY_LOST, SNAP_FAIL, RELOCATED
  ⟨0x50004, 0x8000000, 1, 0x4, 1, none,
    [⟨0, 0, .ro, 0, 0, .none⟩, ⟨1, 1, .ro, 0, 0, .none⟩, ⟨2, 2, .ro, 0, 0, .none⟩, ⟨3, 3, .w1c, 0, 0, .none⟩, ⟨4, 4, .w1c, 0, 0, .none⟩, ⟨5, 5, .w1c, 0, 0, .none⟩, ⟨6, 6, .w1c, 0, 0, .none⟩]⟩,
  -- SLO_WRITTEN (R432): GIB
  ⟨0x50008, 0x8000000, 1, 0x4, 1, none,
    [⟨31, 0, .ro, 0, 0, .none⟩]⟩,
  -- SLO_WEAR (R432): USED, RESERVE
  ⟨0x5000C, 0x8000000, 1, 0x4, 1, none,
    [⟨15, 0, .ro, 0, 0, .none⟩, ⟨31, 16, .ro, 0x2710, 0, .none⟩]⟩,
  -- SLO_RETIRED (R432): COUNT
  ⟨0x50010, 0x8000000, 1, 0x4, 1, none,
    [⟨31, 0, .ro, 0, 0, .none⟩]⟩,
  -- SLO_RELOCS (R432): COUNT
  ⟨0x50014, 0x8000000, 1, 0x4, 1, none,
    [⟨31, 0, .ro, 0, 0, .none⟩]⟩,
  -- SLO_LIMITS (R432): RELOC
  ⟨0x50018, 0x8000000, 1, 0x4, 1, some (0x50000, 0x0),
    [⟨7, 0, .rwe, 8, 0, .none⟩]⟩,
  -- SLO_FREE (R432): EXTENTS
  ⟨0x5001C, 0x8000000, 1, 0x4, 1, none,
    [⟨12, 0, .ro, 0x1D00, 0, .none⟩]⟩,
  -- CFG_STATUS (R432): ACTIVE, A_VALID, B_VALID, DEFAULTS, PENDING
  ⟨0x50030, 0x8000000, 1, 0x4, 1, none,
    [⟨0, 0, .ro, 0, 0, .none⟩, ⟨1, 1, .ro, 0, 0, .none⟩, ⟨2, 2, .ro, 0, 0, .none⟩, ⟨3, 3, .ro, 0, 0, .none⟩, ⟨4, 4, .ro, 0, 0, .none⟩]⟩,
  -- CFG_SEQ_LO (R432): SEQ
  ⟨0x50034, 0x8000000, 1, 0x4, 1, none,
    [⟨31, 0, .ro, 0, 0, .none⟩]⟩]

/-- The registers of BAR0 outside the tile blocks, by BAR0 offset (R250, R275, R276, R303-R305, R342, R343, R366, R397, R432, R464, R488, R514, R515, R546), part 7. -/
def devRegs7 : List RegDesc := [
  -- CFG_SEQ_HI (R432): SEQ
  ⟨0x50038, 0x8000000, 1, 0x4, 1, none,
    [⟨31, 0, .ro, 0, 0, .none⟩]⟩,
  -- SNAP_JOB (R432): JOB
  ⟨0x50100, 0x40, 4, 0x4, 1, none,
    [⟨31, 0, .ro, 0, 0, .none⟩]⟩,
  -- SNAP_CFG (R432): N, FLAG, G, POS, VALID
  ⟨0x50104, 0x40, 4, 0x4, 1, none,
    [⟨15, 0, .ro, 0, 0, .none⟩, ⟨21, 16, .ro, 0, 0, .none⟩, ⟨25, 22, .ro, 0, 0, .none⟩, ⟨28, 26, .ro, 0, 0, .none⟩, ⟨29, 29, .ro, 0, 0, .none⟩]⟩,
  -- PAR_RANKS (R432): FIRST, STRIDE
  ⟨0x50108, 0x40, 4, 0x4, 1, none,
    [⟨14, 0, .ro, 0, 0, .none⟩, ⟨30, 16, .ro, 1, 0, .none⟩]⟩,
  -- SNAP_NEWEST (R432): STEP
  ⟨0x5010C, 0x40, 4, 0x4, 1, none,
    [⟨31, 0, .ro, 0xFFFFFFFF, 0, .none⟩]⟩,
  -- SNAP_OLDER (R432): STEP
  ⟨0x50110, 0x40, 4, 0x4, 1, none,
    [⟨31, 0, .ro, 0xFFFFFFFF, 0, .none⟩]⟩,
  -- PAR_COMMIT (R432): STEP
  ⟨0x50114, 0x40, 4, 0x4, 1, none,
    [⟨31, 0, .ro, 0, 0, .none⟩]⟩,
  -- BI_BASE (R432): ADDR
  ⟨0x50118, 0x40, 4, 0x4, 1, none,
    [⟨28, 0, .ro, 0, 0, .none⟩]⟩,
  -- BI_SIZE (R432): CHUNKS
  ⟨0x5011C, 0x40, 4, 0x4, 1, none,
    [⟨31, 0, .ro, 0, 0, .none⟩]⟩,
  -- BI_USED (R432): CHUNKS
  ⟨0x50120, 0x40, 4, 0x4, 1, none,
    [⟨31, 0, .ro, 0, 0, .none⟩]⟩,
  -- PAR_BASE (R432): ADDR
  ⟨0x50124, 0x40, 4, 0x4, 1, none,
    [⟨28, 0, .ro, 0, 0, .none⟩]⟩,
  -- PAR_CHUNKS (R432): CHUNKS
  ⟨0x50128, 0x40, 4, 0x4, 1, none,
    [⟨31, 0, .ro, 0, 0, .none⟩]⟩,
  -- SNAP_DONE (R432): GIB
  ⟨0x5012C, 0x40, 4, 0x4, 1, none,
    [⟨31, 0, .ro, 0, 0, .none⟩]⟩,
  -- DATA_CURSOR_LO (R432): CURSOR
  ⟨0x50130, 0x40, 4, 0x4, 1, none,
    [⟨31, 0, .ro, 0, 0, .none⟩]⟩,
  -- DATA_CURSOR_HI (R432): CURSOR
  ⟨0x50134, 0x40, 4, 0x4, 1, none,
    [⟨31, 0, .ro, 0, 0, .none⟩]⟩,
  -- TC_STATUS (R464): STATE, OWNED, TEST_LOCKED, CLAIM_BLOCKED
  ⟨0x30000, 0x8000000, 1, 0x4, 1, none,
    [⟨2, 0, .ro, 0, 0, .none⟩, ⟨3, 3, .ro, 0, 0, .none⟩, ⟨4, 4, .ro, 1, 0, .none⟩, ⟨5, 5, .ro, 0, 0, .none⟩]⟩,
  -- TC_LOCK (R464): LOCKS
  ⟨0x30004, 0x8000000, 1, 0x4, 1, none,
    [⟨5, 0, .ro, 0, 0, .none⟩]⟩,
  -- TC_FLAGS (R464): AUTH_FAIL, TAG_FAIL, ROLLBACK, LINK_FAIL
  ⟨0x30008, 0x8000000, 1, 0x4, 1, none,
    [⟨0, 0, .w1c, 0, 0, .none⟩, ⟨1, 1, .w1c, 0, 0, .none⟩, ⟨2, 2, .w1c, 0, 0, .none⟩, ⟨3, 3, .w1c, 0, 0, .none⟩]⟩,
  -- TC_SESSIONS (R464): OPEN
  ⟨0x3000C, 0x8000000, 1, 0x4, 1, none,
    [⟨3, 0, .ro, 0, 0, .none⟩]⟩,
  -- TC_AUTH_FAILS (R464): COUNT
  ⟨0x30010, 0x8000000, 1, 0x4, 1, none,
    [⟨31, 0, .ro, 0, 0, .none⟩]⟩,
  -- TC_TAG_FAILS (R464): COUNT
  ⟨0x30014, 0x8000000, 1, 0x4, 1, none,
    [⟨31, 0, .ro, 0, 0, .none⟩]⟩,
  -- TC_SVN_A (R464): TRUST, REEVE
  ⟨0x30018, 0x8000000, 1, 0x4, 1, none,
    [⟨15, 0, .ro, 0, 0, .none⟩, ⟨31, 16, .ro, 0, 0, .none⟩]⟩,
  -- TC_SVN_B (R464): PORT, SILO
  ⟨0x3001C, 0x8000000, 1, 0x4, 1, none,
    [⟨15, 0, .ro, 0, 0, .none⟩, ⟨31, 16, .ro, 0, 0, .none⟩]⟩,
  -- TC_OWNER_CTR_LO (R464): COUNT
  ⟨0x30020, 0x8000000, 1, 0x4, 1, none,
    [⟨31, 0, .ro, 0, 0, .none⟩]⟩]

/-- The registers of BAR0 outside the tile blocks, by BAR0 offset (R250, R275, R276, R303-R305, R342, R343, R366, R397, R432, R464, R488, R514, R515, R546), part 8. -/
def devRegs8 : List RegDesc := [
  -- TC_OWNER_CTR_HI (R464): COUNT
  ⟨0x30024, 0x8000000, 1, 0x4, 1, none,
    [⟨31, 0, .ro, 0, 0, .none⟩]⟩,
  -- TC_LOG_HEAD (R464): ENTRY
  ⟨0x30028, 0x8000000, 1, 0x4, 1, none,
    [⟨7, 0, .ro, 0, 0, .none⟩]⟩,
  -- TC_DEVID_w (R464): ID
  ⟨0x30040, 0x8000000, 1, 0x4, 4, none,
    [⟨31, 0, .ro, 0, 0, .none⟩]⟩,
  -- TC_MEAS_k_w (R464): WORD
  ⟨0x30100, 0x8000000, 1, 0x4, 96, none,
    [⟨31, 0, .ro, 0, 0, .none⟩]⟩,
  -- TC_SEALED_u (R464): STEP
  ⟨0x30300, 0x8000000, 1, 0x4, 4, none,
    [⟨31, 0, .ro, 0xFFFFFFFF, 0, .none⟩]⟩,
  -- TC_PART_n (R464): BASE, SIZE
  ⟨0x30400, 0x8000000, 1, 0x10, 16, none,
    [⟨10, 0, .ro, 0, 0, .none⟩, ⟨21, 11, .ro, 0, 0, .none⟩]⟩,
  -- TC_PART_HI (R464): TENANT
  ⟨0x30404, 0x8000000, 1, 0x10, 16, none,
    [⟨15, 0, .ro, 0, 0, .none⟩]⟩,
  -- TC_LOG_n_w (R464): WORD
  ⟨0x31000, 0x8000000, 1, 0x4, 2048, none,
    [⟨31, 0, .ro, 0, 0, .none⟩]⟩,
  -- WH_ID_w (R488): ID
  ⟨0x70000, 0x8000000, 1, 0x4, 4, none,
    [⟨31, 0, .ro, 0, 0, .none⟩]⟩,
  -- WH_FW (R488): VERSION
  ⟨0x70010, 0x8000000, 1, 0x4, 1, none,
    [⟨15, 0, .ro, 0, 0, .none⟩]⟩,
  -- WH_FW_DIGEST_w (R488): DIGEST
  ⟨0x70014, 0x8000000, 1, 0x4, 2, none,
    [⟨31, 0, .ro, 0, 0, .none⟩]⟩,
  -- WH_SEAL (R488): COUNT, LEFT
  ⟨0x7001C, 0x8000000, 1, 0x4, 1, none,
    [⟨7, 0, .ro, 0, 0, .none⟩, ⟨15, 8, .ro, 0, 0, .none⟩]⟩,
  -- WH_STATUS (R488): FLAGS, MIRROR_VALID, LINK_DOWN
  ⟨0x70020, 0x8000000, 1, 0x4, 1, none,
    [⟨5, 0, .ro, 0, 0, .none⟩, ⟨6, 6, .ro, 0, 0, .none⟩, ⟨11, 8, .ro, 0, 0, .none⟩]⟩,
  -- WH_TIME_LO (R488): NS
  ⟨0x70024, 0x8000000, 1, 0x4, 1, none,
    [⟨31, 0, .ro, 0, 0, .none⟩]⟩,
  -- WH_TIME_HI (R488): NS
  ⟨0x70028, 0x8000000, 1, 0x4, 1, none,
    [⟨31, 0, .ro, 0, 0, .none⟩]⟩,
  -- WH_ENERGY_LO (R488): MJ
  ⟨0x7002C, 0x8000000, 1, 0x4, 1, none,
    [⟨31, 0, .ro, 0, 0, .none⟩]⟩,
  -- WH_ENERGY_HI (R488): MJ
  ⟨0x70030, 0x8000000, 1, 0x4, 1, none,
    [⟨31, 0, .ro, 0, 0, .none⟩]⟩,
  -- WH_STANDBY_LO (R488): MJ
  ⟨0x70034, 0x8000000, 1, 0x4, 1, none,
    [⟨31, 0, .ro, 0, 0, .none⟩]⟩,
  -- WH_STANDBY_HI (R488): MJ
  ⟨0x70038, 0x8000000, 1, 0x4, 1, none,
    [⟨31, 0, .ro, 0, 0, .none⟩]⟩,
  -- WH_POWER (R488): DECIW
  ⟨0x7003C, 0x8000000, 1, 0x4, 1, none,
    [⟨31, 0, .ro, 0, 0, .none⟩]⟩,
  -- WH_VOLTAGE (R488): CV
  ⟨0x70040, 0x8000000, 1, 0x4, 1, none,
    [⟨15, 0, .ro, 0, 0, .none⟩]⟩,
  -- WH_SEQ_LO (R488): SEQ
  ⟨0x70044, 0x8000000, 1, 0x4, 1, none,
    [⟨31, 0, .ro, 0, 0, .none⟩]⟩,
  -- WH_SEQ_HI (R488): SEQ
  ⟨0x70048, 0x8000000, 1, 0x4, 1, none,
    [⟨31, 0, .ro, 0, 0, .none⟩]⟩,
  -- WH_HEADS (R488): INTERVAL, ACCOUNT
  ⟨0x7004C, 0x8000000, 1, 0x4, 1, none,
    [⟨15, 0, .ro, 0, 0, .none⟩, ⟨29, 16, .ro, 0, 0, .none⟩]⟩]

/-- The registers of BAR0 outside the tile blocks, by BAR0 offset (R250, R275, R276, R303-R305, R342, R343, R366, R397, R432, R464, R488, R514, R515, R546), part 9. -/
def devRegs9 : List RegDesc := [
  -- WH_ACCOUNTS (R488): OPEN
  ⟨0x70050, 0x8000000, 1, 0x4, 1, none,
    [⟨5, 0, .ro, 0, 0, .none⟩]⟩,
  -- WH_LINK_GAP (R488): COUNT
  ⟨0x70054, 0x8000000, 1, 0x4, 1, none,
    [⟨31, 0, .ro, 0, 0, .none⟩]⟩,
  -- WH_MSG_CORR (R488): COUNT
  ⟨0x70058, 0x8000000, 1, 0x4, 1, none,
    [⟨31, 0, .ro, 0, 0, .none⟩]⟩,
  -- WH_MSG_BAD (R488): COUNT
  ⟨0x7005C, 0x8000000, 1, 0x4, 1, none,
    [⟨31, 0, .ro, 0, 0, .none⟩]⟩,
  -- WH_RATED (R488): WATTS, IDLE
  ⟨0x70060, 0x8000000, 1, 0x4, 1, none,
    [⟨15, 0, .ro, 0, 0, .none⟩, ⟨31, 16, .ro, 0, 0, .none⟩]⟩,
  -- WH_WORK_c_w (R488): COUNT
  ⟨0x70080, 0x8000000, 1, 0x4, 40, none,
    [⟨31, 0, .ro, 0, 0, .none⟩]⟩,
  -- GLB_ID (R514): GRADE, REF_REV, STEPPING
  ⟨0x0, 0x8000000, 1, 0x4, 1, none,
    [⟨3, 0, .ro, 0, 0, .none⟩, ⟨15, 8, .ro, 0, 0, .none⟩, ⟨23, 16, .ro, 0, 0, .none⟩]⟩,
  -- GLB_PCI_ID (R514): VENDOR, DEVICE
  ⟨0x4, 0x8000000, 1, 0x4, 1, none,
    [⟨15, 0, .ro, 0x1F5A, 0, .none⟩, ⟨31, 16, .ro, 0, 0, .none⟩]⟩,
  -- GLB_FW_REEVE (R514): VERSION, SVN
  ⟨0x8, 0x8000000, 1, 0x4, 1, none,
    [⟨15, 0, .ro, 0, 0, .none⟩, ⟨31, 16, .ro, 0, 0, .none⟩]⟩,
  -- GLB_START (R514): READY, STEP, RECOVERY
  ⟨0xC, 0x8000000, 1, 0x4, 1, none,
    [⟨0, 0, .ro, 0, 0, .none⟩, ⟨4, 1, .ro, 0, 0, .none⟩, ⟨5, 5, .ro, 0, 0, .none⟩]⟩,
  -- GLB_LINK (R514): SPEED, WIDTH
  ⟨0x10, 0x8000000, 1, 0x4, 1, none,
    [⟨3, 0, .ro, 0, 0, .none⟩, ⟨9, 4, .ro, 0, 0, .none⟩]⟩,
  -- GLB_STATUS (R514): PARTIAL, DOMAIN_OFF, WRITE_REFUSED
  ⟨0x14, 0x8000000, 1, 0x4, 1, none,
    [⟨0, 0, .w1c, 0, 0, .none⟩, ⟨1, 1, .w1c, 0, 0, .none⟩, ⟨2, 2, .w1c, 0, 0, .none⟩]⟩,
  -- GLB_WREFUSED (R514): OFFSET
  ⟨0x18, 0x8000000, 1, 0x4, 1, none,
    [⟨25, 0, .ro, 0, 0, .none⟩]⟩,
  -- GLB_WREFUSED_ST (R514): STATUS
  ⟨0x1C, 0x8000000, 1, 0x4, 1, none,
    [⟨7, 0, .ro, 0, 0, .none⟩]⟩,
  -- GLB_JOBS (R514): SLOTS
  ⟨0x20, 0x8000000, 1, 0x4, 1, none,
    [⟨3, 0, .ro, 0, 0, .none⟩]⟩,
  -- GLB_JOB_u (R514): JOB
  ⟨0x24, 0x8000000, 1, 0x4, 4, none,
    [⟨31, 0, .ro, 0, 0, .none⟩]⟩,
  -- GLB_WE_STICKY_w (R514): BLOCK
  ⟨0x100, 0x8000000, 1, 0x4, 17, none,
    [⟨31, 0, .w1c, 0, 0, .none⟩]⟩,
  -- Q_CTRL (R515): ENABLE, SQ_LOG2, RQ_LOG2, VECTOR
  ⟨0x10000, 0x80, 16, 0x4, 1, some (0x10000, 0x80),
    [⟨0, 0, .rw, 0, 0, .none⟩, ⟨8, 4, .rwe, 4, 0, .log2⟩, ⟨13, 9, .rwe, 4, 0, .log2⟩, ⟨18, 14, .rwe, 0, 1, .none⟩]⟩,
  -- Q_STATUS (R515): TAIL_BAD, FETCH_FAIL, RQ_WAIT
  ⟨0x10004, 0x80, 16, 0x4, 1, none,
    [⟨0, 0, .w1c, 0, 0, .none⟩, ⟨1, 1, .w1c, 0, 0, .none⟩, ⟨2, 2, .ro, 0, 0, .none⟩]⟩,
  -- SQ_BASE_LO (R515): ADDR
  ⟨0x10008, 0x80, 16, 0x4, 1, some (0x10000, 0x80),
    [⟨31, 12, .rwe, 0, 0, .none⟩]⟩,
  -- SQ_BASE_HI (R515): ADDR
  ⟨0x1000C, 0x80, 16, 0x4, 1, some (0x10000, 0x80),
    [⟨31, 0, .rwe, 0, 0, .none⟩]⟩,
  -- RQ_BASE_LO (R515): ADDR
  ⟨0x10010, 0x80, 16, 0x4, 1, some (0x10000, 0x80),
    [⟨31, 12, .rwe, 0, 0, .none⟩]⟩,
  -- RQ_BASE_HI (R515): ADDR
  ⟨0x10014, 0x80, 16, 0x4, 1, some (0x10000, 0x80),
    [⟨31, 0, .rwe, 0, 0, .none⟩]⟩,
  -- SQ_TAIL (R515): TAIL
  ⟨0x10018, 0x80, 16, 0x4, 1, none,
    [⟨15, 0, .rw, 0, 0, .none⟩]⟩]

/-- The registers of BAR0 outside the tile blocks, by BAR0 offset (R250, R275, R276, R303-R305, R342, R343, R366, R397, R432, R464, R488, R514, R515, R546), part 10. -/
def devRegs10 : List RegDesc := [
  -- SQ_HEAD (R515): HEAD
  ⟨0x1001C, 0x80, 16, 0x4, 1, none,
    [⟨15, 0, .ro, 0, 0, .none⟩]⟩,
  -- RQ_HEAD (R515): HEAD
  ⟨0x10020, 0x80, 16, 0x4, 1, none,
    [⟨15, 0, .rw, 0, 0, .none⟩]⟩,
  -- RQ_TAIL (R515): TAIL, PHASE
  ⟨0x10024, 0x80, 16, 0x4, 1, none,
    [⟨15, 0, .ro, 0, 0, .none⟩, ⟨16, 16, .ro, 1, 0, .none⟩]⟩,
  -- Q_OUTSTANDING (R515): COUNT
  ⟨0x10028, 0x80, 16, 0x4, 1, none,
    [⟨8, 0, .ro, 0, 0, .none⟩]⟩,
  -- Q_TAKEN (R515): COUNT
  ⟨0x1002C, 0x80, 16, 0x4, 1, none,
    [⟨31, 0, .ro, 0, 0, .none⟩]⟩,
  -- URG_SLOT_k_w (R515): WORD
  ⟨0x11000, 0x8000000, 1, 0x4, 64, none,
    [⟨31, 0, .rw, 0, 0, .none⟩]⟩,
  -- URG_DOORBELL (R515): SUBMIT
  ⟨0x11100, 0x8000000, 1, 0x4, 1, none,
    [⟨3, 0, .wo, 0, 0, .none⟩]⟩,
  -- URG_STATUS (R515): BUSY, SLOT_BUSY, RING_FULL
  ⟨0x11104, 0x8000000, 1, 0x4, 1, none,
    [⟨3, 0, .ro, 0, 0, .none⟩, ⟨4, 4, .w1c, 0, 0, .none⟩, ⟨5, 5, .w1c, 0, 0, .none⟩]⟩,
  -- URG_RQ_BASE_LO (R515): ADDR
  ⟨0x11108, 0x8000000, 1, 0x4, 1, some (0x11110, 0x0),
    [⟨31, 12, .rwe, 0, 0, .none⟩]⟩,
  -- URG_RQ_BASE_HI (R515): ADDR
  ⟨0x1110C, 0x8000000, 1, 0x4, 1, some (0x11110, 0x0),
    [⟨31, 0, .rwe, 0, 0, .none⟩]⟩,
  -- URG_RQ_CTRL (R515): ENABLE, LOG2
  ⟨0x11110, 0x8000000, 1, 0x4, 1, some (0x11110, 0x0),
    [⟨0, 0, .rw, 0, 0, .none⟩, ⟨5, 1, .rwe, 4, 0, .log2⟩]⟩,
  -- URG_RQ_HEAD (R515): HEAD
  ⟨0x11114, 0x8000000, 1, 0x4, 1, none,
    [⟨15, 0, .rw, 0, 0, .none⟩]⟩,
  -- URG_RQ_TAIL (R515): TAIL, PHASE
  ⟨0x11118, 0x8000000, 1, 0x4, 1, none,
    [⟨15, 0, .ro, 0, 0, .none⟩, ⟨16, 16, .ro, 1, 0, .none⟩]⟩,
  -- URG_REPLY_k_w (R515): WORD
  ⟨0x11140, 0x8000000, 1, 0x4, 32, none,
    [⟨31, 0, .ro, 0, 0, .none⟩]⟩,
  -- EQ_CTRL (R515): ENABLE, LOG2
  ⟨0x11800, 0x8000000, 1, 0x4, 1, some (0x11800, 0x0),
    [⟨0, 0, .rw, 0, 0, .none⟩, ⟨5, 1, .rwe, 6, 0, .log2⟩]⟩,
  -- EQ_BASE_LO (R515): ADDR
  ⟨0x11804, 0x8000000, 1, 0x4, 1, some (0x11800, 0x0),
    [⟨31, 12, .rwe, 0, 0, .none⟩]⟩,
  -- EQ_BASE_HI (R515): ADDR
  ⟨0x11808, 0x8000000, 1, 0x4, 1, some (0x11800, 0x0),
    [⟨31, 0, .rwe, 0, 0, .none⟩]⟩,
  -- EQ_HEAD (R515): HEAD
  ⟨0x1180C, 0x8000000, 1, 0x4, 1, none,
    [⟨15, 0, .rw, 0, 0, .none⟩]⟩,
  -- EQ_TAIL (R515): TAIL
  ⟨0x11810, 0x8000000, 1, 0x4, 1, none,
    [⟨15, 0, .ro, 0, 0, .none⟩]⟩,
  -- EQ_LOST (R515): COUNT
  ⟨0x11814, 0x8000000, 1, 0x4, 1, none,
    [⟨31, 0, .ro, 0, 0, .none⟩]⟩,
  -- EQ_MASK (R515): TYPES
  ⟨0x11818, 0x8000000, 1, 0x4, 1, some (0x11800, 0x0),
    [⟨31, 0, .rwe, 0x400554, 0, .orWith 0x400554⟩]⟩,
  -- TS_CTRL (R515): ENABLE, IRQ, LOG2, COUNT
  ⟨0x12000, 0x200, 6, 0x4, 1, some (0x12000, 0x200),
    [⟨0, 0, .rw, 0, 0, .none⟩, ⟨1, 1, .rwe, 0, 0, .none⟩, ⟨6, 2, .rwe, 4, 0, .log2⟩, ⟨13, 7, .rwe, 1, 0, .clamp 1 64⟩]⟩,
  -- TS_PERIOD (R515): US
  ⟨0x12004, 0x200, 6, 0x4, 1, some (0x12000, 0x200),
    [⟨23, 0, .rwe, 0x3E8, 0, .atLeast 100⟩]⟩,
  -- TS_BASE_LO (R515): ADDR
  ⟨0x12008, 0x200, 6, 0x4, 1, some (0x12000, 0x200),
    [⟨31, 12, .rwe, 0, 0, .none⟩]⟩]

/-- The registers of BAR0 outside the tile blocks, by BAR0 offset (R250, R275, R276, R303-R305, R342, R343, R366, R397, R432, R464, R488, R514, R515, R546), part 11. -/
def devRegs11 : List RegDesc := [
  -- TS_BASE_HI (R515): ADDR
  ⟨0x1200C, 0x200, 6, 0x4, 1, some (0x12000, 0x200),
    [⟨31, 0, .rwe, 0, 0, .none⟩]⟩,
  -- TS_HEAD (R515): HEAD
  ⟨0x12010, 0x200, 6, 0x4, 1, none,
    [⟨15, 0, .rw, 0, 0, .none⟩]⟩,
  -- TS_TAIL (R515): TAIL
  ⟨0x12014, 0x200, 6, 0x4, 1, none,
    [⟨15, 0, .ro, 0, 0, .none⟩]⟩,
  -- TS_LOST (R515): COUNT
  ⟨0x12018, 0x200, 6, 0x4, 1, none,
    [⟨31, 0, .ro, 0, 0, .none⟩]⟩,
  -- TS_SEQ (R515): SEQ
  ⟨0x1201C, 0x200, 6, 0x4, 1, none,
    [⟨31, 0, .ro, 0, 0, .none⟩]⟩,
  -- TS_REG_i (R515): OFFSET
  ⟨0x12100, 0x200, 6, 0x4, 64, some (0x12000, 0x200),
    [⟨25, 2, .rwe, 0, 0, .none⟩]⟩,
  -- HK_PSTATE (R546): STATE
  ⟨0x20000, 0x8000000, 1, 0x4, 1, none,
    [⟨3, 0, .ro, 0, 0, .none⟩]⟩,
  -- HK_WAKE (R546): NOW, MASK
  ⟨0x20004, 0x8000000, 1, 0x4, 1, none,
    [⟨0, 0, .wo, 0, 0, .none⟩, ⟨13, 8, .ro, 0, 0, .none⟩]⟩,
  -- HK_LAST_WAKE (R546): SOURCE, PENDING
  ⟨0x20008, 0x8000000, 1, 0x4, 1, none,
    [⟨2, 0, .ro, 0, 0, .none⟩, ⟨13, 8, .ro, 0, 0, .none⟩]⟩,
  -- HK_WAKE_TIME_LO (R546): NS
  ⟨0x2000C, 0x8000000, 1, 0x4, 1, none,
    [⟨31, 0, .ro, 0, 0, .none⟩]⟩,
  -- HK_WAKE_TIME_HI (R546): NS
  ⟨0x20010, 0x8000000, 1, 0x4, 1, none,
    [⟨31, 0, .ro, 0, 0, .none⟩]⟩,
  -- HK_TIMER (R546): SECONDS
  ⟨0x20014, 0x8000000, 1, 0x4, 1, none,
    [⟨31, 0, .rw, 0, 0, .none⟩]⟩,
  -- HK_IDLE (R546): DELAY_US
  ⟨0x20018, 0x8000000, 1, 0x4, 1, none,
    [⟨15, 0, .rw, 0x64, 0, .none⟩]⟩,
  -- HK_RESET_CAUSE (R546): CAUSE
  ⟨0x2001C, 0x8000000, 1, 0x4, 1, none,
    [⟨3, 0, .ro, 1, 0, .none⟩]⟩,
  -- HK_STATUS (R546): THERM_WARN, THROTTLED, TRIPPED, POWER_FAULT, REFCLK_LOST
  ⟨0x20020, 0x8000000, 1, 0x4, 1, none,
    [⟨0, 0, .w1c, 0, 0, .none⟩, ⟨1, 1, .w1c, 0, 0, .none⟩, ⟨2, 2, .w1c, 0, 0, .none⟩, ⟨3, 3, .w1c, 0, 0, .none⟩, ⟨4, 4, .w1c, 0, 0, .none⟩]⟩,
  -- HK_CLK (R546): REFCLK_OK, ROOT_LOCK, PORT_LOCK, PCIE_LOCK, STBY_OSC_OK
  ⟨0x20024, 0x8000000, 1, 0x4, 1, none,
    [⟨0, 0, .ro, 0, 0, .none⟩, ⟨1, 1, .ro, 0, 0, .none⟩, ⟨3, 2, .ro, 0, 0, .none⟩, ⟨4, 4, .ro, 0, 0, .none⟩, ⟨5, 5, .ro, 0, 0, .none⟩]⟩,
  -- HK_REFCLK_LOSS (R546): COUNT
  ⟨0x20028, 0x8000000, 1, 0x4, 1, none,
    [⟨31, 0, .ro, 0, 0, .none⟩]⟩,
  -- HK_THROTTLE (R546): LEVEL, BY_TEMP, BY_POWER
  ⟨0x2002C, 0x8000000, 1, 0x4, 1, none,
    [⟨3, 0, .ro, 0, 0, .none⟩, ⟨4, 4, .ro, 0, 0, .none⟩, ⟨5, 5, .ro, 0, 0, .none⟩]⟩,
  -- HK_THROTTLE_NS_LO (R546): NS
  ⟨0x20030, 0x8000000, 1, 0x4, 1, none,
    [⟨31, 0, .ro, 0, 0, .none⟩]⟩,
  -- HK_THROTTLE_NS_HI (R546): NS
  ⟨0x20034, 0x8000000, 1, 0x4, 1, none,
    [⟨31, 0, .ro, 0, 0, .none⟩]⟩,
  -- HK_PWR_CAP (R546): WATTS
  ⟨0x20038, 0x8000000, 1, 0x4, 1, none,
    [⟨12, 0, .rwl, 0x1130, 0, .clamp 1000 4400⟩]⟩,
  -- HK_PIN (R546): WATTS, DECIV
  ⟨0x2003C, 0x8000000, 1, 0x4, 1, none,
    [⟨15, 0, .ro, 0, 0, .none⟩, ⟨31, 16, .ro, 0, 0, .none⟩]⟩,
  -- HK_TH_CTRL (R546): AUTO_RESUME
  ⟨0x20040, 0x8000000, 1, 0x4, 1, none,
    [⟨0, 0, .rwl, 0, 0, .none⟩]⟩,
  -- HK_TH_LIMIT_0 (R546): WARN, THROTTLE, TRIP, RESUME
  ⟨0x20050, 0x8000000, 1, 0x4, 1, none,
    [⟨7, 0, .rwl, 0x5F, 0, .atMost 95⟩, ⟨15, 8, .rwl, 0x64, 0, .atMost 100⟩, ⟨23, 16, .rwl, 0x6E, 0, .atMost 110⟩, ⟨31, 24, .rwl, 0x55, 0, .atMost 85⟩]⟩]

/-- The registers of BAR0 outside the tile blocks, by BAR0 offset (R250, R275, R276, R303-R305, R342, R343, R366, R397, R432, R464, R488, R514, R515, R546), part 12. -/
def devRegs12 : List RegDesc := [
  -- HK_TH_LIMIT_1 (R546): WARN, THROTTLE, TRIP, RESUME
  ⟨0x20054, 0x8000000, 1, 0x4, 1, none,
    [⟨7, 0, .rwl, 0x5A, 0, .atMost 90⟩, ⟨15, 8, .rwl, 0x5F, 0, .atMost 95⟩, ⟨23, 16, .rwl, 0x69, 0, .atMost 105⟩, ⟨31, 24, .rwl, 0x50, 0, .atMost 80⟩]⟩,
  -- HK_TH_LIMIT_2 (R546): WARN, THROTTLE, TRIP, RESUME
  ⟨0x20058, 0x8000000, 1, 0x4, 1, none,
    [⟨7, 0, .rwl, 0x2A, 0, .atMost 42⟩, ⟨15, 8, .rwl, 0xFF, 0, .atMost 255⟩, ⟨23, 16, .rwl, 0x32, 0, .atMost 50⟩, ⟨31, 24, .rwl, 0x26, 0, .atMost 38⟩]⟩,
  -- HK_TH_LIMIT_3 (R546): WARN, THROTTLE, TRIP, RESUME
  ⟨0x2005C, 0x8000000, 1, 0x4, 1, none,
    [⟨7, 0, .rwl, 0x4B, 0, .atMost 75⟩, ⟨15, 8, .rwl, 0x50, 0, .atMost 80⟩, ⟨23, 16, .rwl, 0x5A, 0, .atMost 90⟩, ⟨31, 24, .rwl, 0x41, 0, .atMost 65⟩]⟩,
  -- HK_TEMP_d (R546): TEMP
  ⟨0x20080, 0x8000000, 1, 0x4, 7, none,
    [⟨15, 0, .ro, 0, 0, .none⟩]⟩,
  -- HK_PHOT_TEMP_e (R546): TEMP
  ⟨0x200A0, 0x8000000, 1, 0x4, 8, none,
    [⟨15, 0, .ro, 0, 0, .none⟩]⟩,
  -- HK_COOLANT (R546): INLET, OUTLET
  ⟨0x200C0, 0x8000000, 1, 0x4, 1, none,
    [⟨15, 0, .ro, 0, 0, .none⟩, ⟨31, 16, .ro, 0, 0, .none⟩]⟩,
  -- HK_VOLT_d (R546): CORE, IO
  ⟨0x200E0, 0x8000000, 1, 0x4, 7, none,
    [⟨15, 0, .ro, 0, 0, .none⟩, ⟨31, 16, .ro, 0, 0, .none⟩]⟩,
  -- HK_WAKE_OUT (R546): EN, ASSERT
  ⟨0x20100, 0x8000000, 1, 0x4, 1, none,
    [⟨0, 0, .rw, 0, 0, .none⟩, ⟨1, 1, .ro, 0, 0, .none⟩]⟩,
  -- HK_STBY_TIME_LO (R546): NS
  ⟨0x20104, 0x8000000, 1, 0x4, 1, none,
    [⟨31, 0, .ro, 0, 0, .none⟩]⟩,
  -- HK_STBY_TIME_HI (R546): NS
  ⟨0x20108, 0x8000000, 1, 0x4, 1, none,
    [⟨31, 0, .ro, 0, 0, .none⟩]⟩]

/-- The registers of BAR0 outside the tile blocks, by BAR0 offset (R250, R275, R276, R303-R305, R342, R343, R366, R397, R432, R464, R488, R514, R515, R546). -/
def devRegs : List RegDesc :=
  devRegs1 ++ devRegs2 ++ devRegs3 ++ devRegs4 ++ devRegs5 ++ devRegs6 ++ devRegs7 ++ devRegs8 ++ devRegs9 ++ devRegs10 ++ devRegs11 ++ devRegs12

end Sys2Proof.Machine
end

