-- ==== Sys2Proof/Machine/RegNames.lean ====
section
/-! DEFINITION. The names of the registers: a tile register's offset in its tile block (t...), a BAR0 register's offset
(d...), the base of the array or of the block where there are several (the tables of R56 to R546). -/

namespace Sys2Proof.Machine

/-- R56. -/
abbrev tNUM_CTRL : Nat := 0x200
/-- R58. -/
abbrev tNUM_STATUS : Nat := 0x204
/-- R112. -/
abbrev tACC_STATUS : Nat := 0x208
/-- R112. -/
abbrev tESC_BASE : Nat := 0x20C
/-- R112. -/
abbrev tESC_SLOTS : Nat := 0x210
/-- R112. -/
abbrev tESC_NEXT : Nat := 0x214
/-- R112. -/
abbrev tESC_COUNT : Nat := 0x218
/-- R112. -/
abbrev tESC_STALL_TC : Nat := 0x21C
/-- R112. -/
abbrev tRUN_EXTRA_TC : Nat := 0x220
/-- R135. -/
abbrev tTHR_KEYS : Nat := 0x240
/-- R135. -/
abbrev tTHR_STEP : Nat := 0x244
/-- R135. -/
abbrev tTHR_KCV : Nat := 0x248
/-- R135. -/
abbrev tSR_COUNT : Nat := 0x268
/-- R135. -/
abbrev tSAT_I8_COUNT : Nat := 0x26C
/-- R135. -/
abbrev tSCOUT_STATUS : Nat := 0x270
/-- R157. -/
abbrev tENG_STATUS : Nat := 0x280
/-- R157. -/
abbrev tFREEZE_TC : Nat := 0x284
/-- R157. -/
abbrev tFN_SLOW_TC : Nat := 0x288
/-- R157. -/
abbrev tARRAY_BUSY_TC : Nat := 0x28C
/-- R157. -/
abbrev tOUT_BUSY_TC : Nat := 0x290
/-- R157. -/
abbrev tVU_BUSY_TC : Nat := 0x294
/-- R157. -/
abbrev tWORK_LO : Nat := 0x2A0
/-- R157. -/
abbrev tWORK_HI : Nat := 0x2A4
/-- R157. -/
abbrev tWORK_SEQ : Nat := 0x2F0
/-- R182. -/
abbrev tLOFT_OWN : Nat := 0x300
/-- R182. -/
abbrev tLOFT_OWN_NOW : Nat := 0x304
/-- R182. -/
abbrev tLOFT_CTRL : Nat := 0x308
/-- R182. -/
abbrev tLOFT_STATUS : Nat := 0x30C
/-- R182. -/
abbrev tLOFT_CONFLICT : Nat := 0x310
/-- R182. -/
abbrev tLOFT_WAIT_TC : Nat := 0x330
/-- R182. -/
abbrev tMARCH_CTRL : Nat := 0x350
/-- R182. -/
abbrev tMARCH_STATUS : Nat := 0x354
/-- R182. -/
abbrev tLOFT_REPAIR : Nat := 0x400
/-- R225. -/
abbrev tSEQ_CTRL : Nat := 0x600
/-- R225. -/
abbrev tSEQ_STATUS : Nat := 0x604
/-- R225. -/
abbrev tSEQ_PC : Nat := 0x608
/-- R225. -/
abbrev tSEQ_STOP : Nat := 0x60C
/-- R225. -/
abbrev tSEQ_TC_LO : Nat := 0x610
/-- R225. -/
abbrev tSEQ_TC_HI : Nat := 0x614
/-- R225. -/
abbrev tISSUED : Nat := 0x618
/-- R225. -/
abbrev tPRED_SKIP : Nat := 0x61C
/-- R225. -/
abbrev tLOG_COUNT : Nat := 0x620
/-- R225. -/
abbrev tLOG_LOST : Nat := 0x624
/-- R225. -/
abbrev tJOB_IDS : Nat := 0x628
/-- R225. -/
abbrev tDMA_OUTSTANDING : Nat := 0x62C
/-- R225. -/
abbrev tLOOP : Nat := 0x630
/-- R225. -/
abbrev tSTALL_TC : Nat := 0x700
/-- R225. -/
abbrev tSTALL_N : Nat := 0x704
/-- R225. -/
abbrev tTBL_META : Nat := 0x680
/-- R225. -/
abbrev tTBL_META_NUM : Nat := 0x684
/-- R225. -/
abbrev tTBL_META_ENT : Nat := 0x688
/-- R225. -/
abbrev tLOG : Nat := 0x900
/-- R249. -/
abbrev tFLAGS_LO : Nat := 0x1100
/-- R249. -/
abbrev tFLAGS_HI : Nat := 0x1104
/-- R249. -/
abbrev tOVERSET_LO : Nat := 0x1108
/-- R249. -/
abbrev tOVERSET_HI : Nat := 0x110C
/-- R249. -/
abbrev tFLAG_STATUS : Nat := 0x1110
/-- R249. -/
abbrev tBAR_TILE : Nat := 0x1114
/-- R249. -/
abbrev tBAR_LEFT : Nat := 0x1118
/-- R249. -/
abbrev tSETS_DROPPED : Nat := 0x111C
/-- R249. -/
abbrev tFLAG_COUNT : Nat := 0x1200
/-- R495. -/
abbrev tTILE_CTRL : Nat := 0x0
/-- R250. -/
abbrev dBAR_CFG : Nat := 0x384000
/-- R250. -/
abbrev dBAR_JOB : Nat := 0x384004
/-- R250. -/
abbrev dBAR_HOME : Nat := 0x384008
/-- R250. -/
abbrev dBAR_STATE : Nat := 0x38400C
/-- R250. -/
abbrev dBAR_HOME_ARRIVED : Nat := 0x384010
/-- R250. -/
abbrev dBAR_MASK : Nat := 0x384020
/-- R250. -/
abbrev dRING_CFG : Nat := 0x385000
/-- R250. -/
abbrev dRING_PEERS : Nat := 0x385004
/-- R250. -/
abbrev dRING_GEOM : Nat := 0x385008
/-- R250. -/
abbrev dRING_JOB : Nat := 0x38500C
/-- R250. -/
abbrev dRING_STATE : Nat := 0x385010
/-- R250. -/
abbrev dRING_PUSHES : Nat := 0x385014
/-- R250. -/
abbrev dRING_POPS : Nat := 0x385018
/-- R250. -/
abbrev dRING_FULL_TC : Nat := 0x38501C
/-- R250. -/
abbrev dRING_LEFTOVER : Nat := 0x385020
/-- R275. -/
abbrev dGRN_CTRL : Nat := 0x100000
/-- R275. -/
abbrev dGRN_STATUS : Nat := 0x100004
/-- R275. -/
abbrev dGRN_RESERVE : Nat := 0x100008
/-- R275. -/
abbrev dGRN_RH : Nat := 0x10000C
/-- R275. -/
abbrev dGRN_CAL : Nat := 0x100010
/-- R275. -/
abbrev dGRN_CE_COUNT : Nat := 0x100014
/-- R275. -/
abbrev dGRN_UE_COUNT : Nat := 0x100018
/-- R275. -/
abbrev dGRN_ODECC_COUNT : Nat := 0x10001C
/-- R275. -/
abbrev dGRN_RH_ACTIONS : Nat := 0x100020
/-- R275. -/
abbrev dGRN_REFRESH_TC : Nat := 0x100024
/-- R275. -/
abbrev dGRN_CAL_PASSES : Nat := 0x100028
/-- R275. -/
abbrev dGRN_RETIRE : Nat := 0x10002C
/-- R275. -/
abbrev dGRN_REMAP_USED : Nat := 0x100030
/-- R275. -/
abbrev dGRN_TEMP : Nat := 0x100034
/-- R275. -/
abbrev dGRN_REMAP : Nat := 0x101000
/-- R275. -/
abbrev dGRN_REMAP_DST : Nat := 0x101004
/-- R276. -/
abbrev dWIN_JOB : Nat := 0x386000
/-- R276. -/
abbrev dWIN_CFG : Nat := 0x386004
/-- R276. -/
abbrev dWIN_BASE_LO : Nat := 0x386008
/-- R276. -/
abbrev dWIN_BASE_HI : Nat := 0x38600C
/-- R276. -/
abbrev dWIN_SIZE : Nat := 0x386010
/-- R303. -/
abbrev dENG_CTRL : Nat := 0x300000
/-- R303. -/
abbrev dENG_STATUS : Nat := 0x300004
/-- R303. -/
abbrev dENG_LANE_MAP_0 : Nat := 0x300008
/-- R303. -/
abbrev dENG_LANE_MAP_1 : Nat := 0x30000C
/-- R303. -/
abbrev dENG_LANE_MAP_2 : Nat := 0x300010
/-- R303. -/
abbrev dENG_BER_LIMIT : Nat := 0x300014
/-- R303. -/
abbrev dPORT_CFG : Nat := 0x300020
/-- R303. -/
abbrev dPORT_STATUS : Nat := 0x300030
/-- R303. -/
abbrev dFEC_CORR : Nat := 0x300040
/-- R303. -/
abbrev dFEC_UNCORR : Nat := 0x300044
/-- R303. -/
abbrev dLANE_SER : Nat := 0x300060
/-- R304. -/
abbrev dWAIN_CTRL : Nat := 0x380000
/-- R304. -/
abbrev dWAIN_UDP : Nat := 0x380004
/-- R304. -/
abbrev dWAIN_PCP : Nat := 0x380008
/-- R304. -/
abbrev dWAIN_ETS : Nat := 0x38000C
/-- R304. -/
abbrev dWAIN_TIMERS : Nat := 0x380010
/-- R304. -/
abbrev dWAIN_STATUS : Nat := 0x380014
/-- R304. -/
abbrev dWAIN_RETX : Nat := 0x380018
/-- R304. -/
abbrev dWAIN_SEAL_FAIL : Nat := 0x38001C
/-- R304. -/
abbrev dWAIN_CE_RX : Nat := 0x380020
/-- R304. -/
abbrev dLASER_CTRL : Nat := 0x380100
/-- R304. -/
abbrev dLASER_STATUS : Nat := 0x380104
/-- R304. -/
abbrev dPTP_STATUS : Nat := 0x380200
/-- R304. -/
abbrev dPTP_OFFSET : Nat := 0x380204
/-- R304. -/
abbrev dPTP_TIME_LO : Nat := 0x380208
/-- R304. -/
abbrev dPTP_TIME_HI : Nat := 0x38020C
/-- R304. -/
abbrev dPTP_PORT : Nat := 0x380210
/-- R305. -/
abbrev dJOB_RANKS : Nat := 0x380300
/-- R305. -/
abbrev dJOB_RANKS_HI : Nat := 0x380304
/-- R305. -/
abbrev dRANK_CFG : Nat := 0x400000
/-- R305. -/
abbrev dRANK_PORTS : Nat := 0x400004
/-- R305. -/
abbrev dRANK_IP : Nat := 0x400010
/-- R305. -/
abbrev dRANK_MAC_LO : Nat := 0x400020
/-- R305. -/
abbrev dRANK_MAC_HI : Nat := 0x400024
/-- R342. -/
abbrev dCOLL_CFG : Nat := 0x388000
/-- R342. -/
abbrev dCOLL_JOB : Nat := 0x388004
/-- R342. -/
abbrev dCOLL_RANKS : Nat := 0x388008
/-- R342. -/
abbrev dCOLL_STRIDE : Nat := 0x38800C
/-- R342. -/
abbrev dCOLL_DEADLINE : Nat := 0x388010
/-- R342. -/
abbrev dCOLL_OPEN : Nat := 0x388014
/-- R342. -/
abbrev dCOLL_SHORT : Nat := 0x388018
/-- R342. -/
abbrev dCOLL_SELF_OUT : Nat := 0x38801C
/-- R342. -/
abbrev dCOLL_LAST_WAIT : Nat := 0x388020
/-- R342. -/
abbrev dCOLL_MASK : Nat := 0x388040
/-- R343. -/
abbrev dBND_STATUS : Nat := 0x38A000
/-- R343. -/
abbrev dBND_STAGE_BASE : Nat := 0x38A004
/-- R343. -/
abbrev dBND_STAGE_SIZE : Nat := 0x38A008
/-- R343. -/
abbrev dBND_CARRY_BASE : Nat := 0x38A00C
/-- R343. -/
abbrev dBND_CARRY_SIZE : Nat := 0x38A010
/-- R343. -/
abbrev dBND_CARRY_USED : Nat := 0x38A014
/-- R343. -/
abbrev dLEDGER_BASE : Nat := 0x38A018
/-- R343. -/
abbrev dLEDGER_CAP : Nat := 0x38A01C
/-- R343. -/
abbrev dLEDGER_COUNT : Nat := 0x38A020
/-- R343. -/
abbrev dLAYOUT_EPOCH : Nat := 0x38A024
/-- R343. -/
abbrev dLAYOUT_CUR : Nat := 0x38A028
/-- R343. -/
abbrev dLAYOUT_PREV : Nat := 0x38A02C
/-- R343. -/
abbrev dBND_REMAPPED : Nat := 0x38A030
/-- R343. -/
abbrev dBND_LOG_COUNT : Nat := 0x38A034
/-- R343. -/
abbrev dBND_LOG_LOST : Nat := 0x38A038
/-- R343. -/
abbrev dBND_LOG : Nat := 0x38A100
/-- R366. -/
abbrev dUPD_STATUS : Nat := 0x38B000
/-- R366. -/
abbrev dUPD_NORM_COUNT : Nat := 0x38B004
/-- R366. -/
abbrev dUPD_NORM_LOST : Nat := 0x38B008
/-- R366. -/
abbrev dUPD_NORM_STEP : Nat := 0x38B00C
/-- R366. -/
abbrev dUPD_SKIPPED : Nat := 0x38B010
/-- R366. -/
abbrev dUPD_ROOT_KEPT : Nat := 0x38B014
/-- R366. -/
abbrev dUPD_GROUP : Nat := 0x38C000
/-- R366. -/
abbrev dUPD_NORM : Nat := 0x390000
/-- R397. -/
abbrev dINT_CTRL : Nat := 0x40000
/-- R397. -/
abbrev dINT_STATUS : Nat := 0x40004
/-- R397. -/
abbrev dGLN_PERIOD : Nat := 0x40008
/-- R397. -/
abbrev dGLN_LOFT : Nat := 0x4000C
/-- R397. -/
abbrev dGLN_LIMITS : Nat := 0x40010
/-- R397. -/
abbrev dGLN_PASSES : Nat := 0x40014
/-- R397. -/
abbrev dGLN_LATE : Nat := 0x40018
/-- R397. -/
abbrev dGLN_POS : Nat := 0x4001C
/-- R397. -/
abbrev dWNW_CTRL : Nat := 0x40020
/-- R397. -/
abbrev dWNW_AREA_BASE : Nat := 0x40024
/-- R397. -/
abbrev dWNW_STATUS : Nat := 0x40028
/-- R397. -/
abbrev dWNW_SAMPLED : Nat := 0x4002C
/-- R397. -/
abbrev dWNW_SKIPPED : Nat := 0x40030
/-- R397. -/
abbrev dWNW_MISMATCH : Nat := 0x40034
/-- R397. -/
abbrev dWNW_LOST_TILE : Nat := 0x40038
/-- R397. -/
abbrev dWNW_LOST_VERIFIER : Nat := 0x4003C
/-- R397. -/
abbrev dTMR_REPAIRS : Nat := 0x40040
/-- R397. -/
abbrev dERR_SEQ : Nat := 0x40044
/-- R397. -/
abbrev dDBK_PAGE : Nat := 0x40048
/-- R397. -/
abbrev dDBK_HEAD : Nat := 0x4004C
/-- R397. -/
abbrev dDBK_FF : Nat := 0x40050
/-- R397. -/
abbrev dRES_HOLDER : Nat := 0x40100
/-- R397. -/
abbrev dREPAIR_MAP : Nat := 0x40400
/-- R397. -/
abbrev dPHYS_STATE : Nat := 0x40800
/-- R397. -/
abbrev dERR_REC : Nat := 0x48000
/-- R432. -/
abbrev dSLO_CTRL : Nat := 0x50000
/-- R432. -/
abbrev dSLO_STATUS : Nat := 0x50004
/-- R432. -/
abbrev dSLO_WRITTEN : Nat := 0x50008
/-- R432. -/
abbrev dSLO_WEAR : Nat := 0x5000C
/-- R432. -/
abbrev dSLO_RETIRED : Nat := 0x50010
/-- R432. -/
abbrev dSLO_RELOCS : Nat := 0x50014
/-- R432. -/
abbrev dSLO_LIMITS : Nat := 0x50018
/-- R432. -/
abbrev dSLO_FREE : Nat := 0x5001C
/-- R432. -/
abbrev dCFG_STATUS : Nat := 0x50030
/-- R432. -/
abbrev dCFG_SEQ_LO : Nat := 0x50034
/-- R432. -/
abbrev dCFG_SEQ_HI : Nat := 0x50038
/-- R432. -/
abbrev dSNAP_JOB : Nat := 0x50100
/-- R432. -/
abbrev dSNAP_CFG : Nat := 0x50104
/-- R432. -/
abbrev dPAR_RANKS : Nat := 0x50108
/-- R432. -/
abbrev dSNAP_NEWEST : Nat := 0x5010C
/-- R432. -/
abbrev dSNAP_OLDER : Nat := 0x50110
/-- R432. -/
abbrev dPAR_COMMIT : Nat := 0x50114
/-- R432. -/
abbrev dBI_BASE : Nat := 0x50118
/-- R432. -/
abbrev dBI_SIZE : Nat := 0x5011C
/-- R432. -/
abbrev dBI_USED : Nat := 0x50120
/-- R432. -/
abbrev dPAR_BASE : Nat := 0x50124
/-- R432. -/
abbrev dPAR_CHUNKS : Nat := 0x50128
/-- R432. -/
abbrev dSNAP_DONE : Nat := 0x5012C
/-- R432. -/
abbrev dDATA_CURSOR_LO : Nat := 0x50130
/-- R432. -/
abbrev dDATA_CURSOR_HI : Nat := 0x50134
/-- R464. -/
abbrev dTC_STATUS : Nat := 0x30000
/-- R464. -/
abbrev dTC_LOCK : Nat := 0x30004
/-- R464. -/
abbrev dTC_FLAGS : Nat := 0x30008
/-- R464. -/
abbrev dTC_SESSIONS : Nat := 0x3000C
/-- R464. -/
abbrev dTC_AUTH_FAILS : Nat := 0x30010
/-- R464. -/
abbrev dTC_TAG_FAILS : Nat := 0x30014
/-- R464. -/
abbrev dTC_SVN_A : Nat := 0x30018
/-- R464. -/
abbrev dTC_SVN_B : Nat := 0x3001C
/-- R464. -/
abbrev dTC_OWNER_CTR_LO : Nat := 0x30020
/-- R464. -/
abbrev dTC_OWNER_CTR_HI : Nat := 0x30024
/-- R464. -/
abbrev dTC_LOG_HEAD : Nat := 0x30028
/-- R464. -/
abbrev dTC_DEVID : Nat := 0x30040
/-- R464. -/
abbrev dTC_MEAS : Nat := 0x30100
/-- R464. -/
abbrev dTC_SEALED : Nat := 0x30300
/-- R464. -/
abbrev dTC_PART : Nat := 0x30400
/-- R464. -/
abbrev dTC_PART_HI : Nat := 0x30404
/-- R464. -/
abbrev dTC_LOG : Nat := 0x31000
/-- R488. -/
abbrev dWH_ID : Nat := 0x70000
/-- R488. -/
abbrev dWH_FW : Nat := 0x70010
/-- R488. -/
abbrev dWH_FW_DIGEST : Nat := 0x70014
/-- R488. -/
abbrev dWH_SEAL : Nat := 0x7001C
/-- R488. -/
abbrev dWH_STATUS : Nat := 0x70020
/-- R488. -/
abbrev dWH_TIME_LO : Nat := 0x70024
/-- R488. -/
abbrev dWH_TIME_HI : Nat := 0x70028
/-- R488. -/
abbrev dWH_ENERGY_LO : Nat := 0x7002C
/-- R488. -/
abbrev dWH_ENERGY_HI : Nat := 0x70030
/-- R488. -/
abbrev dWH_STANDBY_LO : Nat := 0x70034
/-- R488. -/
abbrev dWH_STANDBY_HI : Nat := 0x70038
/-- R488. -/
abbrev dWH_POWER : Nat := 0x7003C
/-- R488. -/
abbrev dWH_VOLTAGE : Nat := 0x70040
/-- R488. -/
abbrev dWH_SEQ_LO : Nat := 0x70044
/-- R488. -/
abbrev dWH_SEQ_HI : Nat := 0x70048
/-- R488. -/
abbrev dWH_HEADS : Nat := 0x7004C
/-- R488. -/
abbrev dWH_ACCOUNTS : Nat := 0x70050
/-- R488. -/
abbrev dWH_LINK_GAP : Nat := 0x70054
/-- R488. -/
abbrev dWH_MSG_CORR : Nat := 0x70058
/-- R488. -/
abbrev dWH_MSG_BAD : Nat := 0x7005C
/-- R488. -/
abbrev dWH_RATED : Nat := 0x70060
/-- R488. -/
abbrev dWH_WORK : Nat := 0x70080
/-- R514. -/
abbrev dGLB_ID : Nat := 0x0
/-- R514. -/
abbrev dGLB_PCI_ID : Nat := 0x4
/-- R514. -/
abbrev dGLB_FW_REEVE : Nat := 0x8
/-- R514. -/
abbrev dGLB_START : Nat := 0xC
/-- R514. -/
abbrev dGLB_LINK : Nat := 0x10
/-- R514. -/
abbrev dGLB_STATUS : Nat := 0x14
/-- R514. -/
abbrev dGLB_WREFUSED : Nat := 0x18
/-- R514. -/
abbrev dGLB_WREFUSED_ST : Nat := 0x1C
/-- R514. -/
abbrev dGLB_JOBS : Nat := 0x20
/-- R514. -/
abbrev dGLB_JOB : Nat := 0x24
/-- R514. -/
abbrev dGLB_WE_STICKY : Nat := 0x100
/-- R515. -/
abbrev dQ_CTRL : Nat := 0x10000
/-- R515. -/
abbrev dQ_STATUS : Nat := 0x10004
/-- R515. -/
abbrev dSQ_BASE_LO : Nat := 0x10008
/-- R515. -/
abbrev dSQ_BASE_HI : Nat := 0x1000C
/-- R515. -/
abbrev dRQ_BASE_LO : Nat := 0x10010
/-- R515. -/
abbrev dRQ_BASE_HI : Nat := 0x10014
/-- R515. -/
abbrev dSQ_TAIL : Nat := 0x10018
/-- R515. -/
abbrev dSQ_HEAD : Nat := 0x1001C
/-- R515. -/
abbrev dRQ_HEAD : Nat := 0x10020
/-- R515. -/
abbrev dRQ_TAIL : Nat := 0x10024
/-- R515. -/
abbrev dQ_OUTSTANDING : Nat := 0x10028
/-- R515. -/
abbrev dQ_TAKEN : Nat := 0x1002C
/-- R515. -/
abbrev dURG_SLOT : Nat := 0x11000
/-- R515. -/
abbrev dURG_DOORBELL : Nat := 0x11100
/-- R515. -/
abbrev dURG_STATUS : Nat := 0x11104
/-- R515. -/
abbrev dURG_RQ_BASE_LO : Nat := 0x11108
/-- R515. -/
abbrev dURG_RQ_BASE_HI : Nat := 0x1110C
/-- R515. -/
abbrev dURG_RQ_CTRL : Nat := 0x11110
/-- R515. -/
abbrev dURG_RQ_HEAD : Nat := 0x11114
/-- R515. -/
abbrev dURG_RQ_TAIL : Nat := 0x11118
/-- R515. -/
abbrev dURG_REPLY : Nat := 0x11140
/-- R515. -/
abbrev dEQ_CTRL : Nat := 0x11800
/-- R515. -/
abbrev dEQ_BASE_LO : Nat := 0x11804
/-- R515. -/
abbrev dEQ_BASE_HI : Nat := 0x11808
/-- R515. -/
abbrev dEQ_HEAD : Nat := 0x1180C
/-- R515. -/
abbrev dEQ_TAIL : Nat := 0x11810
/-- R515. -/
abbrev dEQ_LOST : Nat := 0x11814
/-- R515. -/
abbrev dEQ_MASK : Nat := 0x11818
/-- R515. -/
abbrev dTS_CTRL : Nat := 0x12000
/-- R515. -/
abbrev dTS_PERIOD : Nat := 0x12004
/-- R515. -/
abbrev dTS_BASE_LO : Nat := 0x12008
/-- R515. -/
abbrev dTS_BASE_HI : Nat := 0x1200C
/-- R515. -/
abbrev dTS_HEAD : Nat := 0x12010
/-- R515. -/
abbrev dTS_TAIL : Nat := 0x12014
/-- R515. -/
abbrev dTS_LOST : Nat := 0x12018
/-- R515. -/
abbrev dTS_SEQ : Nat := 0x1201C
/-- R515. -/
abbrev dTS_REG : Nat := 0x12100
/-- R546. -/
abbrev dHK_PSTATE : Nat := 0x20000
/-- R546. -/
abbrev dHK_WAKE : Nat := 0x20004
/-- R546. -/
abbrev dHK_LAST_WAKE : Nat := 0x20008
/-- R546. -/
abbrev dHK_WAKE_TIME_LO : Nat := 0x2000C
/-- R546. -/
abbrev dHK_WAKE_TIME_HI : Nat := 0x20010
/-- R546. -/
abbrev dHK_TIMER : Nat := 0x20014
/-- R546. -/
abbrev dHK_IDLE : Nat := 0x20018
/-- R546. -/
abbrev dHK_RESET_CAUSE : Nat := 0x2001C
/-- R546. -/
abbrev dHK_STATUS : Nat := 0x20020
/-- R546. -/
abbrev dHK_CLK : Nat := 0x20024
/-- R546. -/
abbrev dHK_REFCLK_LOSS : Nat := 0x20028
/-- R546. -/
abbrev dHK_THROTTLE : Nat := 0x2002C
/-- R546. -/
abbrev dHK_THROTTLE_NS_LO : Nat := 0x20030
/-- R546. -/
abbrev dHK_THROTTLE_NS_HI : Nat := 0x20034
/-- R546. -/
abbrev dHK_PWR_CAP : Nat := 0x20038
/-- R546. -/
abbrev dHK_PIN : Nat := 0x2003C
/-- R546. -/
abbrev dHK_TH_CTRL : Nat := 0x20040
/-- R546. -/
abbrev dHK_TH_LIMIT_0 : Nat := 0x20050
/-- R546. -/
abbrev dHK_TH_LIMIT_1 : Nat := 0x20054
/-- R546. -/
abbrev dHK_TH_LIMIT_2 : Nat := 0x20058
/-- R546. -/
abbrev dHK_TH_LIMIT_3 : Nat := 0x2005C
/-- R546. -/
abbrev dHK_TEMP : Nat := 0x20080
/-- R546. -/
abbrev dHK_PHOT_TEMP : Nat := 0x200A0
/-- R546. -/
abbrev dHK_COOLANT : Nat := 0x200C0
/-- R546. -/
abbrev dHK_VOLT : Nat := 0x200E0
/-- R546. -/
abbrev dHK_WAKE_OUT : Nat := 0x20100
/-- R546. -/
abbrev dHK_STBY_TIME_LO : Nat := 0x20104
/-- R546. -/
abbrev dHK_STBY_TIME_HI : Nat := 0x20108

end Sys2Proof.Machine
end

