-- ==== Sys2Proof/Machine/Ops.lean ====
section
/-! DEFINITION. The named operations over the state that every meaning uses: registers (R11 to R17), time, logs and
error records (R389 to R394), the Sheaf code (R257 to R260), memory of the Granary and of the host. -/

namespace Sys2Proof.Machine

/-! ## Registers -/

/-- The index pair of an offset within a register row, if the row has it. -/
def RegDesc.index (r : RegDesc) (off : Nat) : Option (Nat × Nat) :=
  if off < r.base then none
  else
    let x := off - r.base
    let i := x / r.s1
    let y := x % r.s1
    let j := y / r.s2
    if i < r.n1 ∧ j < r.n2 ∧ y % r.s2 = 0 then some (i, j) else none

/-- The row of an offset and its index pair. -/
def findReg : List RegDesc → Nat → Option (RegDesc × Nat × Nat)
  | [], _ => none
  | r :: rs, off =>
    match r.index off with
    | some (i, j) => some (r, i, j)
    | none => findReg rs off

/-- The reset value of a row's register at an index pair. -/
def RegDesc.resetVal (r : RegDesc) (i j : Nat) : Nat :=
  r.fields.foldl (fun acc f => setBits acc f.hi f.lo (f.reset + f.step * (i + j))) 0

/-- The reset value of an offset; an offset no table lists reads 0 (R494). -/
def resetOf (tab : List RegDesc) (off : Nat) : Word :=
  match findReg tab off with
  | some (r, i, j) => BitVec.ofNat 32 (r.resetVal i j)
  | none => 0

/-- The word a register store holds at an offset. -/
def regGet (tab : List RegDesc) (rs : Regs) (off : Nat) : Nat :=
  match sget? rs off with
  | some w => w.toNat
  | none => (resetOf tab off).toNat

/-- A word written at an offset, by hardware. -/
def regPut (rs : Regs) (off : Nat) (v : Nat) : Regs := sput rs off (BitVec.ofNat 32 v)

/-- The value a field stores for a written value (the register tables' range rules). -/
def Fix.apply (f : Fix) (v : Nat) : Nat :=
  match f with
  | .none => v
  | .zeroTo d => if v = 0 then d else v
  | .atMost m => if v > m then m else v
  | .atLeast m => if v < m then m else v
  | .clamp lo hi => if v < lo then lo else if v > hi then hi else v
  | .log2 => if 4 ≤ v ∧ v ≤ 16 then v else 4
  | .orWith m => v ||| m

/-- What writing one field does: the new word and the status raised (R11 to R17). `en` is the block's ENABLE bit, `lock`
the field's lock; `mixed` that the register has an RW field too, so that a write which leaves the RWE field's value is one of the
other field (log entry 15). -/
def writeField (f : FieldDesc) (en lock mixed : Bool) (old w : Nat) : Nat × Nat :=
  let x := bits w f.hi f.lo
  let cur := bits old f.hi f.lo
  match f.acc with
  | .ro => (old, 0)
  | .wo => (old, 0)
  | .rw => (setBits old f.hi f.lo (f.fix.apply x), 0)
  | .w1c => (setBits old f.hi f.lo (cur &&& (2 ^ (f.hi + 1 - f.lo) - 1 - x)), 0)
  | .rwe => if en then (old, if mixed && f.fix.apply x == cur then 0 else 0x14) else (setBits old f.hi f.lo (f.fix.apply x), 0)
  | .rwl => if lock then (old, 0x13) else (setBits old f.hi f.lo (f.fix.apply x), 0)

/-- A whole write to a register row: each field follows its own code; the status is the highest raised (R17). -/
def writeWord (fs : List FieldDesc) (en lock : Bool) (old w : Nat) : Nat × Nat :=
  fs.foldl (fun acc f =>
    let r := writeField f en lock (fs.any (fun g => g.acc == .rw)) acc.1 w
    (r.1, max acc.2 r.2)) (old, 0)

/-! Register access of a tile. -/

/-- A tile register. -/
def Tile.rd (t : Tile) (off : Nat) : Nat := regGet tileRegs t.regs off
/-- A tile register written by hardware. -/
def Tile.wr (t : Tile) (off v : Nat) : Tile := { t with regs := regPut t.regs off v }
/-- A field of a tile register. -/
def Tile.fld (t : Tile) (off hi lo : Nat) : Nat := bits (t.rd off) hi lo
/-- A field of a tile register written by hardware. -/
def Tile.setFld (t : Tile) (off hi lo v : Nat) : Tile := t.wr off (setBits (t.rd off) hi lo v)
/-- Bits set in a tile register. -/
def Tile.orBits (t : Tile) (off m : Nat) : Tile := if m = 0 then t else t.wr off (t.rd off ||| m)
/-- A counter of 32 bits grown, modulo 2^32. -/
def Tile.bump (t : Tile) (off n : Nat) : Tile := if n = 0 then t else t.wr off ((t.rd off + n) % 2 ^ 32)

/-! Register access of the device, and of the trust core's block. -/

/-- A BAR0 register. -/
def Dev.rd (d : Dev) (off : Nat) : Nat := regGet devRegs d.regs off
/-- A BAR0 register written by hardware. -/
def Dev.wr (d : Dev) (off v : Nat) : Dev := { d with regs := regPut d.regs off v }
/-- A field of a BAR0 register. -/
def Dev.fld (d : Dev) (off hi lo : Nat) : Nat := bits (d.rd off) hi lo
/-- A field of a BAR0 register written by hardware. -/
def Dev.setFld (d : Dev) (off hi lo v : Nat) : Dev := d.wr off (setBits (d.rd off) hi lo v)
/-- Bits set in a BAR0 register. -/
def Dev.orBits (d : Dev) (off m : Nat) : Dev := if m = 0 then d else d.wr off (d.rd off ||| m)
/-- A counter of 32 bits grown, modulo 2^32. -/
def Dev.bump (d : Dev) (off n : Nat) : Dev := if n = 0 then d else d.wr off ((d.rd off + n) % 2 ^ 32)

/-- A physical tile. -/
def Dev.tile (d : Dev) (p : Nat) : Tile := sget Tile.reset d.tiles p
/-- A physical tile replaced. -/
def Dev.setTile (d : Dev) (p : Nat) (t : Tile) : Dev := { d with tiles := sset Tile.reset d.tiles p t }
/-- A physical tile changed by a function. -/
def Dev.onTile (d : Dev) (p : Nat) (f : Tile → Tile) : Dev := d.setTile p (f (d.tile p))

/-- The enabled logical tiles of the grade (R1). -/
def Dev.gradeTiles (d : Dev) : Nat := if d.fuses.grade = 2 then 240 else 256

/-- The physical tile a logical tile is mapped to (R23, R382). -/
def Dev.physOf (d : Dev) (l : Nat) : Option Nat :=
  if l < 256 ∧ (d.rd (dREPAIR_MAP + 4 * l)).testBit 31 then some (d.fld (dREPAIR_MAP + 4 * l) 8 0) else none

/-! ## Time -/

/-- PTP time in ns (R301). -/
def Dev.ptpNs (d : Dev) : Nat := (d.clock.ptpBase + (d.clock.ps - d.clock.ptpPs) / 1000) % 2 ^ 63
/-- Standby time in ns (R532). -/
def Dev.stbyNs (d : Dev) : Nat := (d.clock.stbyBase + (d.clock.ps - d.clock.stbyPs) / 1000) % 2 ^ 63
/-- The time stamp of the device's time `ps` under the clock that runs now (R10, R532). -/
def Dev.stampPs (d : Dev) (ps : Nat) : Nat :=
  if d.clock.ptpRun then (d.clock.ptpBase + (ps - d.clock.ptpPs) / 1000) % 2 ^ 63
  else 2 ^ 63 + (d.clock.stbyBase + (ps - d.clock.stbyPs) / 1000) % 2 ^ 63
/-- The time stamp the device writes (R10, R532). -/
def Dev.stamp (d : Dev) : Nat := if d.clock.ptpRun then d.ptpNs else 2 ^ 63 + d.stbyNs

/-- The device's clock advanced by `n` tc; a throttled tc is longer (R8, R543). -/
def Dev.advance (d : Dev) (n : Nat) : Dev :=
  if n = 0 then d
  else
    let l := d.fld dHK_THROTTLE 3 0
    let dt := n * 9600 / (16 - l)
    let extra := dt - n * 600
    let d := { d with clock := { d.clock with now := d.clock.now + n, ps := d.clock.ps + dt } }
    if extra = 0 then d
    else
      let ns := d.rd dHK_THROTTLE_NS_LO + d.rd dHK_THROTTLE_NS_HI * 2 ^ 32 + extra / 1000
      (d.wr dHK_THROTTLE_NS_LO (ns % 2 ^ 32)).wr dHK_THROTTLE_NS_HI (ns / 2 ^ 32 % 2 ^ 32)

/-- The device's clock brought up to tc `g`. -/
def Dev.advanceTo (d : Dev) (g : Nat) : Dev := d.advance (g - d.clock.now)

/-- The device's clock brought up to time `ps`. -/
def Dev.advancePs (d : Dev) (ps : Nat) : Dev :=
  let per := 9600 / (16 - d.fld dHK_THROTTLE 3 0)
  d.advance ((ps - d.clock.ps + per - 1) / per)

/-- The device leaves Idle at once when work needs TCLK (R521). -/
def Dev.leaveIdle (d : Dev) : Dev :=
  if d.fld dHK_PSTATE 3 0 = 1 then
    { d.setFld dHK_PSTATE 3 0 0 with power := { d.power with tclk := true, idlePs := d.clock.ps } }
  else d

/-! ## CRC-32C and the Sheaf code -/

/-- One bit of CRC-32C, reflected Castagnoli polynomial. -/
def crcBit (c : Nat) : Nat := if c % 2 = 1 then (c / 2) ^^^ 0x82F63B78 else c / 2

/-- One byte of CRC-32C. -/
def crcByte (c b : Nat) : Nat :=
  crcBit (crcBit (crcBit (crcBit (crcBit (crcBit (crcBit (crcBit (c ^^^ b))))))))

/-- CRC-32C of bytes (R389). -/
def crc32c (bs : List Byte) : Nat := (bs.foldl (fun c b => crcByte c b.toNat) 0xFFFFFFFF) ^^^ 0xFFFFFFFF

/-- Multiplication by x modulo g(x), 16 bits (R257). -/
def sheafStep (c : Nat) : Nat := if c < 2 ^ 15 then 2 * c else (2 * c) ^^^ 0x16F63

/-- The check bits of a 128-bit word (R257). -/
def sheafCheck (w : Nat) : Nat :=
  (List.range 128).foldl (fun c k =>
    let c' := if w.testBit (127 - k) then c ^^^ 2 ^ 15 else c
    sheafStep c') 0

/-- Multiplication by α in GF(2^8) (R257). -/
def gfX (a : Nat) : Nat := if a < 128 then 2 * a else (2 * a) ^^^ 0x11D

/-- Multiplication in GF(2^8). -/
def gfMul (a b : Nat) : Nat :=
  (List.range 8).foldl (fun acc k => (if b.testBit (7 - k) then (gfX acc) ^^^ a else gfX acc)) 0

/-- α^k. -/
def gfPow : Nat → Nat
  | 0 => 1
  | k + 1 => gfX (gfPow k)

/-- The syndromes S1 and S3 of a 144-bit word (R259), evaluated from the highest bit down. -/
def syndromes (v : Nat) : Nat × Nat :=
  (List.range 144).foldl (fun s k =>
    let b := b2n (v.testBit (143 - k))
    (gfX s.1 ^^^ b, gfX (gfX (gfX s.2)) ^^^ b)) (0, 0)

/-- What a decode finds (R259): nothing, the positions it corrects, or an uncorrectable word. -/
inductive SheafOutcome where
  | clean
  | corrected (positions : List Nat)
  | uncorrectable
  deriving DecidableEq, Repr

/-- The positions j ≤ 143 at which 1 + S1·x + ((S3 + S1^3) ÷ S1)·x² has the root α^(−j): α^2j + S1·α^j + Q = 0 with
Q·S1 = S3 + S1^3. -/
def sheafRoots (s1 s3 : Nat) : List Nat :=
  let num := s3 ^^^ gfMul s1 (gfMul s1 s1)
  (List.range 144).filter (fun j =>
    let a := gfPow j
    gfMul s1 (gfMul a a ^^^ gfMul s1 a) == num)

/-- The decode by syndromes (R259). -/
def sheafDecode (v : Nat) : SheafOutcome :=
  let s := syndromes v
  let cube := gfMul s.1 (gfMul s.1 s.1)
  if s.1 = 0 ∧ s.2 = 0 then .clean
  else if s.1 = 0 then .uncorrectable
  else if s.2 = cube then
    match (List.range 144).find? (fun j => gfPow j == s.1) with
    | some j => .corrected [j]
    | none => .uncorrectable
  else
    match sheafRoots s.1 s.2 with
    | [a, b] => .corrected [a, b]
    | _ => .uncorrectable

/-- The 144-bit codeword of a data word. -/
def sheafWord (w : Nat) : Nat := w * 2 ^ 16 + sheafCheck w

/-- A stored word with flipped bits, as it is read: the data a reader gets, and the outcome. The code is linear, so the
outcome depends on the flipped bits alone. -/
def sheafRead (data flips : Nat) : Nat × SheafOutcome :=
  if flips = 0 then (data, .clean)
  else
    let o := sheafDecode flips
    match o with
    | .clean => (data ^^^ (flips >>> 16), .clean)
    | .corrected ps => (data ^^^ ((ps.foldl (fun m j => m ^^^ 2 ^ j) flips) >>> 16), o)
    | .uncorrectable => (data ^^^ (flips >>> 16), .uncorrectable)

/-- The flips of a poisoned word: its data as read, its check bits XOR 0x011D (R260). -/
def poisonFlips : Nat := 0x011D

/-! ## Logs and error records -/

/-- What an error record says, beside what the device fills in (R389). -/
structure ErrIn where
  type : Nat
  status : Nat := 0
  cls : Nat := 0
  die : Nat := 0xFF
  unit : Nat := 0
  sub : Nat := 0
  job : Nat := 0
  step : Nat := 0
  op : Nat := 0
  addr : Nat := 0
  syn : Nat := 0
  detail : Nat := 0
  tile : Nat := 0x1FF
  deriving DecidableEq, Repr

/-- The 60 bytes of a record before its CRC (R389). -/
def errBytes (time seq temp volt merged : Nat) (r : ErrIn) : List Byte :=
  leBytes 8 time ++ leBytes 4 seq ++ leBytes 1 r.type ++ leBytes 1 r.status ++ leBytes 1 r.cls ++ leBytes 1 r.die ++
  leBytes 2 r.unit ++ leBytes 2 r.sub ++ leBytes 4 r.job ++ leBytes 4 r.step ++ leBytes 4 r.op ++ leBytes 8 r.addr ++
  leBytes 2 temp ++ leBytes 2 volt ++ leBytes 2 merged ++ leBytes 2 r.syn ++ leBytes 8 r.detail ++
  leBytes 2 r.tile ++ leBytes 2 0

/-- A record with its CRC-32C (R389). -/
def errRecordBytes (time seq temp volt merged : Nat) (r : ErrIn) : List Byte :=
  let b := errBytes time seq temp volt merged r
  b ++ leBytes 4 (crc32c b)

/-- The INT_STATUS bit a record's type sets (R391, R397). -/
def errStatusBit (type : Nat) : Nat :=
  match type with
  | 1 => 1
  | 2 => 2
  | 4 => 4
  | 6 => 8
  | 8 => 16
  | 12 => 32
  | 16 => 64
  | 17 => 128
  | 10 => 256
  | 22 => 512
  | _ => 0

/-- The types that freeze the first-failure region and raise the event path (R391, R394). -/
def seriousType (type : Nat) : Bool := [2, 4, 6, 8, 10, 22].contains type

/-- A Daybook ring entry written, oldest overwritten first, and the head moved (R392, R393). -/
def Dev.daybookAppend (d : Dev) (bs : List Byte) : Dev :=
  let h := d.fld dDBK_HEAD 19 0
  let d := { d with integ := { d.integ with daybook := sput d.integ.daybook h (BitVec.ofNat 512 (leNat bs)) } }
  d.setFld dDBK_HEAD 19 0 (if h + 1 ≥ 1048576 then 17408 else h + 1)

/-- Entries before ring entry `h`, `n` of them, oldest first. -/
def ringBefore (h n : Nat) : List Nat :=
  (List.range n).map (fun i =>
    let back := n - i
    if h ≥ 17408 + back then h - back else h + (1048576 - 17408) - back)

/-- The first-failure region takes a serious record and its neighbours (R394). -/
def Dev.firstFailure (d : Dev) (type : Nat) (bs : List Byte) (at_ : Nat) : Dev :=
  let e := BitVec.ofNat 512 (leNat bs)
  if d.integ.ffLeft > 0 then
    { d with integ := { d.integ with
        daybook := sput d.integ.daybook d.integ.ffNext e
        ffLeft := d.integ.ffLeft - 1
        ffNext := d.integ.ffNext + 1 } }
  else if seriousType type && d.fld dDBK_FF 0 0 == 0 then
    let olds := (ringBefore at_ 255).map (fun h => sget 0 d.integ.daybook h)
    let db := (olds ++ [e]).zipIdx.foldl (fun m (x : BitVec 512 × Nat) => sput m (16384 + x.2) x.1) d.integ.daybook
    let d := { d with integ := { d.integ with daybook := db, ffLeft := 768, ffNext := 16384 + 256 } }
    d.setFld dDBK_FF 0 0 1
  else d

/-- The error ring takes a record at its sequence number modulo 256 (R391, R397). -/
def Dev.errRing (d : Dev) (seq : Nat) (bs : List Byte) : Dev :=
  (List.range 16).foldl (fun (d : Dev) w =>
    d.wr (dERR_REC + 0x40 * (seq % 256) + 4 * w) (leNat ((bs.drop (4 * w)).take 4))) d

/-- Host memory bytes written by the device (R493). -/
def Dev.hostWrite (d : Dev) (a : Nat) (bs : List Byte) : Dev := { d with hostMem := wrBytes d.hostMem a bs }
/-- Host memory bytes read by the device (R493). -/
def Dev.hostRead (d : Dev) (a n : Nat) : List Byte := rdBytes d.hostMem a n

/-- An MSI-X vector raised (R490). -/
def Dev.raise (d : Dev) (v : Nat) : Dev := { d with msix := d.msix ++ [v] }

/-- The event queue takes a record its mask carries (R511). -/
def Dev.eventQueue (d : Dev) (type : Nat) (bs : List Byte) : Dev :=
  if d.fld dEQ_CTRL 0 0 = 1 && ((d.rd dEQ_MASK ||| 0x400554).testBit type) then
    let n := 2 ^ d.fld dEQ_CTRL 5 1
    let head := d.fld dEQ_HEAD 15 0
    let tail := d.fld dEQ_TAIL 15 0
    let base := d.rd dEQ_BASE_LO + d.rd dEQ_BASE_HI * 2 ^ 32
    if (tail + 1) % n = head % n then d.bump dEQ_LOST 1
    else
      let t' := (tail + 1) % n
      let d := d.hostWrite (base + 64 * tail) bs
      let d := d.hostWrite (base + 64 * n) (leBytes 4 t')
      (d.setFld dEQ_TAIL 15 0 t').raise 17
  else d

/-- The die temperature and core voltage a record carries (R389), as housekeeping reads them (R546). -/
def Dev.dieSense (d : Dev) (die : Nat) : Nat × Nat :=
  if die < 7 then (d.fld (dHK_TEMP + 4 * die) 15 0, d.fld (dHK_VOLT + 4 * die) 15 0) else (0, 0)

/-- A record written whole: error ring, Daybook, first-failure region, INT_STATUS and the event path. -/
def Dev.errWrite (d : Dev) (merged : Nat) (r : ErrIn) : Dev :=
  let seq := d.rd dERR_SEQ
  let s := d.dieSense r.die
  let bs := errRecordBytes d.stamp seq s.1 s.2 merged r
  let d := d.errRing seq bs
  let d := d.bump dERR_SEQ 1
  let h := d.fld dDBK_HEAD 19 0
  let d := d.daybookAppend bs
  let d := d.firstFailure r.type bs h
  let d := d.orBits dINT_STATUS (errStatusBit r.type)
  d.eventQueue r.type bs

/-- The key under which CORRECTED records of one unit are merged (R391). -/
def ErrIn.key (r : ErrIn) : Nat := r.cls * 2 ^ 32 + r.unit * 2 ^ 16 + r.sub

/-- An error record (R389 to R394): CORRECTED records of one unit are written at most once per second, the corrections
in between counted in the next (R391). -/
def Dev.errRecord (d : Dev) (r : ErrIn) : Dev :=
  if r.type = 1 then
    let d := d.orBits dINT_STATUS 1
    match sget? d.integ.ceLast r.key with
    | some (t, n) =>
      if d.clock.ps / 1000 < t + 1000000000 then
        { d with integ := { d.integ with ceLast := sput d.integ.ceLast r.key (t, n + 1) } }
      else
        let d := { d with integ := { d.integ with ceLast := sput d.integ.ceLast r.key (d.clock.ps / 1000, 0) } }
        d.errWrite n r
    | none =>
      let d := { d with integ := { d.integ with ceLast := sput d.integ.ceLast r.key (d.clock.ps / 1000, 0) } }
      d.errWrite 0 r
  else d.errWrite 0 r

/-- What the decode of a stored word reports (R259, R368, R371): CORRECTED or UNCORRECTABLE, with its syndromes. -/
def Dev.codeReport (d : Dev) (o : SheafOutcome) (flips : Nat) (r : ErrIn) : Dev :=
  let y := syndromes flips
  match o with
  | .clean => d
  | .corrected _ => d.errRecord { r with type := 1, status := 0, syn := y.1 + 256 * y.2 }
  | .uncorrectable => d.errRecord { r with type := 2, status := 0x30, syn := y.1 + 256 * y.2 }

/-- The compute die of a physical tile (R2). -/
def dieOfTile (p : Nat) : Nat := p / 68

/-- A Binder log record (R341). -/
def Dev.binderLog (d : Dev) (step job reason status cls tile rank detail : Nat) : Dev :=
  let n := d.fld dBND_LOG_COUNT 6 0
  if n ≥ 64 then d.bump dBND_LOG_LOST 1
  else
    let bs := leBytes 8 d.stamp ++ leBytes 4 step ++ leBytes 4 job ++ leBytes 2 reason ++ leBytes 1 status ++
      leBytes 1 cls ++ leBytes 2 tile ++ leBytes 2 rank ++ leBytes 8 detail
    let d := (List.range 8).foldl (fun (d : Dev) w =>
      d.wr (dBND_LOG + 0x20 * n + 4 * w) (leNat ((bs.drop (4 * w)).take 4))) d
    d.setFld dBND_LOG_COUNT 6 0 (n + 1)

/-- A record of the step record of a job. -/
def Dev.stepRecord (d : Dev) (job kind tile : Nat) (bs : List Byte) : Dev :=
  { d with stepRec := d.stepRec ++ [⟨job, kind, tile, bs⟩] }

/-- A message the device sends. -/
def Dev.send (d : Dev) (m : Out) : Dev := { d with outbox := d.outbox ++ [m] }

/-! ## Granary memory -/

/-- The first address beyond the program range (R254). -/
def Dev.top (d : Dev) : Nat :=
  let k := d.fld dGRN_RESERVE 1 0
  ((24 - k) * 2 ^ 20 / 24) * 0x180000

/-- Granary bytes read. -/
def Dev.grnRead (d : Dev) (a n : Nat) : List Byte := rdBytes d.grnMem a n

/-- The stored words a byte range touches, each cleared of flipped bits by being rewritten. -/
def clearFlips (m : Sparse (BitVec 144)) (a n : Nat) : Sparse (BitVec 144) :=
  if n = 0 then m else m.filter (fun e => !(a / 16 ≤ e.1 && e.1 ≤ (a + n - 1) / 16))

/-- Granary bytes written; a written word carries fresh check bits. -/
def Dev.grnWrite (d : Dev) (a : Nat) (bs : List Byte) : Dev :=
  { d with grnMem := wrBytes d.grnMem a bs, grnErr := clearFlips d.grnErr a bs.length }

/-- A Granary word stored poisoned (R260). -/
def Dev.grnPoison (d : Dev) (a : Nat) : Dev :=
  { d with grnErr := sput d.grnErr (a / 16) (BitVec.ofNat 144 poisonFlips) }

end Sys2Proof.Machine
end

