-- ==== Sys2Proof/Machine/Persist.lean ====
section
/-! DEFINITION. Persistent regions and before-images (R400, R404): what a job's write to the Granary does first. -/

namespace Sys2Proof.Machine

/-- Bytes of a chunk (R400). -/
def chunkBytes : Nat := 65536

/-- The chunks of a job's regions, in the order of its region table (R407). -/
def Job.chunks (j : Job) : List Nat := j.regions.flatMap (fun r => (List.range r.2).map (fun k => r.1 + chunkBytes * k))

/-- An address lies in a persistent region of a job. -/
def Job.persists (j : Job) (a : Nat) : Bool := j.regions.any (fun r => r.1 ≤ a && a < r.1 + chunkBytes * r.2)

/-- The chunks that a byte range touches. -/
def chunksOf (a n : Nat) : List Nat :=
  if n = 0 then [] else (List.range ((a + n - 1) / chunkBytes - a / chunkBytes + 1)).map (fun k => (a / chunkBytes + k) * chunkBytes)

/-- The chunk is dirty: its before-image is held (R404). Until a commit is complete, the writes of the step after it count apart
(R405; log entry 63). -/
def Job.dirty (j : Job) (c : Nat) : Bool := (if j.committed then j.before else j.beforeNext).any (fun b => b.1 == c)

/-- The job slot's register of the Silo block (R432). -/
def slotReg (off u : Nat) : Nat := off + 0x40 * u

/-- BI_USED kept equal to the before-images held. -/
def Dev.showBefore (d : Dev) (u n : Nat) : Dev := d.wr (slotReg dBI_USED u) n

/-- A chunk's old contents copied to the before-image area of a job slot, and the chunk marked dirty (R404). -/
def Dev.captureChunk (d : Dev) (u : Nat) (j : Job) (c : Nat) : Dev :=
  let b := (c, d.grnRead c chunkBytes)
  let j := if j.committed then { j with before := j.before ++ [b] } else { j with beforeNext := j.beforeNext ++ [b] }
  ({ d with jobs := sput d.jobs u j } : Dev).showBefore u (j.before.length + j.beforeNext.length)

/-- The before-images that a write of a job in a step, or about to repeat one, calls for, taken with the write (R404; log entry 63). -/
def Dev.capture (d : Dev) (a n : Nat) : Dev :=
  d.jobs.foldl (fun (d : Dev) e =>
    (chunksOf a n).foldl (fun (d : Dev) c =>
      match sget? d.jobs e.1 with
      | some j => if (j.running || j.abandoned) && j.persists c && !j.dirty c then d.captureChunk e.1 j c else d
      | none => d) d) d

/-- A job's bytes written to the Granary. -/
def Dev.jobWrite (d : Dev) (a : Nat) (bs : List Byte) : Dev := (d.capture a bs.length).grnWrite a bs

/-- A program's write to the Granary may land (R404, R405): every persistent chunk it touches is dirty, and the commit of the
boundary before is complete. -/
def Dev.mayLand (d : Dev) (a n : Nat) : Bool :=
  d.jobs.all (fun e => !e.2.running || (chunksOf a n).all (fun c => !e.2.persists c || (e.2.committed && e.2.dirty c)))

end Sys2Proof.Machine
end

