-- ==== Sys2Proof/Machine/NetOps.lean ====
section
/-! DEFINITION. Operations on the network: routes to ranks (R289, R305), connections (R288, R290), messages that stay within the
device. -/

namespace Sys2Proof.Machine

/-- The job slot of the rank table that holds a job (R305). -/
def Dev.rankSlot (d : Dev) (job : Nat) : Option Nat :=
  if job = 0 then none else (List.range 4).find? (fun u => d.rd (dJOB_RANKS + 8 * u) == job)

/-- The rank-table entry of a rank of a job (R305). -/
def Dev.rankEntry (d : Dev) (job rank : Nat) : Option Nat :=
  match d.rankSlot job with
  | some u =>
    let w := d.rd (dJOB_RANKS_HI + 8 * u)
    if rank < bits w 30 15 then some (bits w 14 0 + rank) else none
  | none => none

/-- RANK_CFG of a rank of a job; 0 where it has no entry. -/
def Dev.rankCfg (d : Dev) (job rank : Nat) : Nat :=
  match d.rankEntry job rank with
  | some n => d.rd (dRANK_CFG + 0x40 * n)
  | none => 0

/-- The rank has a VALID entry (R289). -/
def Dev.rankValid (d : Dev) (job rank : Nat) : Bool := bit (d.rankCfg job rank) 0
/-- The rank is this device (R305). -/
def Dev.rankIsSelf (d : Dev) (job rank : Nat) : Bool := bit (d.rankCfg job rank) 0 && bit (d.rankCfg job rank) 1
/-- The peer is lost (R290). -/
def Dev.rankLost (d : Dev) (job rank : Nat) : Bool := bit (d.rankCfg job rank) 2

/-- The key of a connection. -/
def connKey (job rank cls : Nat) : Nat := (job * 2 ^ 15 + rank % 2 ^ 15) * 4 + cls % 4

/-- A connection; at its job's start where nothing has used it. -/
def Dev.conn (d : Dev) (job rank cls : Nat) : Conn := sget (Conn.fresh 0) d.conns (connKey job rank cls)
/-- A connection replaced. -/
def Dev.setConn (d : Dev) (job rank cls : Nat) (c : Conn) : Dev :=
  { d with conns := sset (Conn.fresh 0) d.conns (connKey job rank cls) c }

/-- The physical port of number q is up (R279, R303). -/
def Dev.portUp (d : Dev) (q : Nat) : Bool := d.fld (dPORT_STATUS + 0x10000 * (q / 4) + 4 * (q % 4)) 0 0 == 1

/-- A packet that leaves late under R294: class 0, not on the entry's C0_PORT or sent again. -/
def Dev.c0Late (d : Dev) (job rank cls : Nat) (again : Bool) : Dev :=
  if cls = 0 ∧ (again ∨ !d.portUp (bits (d.rankCfg job rank) 8 4)) then d.orBits dWAIN_STATUS 16 else d

/-- The ports of a rank's route that are up (R289). -/
def Dev.routePorts (d : Dev) (job rank : Nat) : List Nat :=
  match d.rankEntry job rank with
  | some n => (List.range 32).filter (fun q => (d.rd (dRANK_PORTS + 0x40 * n)).testBit q && d.portUp q)
  | none => []

/-- The port the next packet of a connection takes: class 0 on C0_PORT while it is up, else the lowest; the other classes in
turn (R289). -/
def Dev.txPort (d : Dev) (job rank cls n : Nat) : Option Nat :=
  let ps := d.routePorts job rank
  let c0 := bits (d.rankCfg job rank) 8 4
  if cls = 0 then (if ps.contains c0 then some c0 else ps.head?) else ps[n % max 1 ps.length]?

/-- The cells of a packet of `n` flits (R282, R285). -/
def cellsOf (n : Nat) : Nat := (150 + 18 * n + 255) / 256

/-- Credit used by a packet on a direct-mode port (R286). -/
def Dev.useCredit (d : Dev) (port : Option Nat) (cls flits : Nat) : Dev :=
  match port with
  | some q => { d with credits := sset 0 d.credits (q * 4 + cls) (sget 0 d.credits (q * 4 + cls) - cellsOf flits) }
  | none => d

/-- The flits of a message. -/
def Msg.flits : Msg → Nat
  | .data n => n
  | .slotData _ _ es => es.length
  | _ => 1

/-- One packet given to a connection (R283, R288). -/
def Dev.wainPut (d : Dev) (job rank cls : Nat) (m : Msg) : Dev :=
  let c := d.conn job rank cls
  let d := d.useCredit (d.txPort job rank cls c.tx) cls m.flits
  let d := d.setConn job rank cls { c with
    next := (c.next + 1) % 2 ^ 32, tx := c.tx + 1, txPs := d.clock.ps, unacked := c.unacked ++ [⟨c.next, m, d.clock.ps, d.clock.ps⟩] }
  (d.c0Late job rank cls false).send (.wain rank cls job c.next c.tx m)

/-- A step number for the Binder log. -/
def Dev.stepOf (d : Dev) (job : Nat) : Nat :=
  match d.jobs.find? (fun j => j.2.id == job) with
  | some j => j.2.step
  | none => 0

/-- A message to a rank of a job (R289): to this device itself it stays within it; without a VALID entry it is dropped with
a Binder log record. -/
def Dev.message (d : Dev) (job rank cls tile : Nat) (m : Msg) : Dev :=
  if d.rankIsSelf job rank then { d with inner := d.inner ++ [(job, m)] }
  else if !d.rankValid job rank then
    (d.orBits dWAIN_STATUS 2).binderLog (d.stepOf job) job 0x73 0x42 cls tile rank 0
  else if d.rankLost job rank then d
  else d.wainPut job rank cls m

/-- A message that stays within the device. -/
def Dev.innerMsg (d : Dev) (job : Nat) (m : Msg) : Dev := { d with inner := d.inner ++ [(job, m)] }

/-- A message within the device arrived. -/
def Dev.dropInner (d : Dev) (job : Nat) (m : Msg) : Dev := { d with inner := d.inner.erase (job, m) }

end Sys2Proof.Machine
end

