-- ==== Sys2Proof/Machine/TileOps.lean ====
section
/-! DEFINITION. Operations on one tile: its counted time and freezes (R145, R185, R186), its illegal-command log (R223,
R224), stopping (R194), bank ownership (R162 to R168), work counts (R155). -/

namespace Sys2Proof.Machine

/-! ## Table-entry fields (R187) -/

/-- OPCODE. -/
def eOpcode (e : Nat) : Nat := bits e 7 0
/-- PFLAG. -/
def ePflag (e : Nat) : Nat := bits e 13 8
/-- PPOL. -/
def ePpol (e : Nat) : Bool := bit e 14
/-- PEN. -/
def ePen (e : Nat) : Bool := bit e 15
/-- DELAY. -/
def eDelay (e : Nat) : Nat := bits e 31 16
/-- H0. -/
def eH0 (e : Nat) : Nat := bits e 39 32
/-- H1. -/
def eH1 (e : Nat) : Nat := bits e 47 40
/-- H2. -/
def eH2 (e : Nat) : Nat := bits e 55 48
/-- SFLAG. -/
def eSflag (e : Nat) : Nat := bits e 61 56
/-- SEN. -/
def eSen (e : Nat) : Bool := bit e 62
/-- WFLAG. -/
def eWflag (e : Nat) : Nat := bits e 69 64
/-- WPOL. -/
def eWpol (e : Nat) : Bool := bit e 70
/-- WEN. -/
def eWen (e : Nat) : Bool := bit e 71
/-- WCLR. -/
def eWclr (e : Nat) : Bool := bit e 72
/-- STALL_SEL. -/
def eStall (e : Nat) : Nat := bits e 78 73
/-- ARGS bits [hi:lo]. -/
def eArgs (e hi lo : Nat) : Nat := bits e (80 + hi) (80 + lo)
/-- ARGS bit i. -/
def eArgBit (e i : Nat) : Bool := bit e (80 + i)
/-- IMM bits [hi:lo]. -/
def eImm (e hi lo : Nat) : Nat := bits e (192 + hi) (192 + lo)

/-! ## Counted time and freezes -/

/-- The device tc at which local tc `x` falls: every freeze that began by then has moved it (R145, R186). -/
def Tile.toGlobal (t : Tile) (x : Nat) : Nat :=
  t.freezes.foldl (fun g f => if f.1 ≤ x then g + f.2 else g) x

/-- The local tc of device tc `g`: within a freeze it is the tc at which the tile resumes (R145). Freezes in order. -/
def localAt : List (Nat × Nat) → Nat → Nat → Nat
  | [], acc, g => g - acc
  | (s, l) :: r, acc, g =>
    if g < s + acc then g - acc
    else if g < s + acc + l then s
    else localAt r (acc + l) g

/-- The local tc of device tc `g`. -/
def Tile.toLocal (t : Tile) (g : Nat) : Nat := localAt t.freezes 0 g

/-- A freeze put in the order of its start. -/
def insertFreeze : List (Nat × Nat) → Nat × Nat → List (Nat × Nat)
  | [], f => [f]
  | a :: r, f => if f.1 < a.1 then f :: a :: r else a :: insertFreeze r f

/-- A freeze of `n` tc that begins at local tc `s`, counted in the register of its cause and in FREEZE_TC (R145). -/
def Tile.freeze (t : Tile) (cause s n : Nat) : Tile :=
  if n = 0 then t
  else (({ t with freezes := insertFreeze t.freezes (s, n) }).bump cause n).bump tFREEZE_TC n

/-! ## Sequencer status -/

/-- SEQ_STATUS.STATE codes (R184). -/
def stIDLE : Nat := 0
/-- RUN. -/
def stRUN : Nat := 1
/-- WAIT. -/
def stWAIT : Nat := 2
/-- DONE. -/
def stDONE : Nat := 3
/-- STOPPED. -/
def stSTOPPED : Nat := 4
/-- HALTED. -/
def stHALTED : Nat := 5

/-- The sequencer's state. -/
def Tile.state (t : Tile) : Nat := t.fld tSEQ_STATUS 2 0
/-- The sequencer put in a state. -/
def Tile.setState (t : Tile) (s : Nat) : Tile := t.setFld tSEQ_STATUS 2 0 s
/-- The active bank. -/
def Tile.bank (t : Tile) : Nat := t.fld tSEQ_STATUS 3 3
/-- A bank's ENTRIES (R550). -/
def Tile.nEntries (t : Tile) (b : Nat) : Nat := t.fld (tTBL_META_ENT + 16 * b) 12 0
/-- READY of a bank. -/
def Tile.ready (t : Tile) (b : Nat) : Bool := t.fld tSEQ_STATUS (4 + b) (4 + b) == 1
/-- READY of a bank written. -/
def Tile.setReady (t : Tile) (b : Nat) (v : Bool) : Tile := t.setFld tSEQ_STATUS (4 + b) (4 + b) (b2n v)
/-- The tile's ENABLE bit (R495). -/
def Tile.enabled (t : Tile) : Bool := t.fld tTILE_CTRL 0 0 == 1
/-- The stored entry at an index of a bank. -/
def Tile.entry (t : Tile) (b i : Nat) : Nat := (sget 0 t.entries (b * 4096 + i)).toNat

/-- A table entry as the sequencer reads it (R188): its bits, and the decode of its two words with their flipped bits. -/
def Tile.readEntry (t : Tile) (b i : Nat) : Nat × List (SheafOutcome × Nat) :=
  let w := t.entry b i
  let f0 := (sget 0 t.entryErr (2 * (b * 4096 + i))).toNat
  let f1 := (sget 0 t.entryErr (2 * (b * 4096 + i) + 1)).toNat
  let r0 := sheafRead (w % 2 ^ 128) f0
  let r1 := sheafRead (w / 2 ^ 128) f1
  (r0.1 + r1.1 * 2 ^ 128, [(r0.2, f0), (r1.2, f1)])

/-- SEQ_TC at local tc `x` written to its registers (R225). -/
def Tile.setSeqTc (t : Tile) (x : Nat) : Tile :=
  let n := x - t.t0
  (t.wr tSEQ_TC_LO (n % 2 ^ 32)).wr tSEQ_TC_HI (n / 2 ^ 32 % 2 ^ 32)

/-! ## The illegal-command log -/

/-- How a log entry names a table entry: bytes 22:20, its position (index + bank × 4,096) and its opcode (R223). -/
def markOf (pos opcode : Nat) : Nat := pos + opcode * 65536

/-- The mark of the entry that SEQ_PC names (R232). -/
def Tile.pcMark (t : Tile) : Nat :=
  let pos := t.rd tSEQ_PC % 8192
  markOf pos (eOpcode (t.entry (pos / 4096) (pos % 4096)))

/-- One entry of the illegal-command log (R223), `mark` naming its table entry, `detail` what the reason concerns. -/
def logBytes (stamp seqTc step mark status reason tile detail : Nat) : List Byte :=
  leBytes 8 stamp ++ leBytes 8 seqTc ++ leBytes 4 step ++ leBytes 3 mark ++ leBytes 1 status ++ leBytes 2 reason ++ leBytes 2 tile ++ leBytes 4 detail

/-- An entry written to the log, or counted in LOG_LOST beyond the 64th; ILLEGAL is set (R223, R224). -/
def Tile.log (t : Tile) (stamp x mark status reason detail : Nat) : Tile :=
  let t := t.orBits tSEQ_STATUS 0x100
  let n := t.fld tLOG_COUNT 6 0
  if n ≥ 64 then t.bump tLOG_LOST 1
  else
    let bs := logBytes stamp (x - t.t0) (t.rd tTHR_STEP) mark status reason (t.logical.getD 0) detail
    let t := (List.range 8).foldl (fun (t : Tile) w =>
      t.wr (tLOG + 32 * n + 4 * w) (leNat ((bs.drop (4 * w)).take 4))) t
    t.setFld tLOG_COUNT 6 0 (n + 1)

/-- The table stopped at the entry of a position: SEQ_STOP, and the state (R194). A table that has stopped or halted keeps
the entry at which it did. -/
def Tile.stopAt (t : Tile) (pos status : Nat) : Tile :=
  if t.state = stSTOPPED ∨ t.state = stHALTED then t
  else (t.wr tSEQ_STOP (pos + status * 65536)).setState stSTOPPED

/-- A stop with its log entry. -/
def Tile.stop (t : Tile) (stamp x pos opcode status reason detail : Nat) : Tile :=
  (t.log stamp x (markOf pos opcode) status reason detail).stopAt pos status

/-! ## Banks -/

/-- The owner of a bank now (R162). -/
def Tile.owner (t : Tile) (b : Nat) : Nat := t.fld tLOFT_OWN_NOW (4 * b + 3) (4 * b)
/-- A bank is a ring bank (R170). -/
def Tile.isRing (t : Tile) (b : Nat) : Bool := t.fld tLOFT_CTRL (8 + b) (8 + b) == 1
/-- The banks of a mask. -/
def banksOf (m : Nat) : List Nat := (List.range 8).filter (fun b => m.testBit b)

/-- A bank handed to a master at local tc `x` (R164). -/
def Tile.hand (t : Tile) (b master x : Nat) : Tile :=
  let t := t.setFld tLOFT_OWN_NOW (4 * b + 3) (4 * b) master
  { t with handTc := sput t.handTc b x }

/-- Banks handed to one master. -/
def Tile.handAll (t : Tile) (banks : List Nat) (master x : Nat) : Tile :=
  banks.foldl (fun (t : Tile) b => t.hand b master x) t

/-- How long an access at local tc `x` to a bank its master owns is held: until 4 tc after the handover (R164). -/
def Tile.hold (t : Tile) (b x : Nat) : Nat :=
  match sget? t.handTc b with
  | some h => if x < h + 4 then h + 4 - x else 0
  | none => 0

/-- The bank of a Loft address (R159). -/
def bankOf (a : Nat) : Nat := bits a 21 19

/-! ## Work counts -/

/-- Work of a class ordered: the class's register pair and the unsent count grow (R155). -/
def Tile.work (t : Tile) (cls n : Nat) : Tile :=
  if n = 0 then t
  else
    let old := t.rd (tWORK_LO + 8 * cls) + t.rd (tWORK_HI + 8 * cls) * 2 ^ 32
    let v := (old + n) % 2 ^ 64
    let t := (t.wr (tWORK_LO + 8 * cls) (v % 2 ^ 32)).wr (tWORK_HI + 8 * cls) (v / 2 ^ 32)
    { t with unsent := sset 0 t.unsent cls (sget 0 t.unsent cls + n) }

/-! ## Engines -/

/-- The latest command of an engine. -/
def Tile.engCmd (t : Tile) (e : Eng) : Option EngCmd := (t.eng.filter (fun c => c.eng == e)).getLast?

/-- An engine accepts a command at local tc `x` (R152): its latest command accepts the next, and none waits for a
bank. -/
def Tile.accepts (t : Tile) (e : Eng) (x : Nat) : Bool :=
  (t.eng.filter (fun c => c.eng == e)).all (fun c => c.accept ≤ x)

/-- An engine command taken up. -/
def Tile.engage (t : Tile) (c : EngCmd) : Tile := { t with eng := t.eng ++ [c] }

/-- The time stamp of local tc `x` of a tile (R10): of the device's time at that tc, gone by or to come. -/
def Dev.stampAt (d : Dev) (t : Tile) (x : Nat) : Nat :=
  let g := t.toGlobal x
  if d.clock.now ≤ g then d.stampPs (d.clock.ps + (g - d.clock.now) * 9600 / (16 - d.fld dHK_THROTTLE 3 0))
  else d.stampPs (d.clock.ps - (d.clock.now - g) * 600)

end Sys2Proof.Machine
end

