-- ==== Sys2Proof/Machine/Operands.lean ====
section
/-! DEFINITION. Tensor descriptors (R201 to R205), where their elements and scale codes lie, and reading and writing
elements in a Loft (R44, R159, R202, R203). -/

namespace Sys2Proof.Machine

/-- A descriptor's fields (R201). -/
structure Desc where
  space : Nat
  fmt : Nat
  orient : Bool
  base : Nat
  scaleBase : Nat
  rows : Nat
  cols : Nat
  stride : Nat
  elemBase : Nat
  lstride : Nat
  epoch : Nat
  tenant : Nat
  owner : Nat
  valid : Bool
  deriving DecidableEq, Repr

/-- The fields of a descriptor word (R201); LSTRIDE 0 means 2^24. -/
def Desc.ofNat (w : Nat) : Desc :=
  { space := bits w 2 0, fmt := bits w 6 3, orient := bit w 7, base := bits w 48 8, scaleBase := bits w 89 49,
    rows := bits w 105 90 + 1, cols := bits w 121 106 + 1, stride := bits w 149 122, elemBase := bits w 189 150,
    lstride := if bits w 213 190 = 0 then 2 ^ 24 else bits w 213 190, epoch := bits w 229 214,
    tenant := bits w 245 230, owner := bits w 254 246, valid := bit w 255 }

/-- A tile's descriptor. -/
def Tile.descr (t : Tile) (h : Nat) : Desc := Desc.ofNat (sget 0 t.desc h).toNat

/-- Blocks of 32 along a storage row (R203). -/
def Desc.blocks (q : Desc) : Nat := (q.cols + 31) / 32

/-- Bytes of one storage row: a block-scaled row is padded to whole blocks (R44, R46, R202). -/
def Desc.rowBytes (q : Desc) : Nat :=
  if isGBlock q.fmt then q.blocks * 32 * fmtWidth q.fmt / 8 else (q.cols * fmtWidth q.fmt + 7) / 8

/-- The byte address of storage row r. -/
def Desc.rowAddr (q : Desc) (r : Nat) : Nat := q.base + 16 * q.stride * r

/-- The first byte beyond the elements. -/
def Desc.endAddr (q : Desc) : Nat := q.rowAddr (q.rows - 1) + q.rowBytes

/-- The first byte beyond the scale codes; 0 where the format has none. -/
def Desc.scaleEnd (q : Desc) : Nat := if isGBlock q.fmt then q.scaleBase + q.rows * q.blocks else 0

/-- The elements of the view. -/
def Desc.count (q : Desc) : Nat := q.rows * q.cols

/-- The logical element index of storage (r, c) (R202). -/
def Desc.index (q : Desc) (r c : Nat) : Nat :=
  if q.orient then q.elemBase + c * q.lstride + r else q.elemBase + r * q.lstride + c

/-- The address of the scale code of storage (r, c) (R203). -/
def Desc.scaleAddr (q : Desc) (r c : Nat) : Nat := q.scaleBase + r * q.blocks + c / 32

/-- The bank mask a byte range [a, a + n) of a Loft touches. -/
def bankMask (a n : Nat) : Nat :=
  if n = 0 then 0
  else (List.range 8).foldl (fun m b =>
    if b * 0x80000 < a + n ∧ a < (b + 1) * 0x80000 then m ||| 2 ^ b else m) 0

/-- The Loft banks a descriptor's elements and scale codes touch. -/
def Desc.banks (q : Desc) : Nat :=
  (List.range q.rows).foldl (fun m r => m ||| bankMask (q.rowAddr r) q.rowBytes)
    (if isGBlock q.fmt then bankMask q.scaleBase (q.rows * q.blocks) else 0)

/-! ## Reason codes (R221, R248) -/

/-- A check that fails: status, reason, detail, and whether it stops the table. -/
structure Bad where
  status : Nat
  reason : Nat
  detail : Nat
  stops : Bool
  deriving DecidableEq, Repr

/-- A reason that skips the command with ST_ILLEGAL. -/
def skipR (reason detail : Nat) : Option Bad := some ⟨0x10, reason, detail, false⟩
/-- A reason that stops the table with a status. -/
def stopR (status reason detail : Nat) : Option Bad := some ⟨status, reason, detail, true⟩

/-- The first failure of a list of checks (R220: only the first that fails is reported). -/
def firstBad : List (Option Bad) → Option Bad
  | [] => none
  | some b :: _ => some b
  | none :: r => firstBad r

/-- A check that fails with a reason unless a condition holds. -/
def need (c : Bool) (b : Option Bad) : Option Bad := if c then none else b

/-- What one descriptor must be for the command that uses it. -/
structure DescNeed where
  h : Nat
  /-- the spaces the command may use, a bit each -/
  spaces : Nat
  /-- only the tile's own Loft will do -/
  own : Bool
  deriving DecidableEq, Repr

/-- The decode of a descriptor's halves as a command check reads them (R368), with their flipped bits. -/
def Tile.descDecode (t : Tile) (h : Nat) : List (SheafOutcome × Nat) :=
  [2 * h, 2 * h + 1].map (fun k =>
    let f := (sget 0 t.descErr k).toNat
    ((sheafRead 0 f).2, f))

/-- An uncorrectable half of a descriptor. -/
def Tile.descEcc (t : Tile) (h : Nat) : Bool := (t.descDecode h).any (fun o => o.1 == .uncorrectable)

/-- The end of a partition's data part (R449). -/
def Part.dataEnd (q : Part) : Nat := q.base + 4096 * (256 * (q.size / 4096) / 257)

/-- A range of Granary addresses lies in the data part of one partition of a tenant (R449). -/
def Dev.inData (d : Dev) (tenant a b : Nat) : Bool :=
  d.parts.any (fun q => q.tenant == tenant && q.base ≤ a && b ≤ q.dataEnd)

/-- The descriptor check of R204, in its order. An uncorrectable half stops the table as an uncorrectable entry word does
(R188, R368; log entry 7). -/
def descBad (d : Dev) (t : Tile) (n : DescNeed) : Option Bad :=
  let q := t.descr n.h
  let mine := t.logical == some q.owner
  let loftOk := q.base % 16 == 0 && q.endAddr ≤ 2 ^ 22 && q.base < 2 ^ 22 &&
    (!isGBlock q.fmt || (q.scaleBase < 2 ^ 22 && q.scaleEnd ≤ 2 ^ 22))
  let spaceEnd := if q.space = 1 then d.top else 0x18000000000
  firstBad [
    need (!t.descEcc n.h) (stopR 0x30 0x1F n.h),
    need q.valid (skipR 0x03 n.h),
    need (q.tenant == t.fld tJOB_IDS 31 16) (stopR 0x10 0x05 n.h),
    need (q.epoch == t.fld tJOB_IDS 15 0) (stopR 0x17 0x06 n.h),
    need (q.space != 4) (skipR 0x07 n.h),
    need (fmtOk q.fmt) (skipR 0x08 n.h),
    need (n.spaces.testBit q.space && q.space < 4 && !(q.space == 0 && n.own && !mine)) (skipR 0x04 n.h),
    need (q.space != 0 || loftOk) (skipR 0x16 n.h),
    need (q.rows == 1 || q.rowBytes ≤ 16 * q.stride) (skipR 0x04 n.h),
    need (!(q.space == 1 || q.space == 2) ||
      (q.base % 16 == 0 && q.endAddr ≤ spaceEnd && q.scaleEnd ≤ spaceEnd)) (skipR 0x04 n.h),
    need (q.space != 1 || (d.inData q.tenant q.base q.endAddr &&
      (!isGBlock q.fmt || d.inData q.tenant q.scaleBase q.scaleEnd))) (skipR 0x04 n.h)]

/-! ## Elements in a byte memory -/

/-- `w` bits at bit offset `o` above byte address `a`. -/
def rdBits (m : List Host.Cell) (a o w : Nat) : Nat :=
  let b0 := o / 8
  let n := (o % 8 + w + 7) / 8
  (leNat (rdBytes m (a + b0) n)) >>> (o % 8) % 2 ^ w

/-- `w` bits written at bit offset `o` above byte address `a`. -/
def wrBits (m : List Host.Cell) (a o w v : Nat) : List Host.Cell :=
  let b0 := o / 8
  let n := (o % 8 + w + 7) / 8
  let old := leNat (rdBytes m (a + b0) n)
  wrBytes m (a + b0) (leBytes n (setBits old (o % 8 + w - 1) (o % 8) v))

/-- The element code of storage (r, c) in a memory. -/
def rdElem (m : List Host.Cell) (q : Desc) (r c : Nat) : Nat :=
  rdBits m (q.rowAddr r) (c * fmtWidth q.fmt) (fmtWidth q.fmt)

/-- The element code of storage (r, c) written. -/
def wrElem (m : List Host.Cell) (q : Desc) (r c v : Nat) : List Host.Cell :=
  wrBits m (q.rowAddr r) (c * fmtWidth q.fmt) (fmtWidth q.fmt) v

/-- The scale code of storage (r, c), signed (R45); 0 where the format has none. -/
def rdScale (m : List Host.Cell) (q : Desc) (r c : Nat) : Int :=
  if isGBlock q.fmt then sext (rdByte m (q.scaleAddr r c)).toNat 8 else 0

/-- A scale code written. -/
def wrScale (m : List Host.Cell) (q : Desc) (r c : Nat) (s : Int) : List Host.Cell :=
  wrByte m (q.scaleAddr r c) (BitVec.ofNat 8 (wrapN s 8))

/-- The storage position of logical (r, c) of a view (R201, ORIENT). -/
def Desc.storage (q : Desc) (r c : Nat) : Nat × Nat := if q.orient then (c, r) else (r, c)

/-! ## Escapes (R79, R82, R87 to R92) -/

/-- The escape area of a logical tile on this device: its base address and its slots (R88, R91). A verifier's own area
is its shadow area (R376). -/
def Dev.escArea (d : Dev) (job l : Nat) : Option (Nat × Nat) :=
  match d.physOf l with
  | some p =>
    let t := d.tile p
    if t.job = job ∧ t.job ≠ 0 then some (t.fld tESC_BASE 28 0 * 4096, 12352 + t.fld tESC_SLOTS 20 0) else none
  | none => none

/-- The escape area a tile itself writes (R88, R376). -/
def Tile.ownArea (t : Tile) : Nat := t.shadow.getD (t.fld tESC_BASE 28 0 * 4096)

/-- The Bushel in a slot of an area: of the tile that holds it on the tile, else of the Granary (R92). -/
def slotBushel (d : Dev) (t : Tile) (base slot : Nat) : Nat :=
  match (if base = t.ownArea then t.cache.find? (fun e => e.1 == slot) else none) with
  | some e => e.2.toNat
  | none => leNat (d.grnRead (base + 80 * slot) 80)

/-- A Stook word read as a value, for a tile's job: the value, and INVALID where R82 reads it as NaN. -/
def stookValue (d : Dev) (t : Tile) (w : Nat) : Val × Nat :=
  match stookKind w with
  | .value v => (v, 0)
  | .bad => (.nan false, nsINVALID)
  | .escape l slot =>
    let area := if t.logical == some l then some (t.ownArea, 12352 + t.fld tESC_SLOTS 20 0) else d.escArea t.job l
    match area with
    | some (base, n) => if slot < n then (bushelVal (slotBushel d t base slot), 0) else (.nan false, nsINVALID)
    | none => (.nan false, nsINVALID)

/-- An element read as a value with the flags the read raises (R45, R82). -/
def elemRead (d : Dev) (t : Tile) (m : List Host.Cell) (q : Desc) (r c : Nat) : Val × Nat :=
  let w := rdElem m q r c
  if q.fmt = fStook then stookValue d t w
  else
    let s := rdScale m q r c
    (elemVal q.fmt w s, flagIf (isGBlock q.fmt && s != -128 && !scaleValid s) nsSCALE_RSVD)

end Sys2Proof.Machine
end

