-- ==== Sys2Proof/Machine/Flags.lean ====
section
/-! DEFINITION. The flags of a tile (R227 to R232), rings and the flags bound to them (R244, R245), and every flag
computation a table entry makes. -/

namespace Sys2Proof.Machine

/-! ## Levels -/

/-- The level of a flag; flags 44 to 47 read 0 (R227, R249). -/
def Tile.flag (t : Tile) (f : Nat) : Bool :=
  if f < 32 then (t.rd tFLAGS_LO).testBit f
  else if f < 44 then (t.rd tFLAGS_HI).testBit (f - 32)
  else false

/-- The level of a flag written. -/
def Tile.setLevel (t : Tile) (f : Nat) (v : Bool) : Tile :=
  if f < 32 then t.setFld tFLAGS_LO f f (b2n v)
  else if f < 44 then t.setFld tFLAGS_HI (f - 32) (f - 32) (b2n v)
  else t

/-- A flag as the sequencer sees it in local tc `x`: a flag that was 1 at the end of the tc before is 1 throughout it, and
a set that reaches it in the tc is seen (R230). -/
def Tile.seen (t : Tile) (f x : Nat) : Bool :=
  match sget? t.flagTc f with
  | some r => if r.tc = x then r.a || r.s != 0 else if x < r.tc then r.a else t.flag f
  | none => t.flag f

/-- The entry the sequencer issues next. -/
def Tile.nextEntry (t : Tile) : Nat := (t.readEntry t.bank t.next).1

/-- The counted time of the next entry (R185, R198). -/
def Tile.counted (t : Tile) : Nat := t.last + max t.minDelay (max 1 (eDelay t.nextEntry))

/-- A waiting entry whose flag has the value it waits for notes the tc (R189). -/
def Tile.noteWake (t : Tile) (x : Nat) : Tile :=
  if t.state = stWAIT ∧ t.flag (eWflag t.nextEntry) = eWpol t.nextEntry then
    match t.woken with
    | none => { t with woken := some (max x t.counted) }
    | some w => { t with woken := some (min w (max x t.counted)) }
  else t

/-- The local tc of the latest event that has come before the tile's next issue: an event from outside falls in it at the
latest (R185, R189). -/
def Tile.due (t : Tile) : Option Nat :=
  if t.state = stRUN then some t.counted else if t.state = stWAIT then t.woken else none

/-- The local tc at which an event from outside that comes now reaches a tile: now, but no later than the issue that
comes next. -/
def Dev.arriveTc (d : Dev) (t : Tile) : Nat :=
  match t.due with
  | some u => min (t.toLocal d.clock.now) u
  | none => t.toLocal d.clock.now

/-! ## Rings -/

/-- A ring is configured (R250). -/
def Dev.ringValid (d : Dev) (r : Nat) : Bool :=
  match sget? d.regs (dRING_CFG + 0x40 * r) with
  | some w => w.toNat.testBit 30
  | none => false

/-- A ring register. -/
def Dev.ringReg (d : Dev) (r off : Nat) : Nat := d.rd (off + 0x40 * r)

/-- A field of RING_STATE. -/
def Dev.ringFree (d : Dev) (r : Nat) : Nat := bits (d.ringReg r dRING_STATE) 8 0
/-- FULL. -/
def Dev.ringFull (d : Dev) (r : Nat) : Nat := bits (d.ringReg r dRING_STATE) 17 9
/-- CREDIT. -/
def Dev.ringCredit (d : Dev) (r : Nat) : Nat := bits (d.ringReg r dRING_STATE) 26 18
/-- HELD. -/
def Dev.ringHeld (d : Dev) (r : Nat) : Bool := bit (d.ringReg r dRING_STATE) 27

/-- The slot of the job with an identifier. -/
def Dev.jobSlot (d : Dev) (id : Nat) : Option Nat :=
  if id = 0 then none else (d.jobs.find? (fun e => e.2.id == id)).map (·.1)

/-- The job with an identifier. -/
def Dev.jobById (d : Dev) (id : Nat) : Option Job :=
  if id = 0 then none else (d.jobs.find? (fun e => e.2.id == id)).map (·.2)

/-- This device's rank in a job. -/
def Dev.selfRank (d : Dev) (id : Nat) : Nat := match d.jobById id with | some j => j.rank | none => 0

/-- Ring r has its producer on this device. -/
def Dev.ringProdHere (d : Dev) (r : Nat) : Bool :=
  bits (d.ringReg r dRING_PEERS) 14 0 == d.selfRank (d.ringReg r dRING_JOB)
/-- Ring r has its consumer on this device. -/
def Dev.ringConsHere (d : Dev) (r : Nat) : Bool :=
  bits (d.ringReg r dRING_PEERS) 30 16 == d.selfRank (d.ringReg r dRING_JOB)

/-- Ring r's producer is logical tile l of this device, and f is its space flag. -/
def Dev.ringSf (d : Dev) (r l f : Nat) : Bool :=
  d.ringProdHere r && bits (d.ringReg r dRING_CFG) 8 0 == l && bits (d.ringReg r dRING_CFG) 23 18 == f
/-- Ring r's consumer is logical tile l of this device, and f is its data flag. -/
def Dev.ringDf (d : Dev) (r l f : Nat) : Bool :=
  d.ringConsHere r && bits (d.ringReg r dRING_CFG) 17 9 == l && bits (d.ringReg r dRING_CFG) 29 24 == f

/-- The configured rings. -/
def Dev.rings (d : Dev) : List Nat := (List.range 16).filter d.ringValid

/-- The ring whose space flag a tile's flag is. -/
def Dev.sfRing (d : Dev) (t : Tile) (f : Nat) : Option Nat :=
  match t.logical with
  | some l => d.rings.find? (fun r => d.ringSf r l f && d.ringReg r dRING_JOB == t.job)
  | none => none
/-- The ring whose data flag a tile's flag is. -/
def Dev.dfRing (d : Dev) (t : Tile) (f : Nat) : Option Nat :=
  match t.logical with
  | some l => d.rings.find? (fun r => d.ringDf r l f && d.ringReg r dRING_JOB == t.job)
  | none => none

/-- A program flag is bound to a ring (R245). -/
def Dev.bound (d : Dev) (t : Tile) (f : Nat) : Bool := (d.sfRing t f).isSome || (d.dfRing t f).isSome

/-- RING_FULL_TC grows by the tc its producer had no free slot (R247). -/
def Dev.ringFullTc (d : Dev) (r free : Nat) : Dev :=
  match sget? d.ringFullFrom r with
  | some g =>
    if free = 0 then d
    else ({ d with ringFullFrom := sdel d.ringFullFrom r } : Dev).bump (dRING_FULL_TC + 0x40 * r) (d.clock.now - g)
  | none => if free = 0 then { d with ringFullFrom := sput d.ringFullFrom r d.clock.now } else d

/-- RING_STATE written, and the levels of the ring's flags kept equal to FREE > 0 and FULL > 0 (R245). -/
def Dev.setRing (d : Dev) (r free full credit : Nat) (held : Bool) : Dev :=
  let d := d.wr (dRING_STATE + 0x40 * r) (free + full * 2 ^ 9 + credit * 2 ^ 18 + b2n held * 2 ^ 27)
  let cfg := d.ringReg r dRING_CFG
  let d := if d.ringProdHere r then
      let d := d.ringFullTc r free
      match d.physOf (bits cfg 8 0) with
      | some p => d.onTile p (fun t => (t.setLevel (bits cfg 23 18) (free != 0)).noteWake (d.arriveTc t))
      | none => d
    else d
  if d.ringConsHere r then
    match d.physOf (bits cfg 17 9) with
    | some p => d.onTile p (fun t => (t.setLevel (bits cfg 29 24) (full != 0)).noteWake (d.arriveTc t))
    | none => d
  else d

/-! ## Set, consume, clear (R231) -/

/-- A flag's record for local tc `x`: kept within the tc, else opened with the level now. -/
def Tile.flagRec (t : Tile) (f x : Nat) : FlagTc :=
  match sget? t.flagTc f with
  | some r => if x ≤ r.tc then r else ⟨x, t.flag f, 0, false, false, none⟩
  | none => ⟨x, t.flag f, 0, false, false, none⟩

/-- The level, the merges and the discarded level that one tc's events give (R231). -/
def FlagTc.outcome (r : FlagTc) : Bool × Nat × Nat :=
  let a := b2n r.a
  let takeOld := if r.k then a else 0
  let takeNew := if r.k then 1 - a else 0
  let old := a - takeOld
  let disc := if r.x then old else 0
  let pend := (old - disc) + r.s - takeNew
  (pend > 0, pend - 1, disc)

/-- A flag's record replaced: the level follows, and on a program flag the counts grow by what is new (R231). -/
def Tile.putFlag (t : Tile) (f : Nat) (old new : FlagTc) : Tile :=
  let o := old.outcome
  let n := new.outcome
  let t := { t with flagTc := sput t.flagTc f new }
  let t := t.setLevel f n.1
  if f < 40 then
    let c := t.rd (tFLAG_COUNT + 4 * f)
    let sets := (c % 2 ^ 16 + (new.s - old.s)) % 2 ^ 16
    let takes := (c / 2 ^ 16 + (b2n new.k - b2n old.k) + (n.2.2 - o.2.2)) % 2 ^ 16
    t.wr (tFLAG_COUNT + 4 * f) (sets + takes * 2 ^ 16)
  else t

/-- The OVERSET bit of a program flag (R232). -/
def Tile.overset (t : Tile) (f : Nat) : Bool :=
  if f < 32 then (t.rd tOVERSET_LO).testBit f else (t.rd tOVERSET_HI).testBit (f - 32)

/-- The OVERSET bit of a program flag written. -/
def Tile.putOverset (t : Tile) (f : Nat) (v : Bool) : Tile :=
  if f < 32 then t.setFld tOVERSET_LO f f (b2n v) else t.setFld tOVERSET_HI (f - 32) (f - 32) (b2n v)

/-- A merge of the tc on a program flag: its OVERSET bit, FLAG_STATUS.OVERSET and one log entry (R231, R232). -/
def Tile.mergeLogged (t : Tile) (stamp f x mark : Nat) (r : FlagTc) : Tile :=
  let n := t.fld tLOG_COUNT 6 0
  let r := { r with logged := some (n, t.overset f, bit (t.rd tSEQ_STATUS) 8) }
  let t := { t with flagTc := sput t.flagTc f r }
  ((t.putOverset f true).orBits tFLAG_STATUS 1).log stamp x mark 0x00 0x42 f

/-- Log entry `n` taken out: the entries after it move up by one (R224). -/
def Tile.unlog (t : Tile) (n : Nat) (illegal : Bool) : Tile :=
  let c := t.fld tLOG_COUNT 6 0
  if n ≥ 64 then t.wr tLOG_LOST (t.rd tLOG_LOST - 1)
  else if n ≥ c then t
  else
    let t := (List.range (8 * (c - 1 - n))).foldl (fun (t : Tile) w =>
      t.wr (tLOG + 32 * n + 4 * w) (t.rd (tLOG + 32 * (n + 1) + 4 * w))) t
    let t := (List.range 8).foldl (fun (t : Tile) w => t.wr (tLOG + 32 * (c - 1) + 4 * w) 0) t
    let t := t.setFld tLOG_COUNT 6 0 (c - 1)
    if n + 1 = c then t.setFld tSEQ_STATUS 8 8 (b2n illegal) else t

/-- A merge that a later event of the same tc undoes leaves no mark: R231 counts merges over all of the tc's events. -/
def Tile.mergeUndone (t : Tile) (f : Nat) (r : FlagTc) : Tile :=
  match r.logged with
  | some (n, overset, illegal) =>
    if r.outcome.2.1 = 0 then
      let t := { t with flagTc := sput t.flagTc f { r with logged := none } }
      let t := { t with flagTc := t.flagTc.map (fun (e : Nat × FlagTc) => (e.1,
        { e.2 with logged := e.2.logged.map (fun (l : Nat × Bool × Bool) => (if n < l.1 then l.1 - 1 else l.1, l.2)) })) }
      let t := (t.putOverset f overset).unlog n illegal
      t.setFld tFLAG_STATUS 0 0 (b2n (t.rd tOVERSET_LO != 0 || t.rd tOVERSET_HI != 0))
    else t
  | none => t

/-- A set reaches a flag at local tc `x`; a tc in which sets merge on a program flag is logged once, with the mark of the
tile's own setting command, else of SEQ_PC (R231, R232). -/
def Tile.setFlag (t : Tile) (stamp f x mark : Nat) : Tile :=
  let r := t.flagRec f x
  let r' := { r with s := r.s + 1 }
  let t' := (t.putFlag f r r').noteWake x
  if f < 40 && r'.outcome.2.1 > r.outcome.2.1 && (r'.logged.isNone || x < r.tc) then t'.mergeLogged stamp f x mark r' else t'

/-- A wait consumes a flag at local tc `x` (R231). -/
def Tile.consume (t : Tile) (f x : Nat) : Tile :=
  let r := t.flagRec f x
  (t.putFlag f r { r with k := true }).mergeUndone f { r with k := true }

/-- FLAG_CLR names a flag at local tc `x` (R231). -/
def Tile.clearFlag (t : Tile) (f x : Nat) : Tile :=
  let r := t.flagRec f x
  (t.putFlag f r { r with x := true }).mergeUndone f { r with x := true }

/-- The tile leaves its barrier arrival when it consumes flag 40 (R239). -/
def Tile.leaveBarrier (t : Tile) : Tile :=
  if t.fld tBAR_TILE 1 1 = 1 then (t.setFld tBAR_TILE 1 0 0).bump tBAR_LEFT 1 else t

/-- A transfer whose SFLAG a wait consumed is no longer outstanding (R218, R309). -/
def Tile.retireXfer (t : Tile) (f : Nat) : Tile :=
  let hit (x : Xfer) : Bool := x.out && x.flag == some f
  let n := (t.xfers.filter (fun x => hit x && x.kind != .coll)).length
  let xs := t.xfers.map (fun x => if hit x then { x with out := false } else x)
  let t := { t with xfers := xs.filter (fun x => x.running || x.out) }
  if n = 0 then t else t.setFld tDMA_OUTSTANDING 4 0 (t.fld tDMA_OUTSTANDING 4 0 - n)

/-- A slot goes back to a ring's producer, in class 0 (R245). -/
def Dev.returnSlot (d : Dev) (r : Nat) : Dev :=
  let job := d.ringReg r dRING_JOB
  if d.ringProdHere r then d.innerMsg job (.slotReturn r)
  else d.message job (bits (d.ringReg r dRING_PEERS) 14 0) 0 (bits (d.ringReg r dRING_CFG) 17 9) (.slotReturn r)

/-- A consumption by a wait: of a ring's space flag it takes a free slot, of its data flag it pops a slot and returns
the slot held (R245); of any other flag R231 applies. -/
def Dev.consumeFlag (d : Dev) (p f x : Nat) : Dev :=
  let t := d.tile p
  match d.sfRing t f with
  | some r => d.setRing r (d.ringFree r - 1) (d.ringFull r) (d.ringCredit r + 1) (d.ringHeld r)
  | none =>
    match d.dfRing t f with
    | some r =>
      let d' := if d.ringHeld r then d.returnSlot r else d
      (d'.setRing r (d.ringFree r) (d.ringFull r - 1) (d.ringCredit r) true).bump (dRING_POPS + 0x40 * r) 1
    | none =>
      let t := t.consume f x
      let t := if f = 40 then t.leaveBarrier else t
      d.setTile p (t.retireXfer f)

/-- FLAG_CLR of one flag (R231, R245). -/
def Dev.clearFlag (d : Dev) (p f x : Nat) : Dev :=
  let t := d.tile p
  match d.sfRing t f with
  | some _ => d
  | none =>
    match d.dfRing t f with
    | some r =>
      if d.ringHeld r then
        (d.returnSlot r).setRing r (d.ringFree r) (d.ringFull r)
          (d.ringCredit r) false
      else d
    | none => d.setTile p (t.clearFlag f x)

/-! ## The flag fields of an entry (R228, R245) -/

/-- The check of an entry's own flag fields (R220 step 2). -/
def flagFieldsBad (d : Dev) (t : Tile) (e : Nat) : Option Bad :=
  firstBad [
    need (!(ePen e && 44 ≤ ePflag e)) (skipR 0x40 (ePflag e)),
    need (!(eWen e && 44 ≤ eWflag e)) (skipR 0x40 (eWflag e)),
    need (!(eWen e && eWclr e && eWflag e == 43)) (skipR 0x40 43),
    need (!(eSen e && 40 ≤ eSflag e)) (skipR 0x40 (eSflag e)),
    need (!(eSen e && d.bound t (eSflag e))) (skipR 0x41 (eSflag e))]

/-- The wait of an entry is satisfied in local tc `x` (R189). -/
def waitMet (t : Tile) (e x : Nat) : Bool := !eWen e || t.seen (eWflag e) x == eWpol e

/-- The predicate of an entry holds in local tc `x` (R192). -/
def predMet (t : Tile) (e x : Nat) : Bool := !ePen e || t.seen (ePflag e) x == ePpol e

/-- Drift of a program flag (R243): SETS − TAKES − level, modulo 2^16. -/
def Tile.drift (t : Tile) (f : Nat) : Nat :=
  let c := t.rd (tFLAG_COUNT + 4 * f)
  (c % 2 ^ 16 + 2 ^ 17 - c / 2 ^ 16 - b2n (t.flag f)) % 2 ^ 16

/-- Drift re-alignment of one flag at an aligning barrier's release (R243). -/
def Tile.realign (t : Tile) (stamp x f : Nat) : Tile :=
  let dr := t.drift f
  let t := if dr = 0 then t
    else (t.log stamp x t.pcMark 0x00 0x43 (f + dr * 2 ^ 16)).orBits tFLAG_STATUS 2
  let t := { t with flagTc := sdel t.flagTc f }
  t.wr (tFLAG_COUNT + 4 * f) (b2n (t.flag f))

end Sys2Proof.Machine
end

