-- ==== Sys2Proof/Machine/Seq.lean ====
section
/-! DEFINITION. The sequencer: how an entry of a command table comes to issue (R184 to R195, R220), and the sequencer
commands (R207 to R209). -/

namespace Sys2Proof.Machine

/-- An entry at its issue: the physical tile, the local issue tc, the entry's position (index + bank × 4,096) and its 256 bits. -/
structure Issue where
  p : Nat
  x : Nat
  i : Nat
  e : Nat
  deriving DecidableEq, Repr

/-- The mark of the entry in a log (R223). -/
def Issue.mark (q : Issue) : Nat := markOf q.i (eOpcode q.e)

/-- The position of the next entry. -/
def Tile.nextPos (t : Tile) : Nat := t.next + t.bank * 4096

/-- The opcodes of R206. -/
def isOpcode (o : Nat) : Bool :=
  [0x00, 0x01, 0x02, 0x03, 0x04, 0x05, 0x06, 0x07, 0x08, 0x09, 0x0A, 0x10, 0x11, 0x20, 0x21, 0x22, 0x30, 0x31, 0x32,
   0x33, 0x34, 0x35, 0x36, 0x37, 0x38, 0x40, 0x41, 0x50, 0x51, 0x52, 0x53].contains o

/-- The row an entry's opcode belongs to; a reserved opcode issues in the row of NOP, and is skipped (R206). -/
def rowOf (o : Nat) : Nat := if isOpcode o then o else 0

/-- No event of the tile comes before local tc `x`: no flag of an engine command is due by then, and no slot fetch has
frozen the tile. -/
def Tile.clearTo (t : Tile) (x : Nat) : Bool :=
  t.eng.all (fun c => c.flags.isEmpty || x < c.done) && t.fetch.all (fun f => x < f.start)

/-- The local tc at which the next entry issues or begins to wait, if it belongs to opcode row `op`. -/
def Tile.mayIssue (t : Tile) (op : Nat) : Option Nat :=
  match t.due with
  | some x =>
    if t.next < t.nEntries t.bank && rowOf (eOpcode t.nextEntry) == op && t.clearTo x then some x else none
  | none => none

/-- The log's PTP time of local tc `x` (R223). -/
def Dev.stampOf (d : Dev) (p x : Nat) : Nat := d.stampAt (d.tile p) x

/-- A run of the job's step abandoned for a cause; state to be rebuilt where no run is under way (R36, R371). -/
def Job.abandon (j : Job) (cause : Nat) : Job :=
  if j.running then { j with abandoned := true, cause := cause } else { j with rebuild := true }

/-- A job's run of its step is abandoned (R36, R371). -/
def Dev.abandon (d : Dev) (job : Nat) : Dev :=
  { d with jobs := d.jobs.map (fun j => if j.2.id = job && job != 0 then (j.1, j.2.abandon 0x30) else j) }

/-- A refusal logged; one that stops the table also stops it (R194, R221 to R223); an uncorrectable word abandons the run (R371). -/
def Dev.refuse (d : Dev) (q : Issue) (b : Bad) : Dev :=
  let st := d.stampOf q.p q.x
  let d := if b.status = 0x30 then d.abandon (d.tile q.p).job else d
  d.onTile q.p (fun t =>
    let t := t.log st q.x q.mark b.status b.reason b.detail
    let t := if b.reason = 0x1D then t.orBits tSEQ_STATUS 0x200 else t
    let t := if b.reason = 0x20 then t.orBits tSEQ_STATUS 0x400 else t
    let t := if b.reason = 0x44 then t.orBits tFLAG_STATUS 16 else t
    if b.stops then t.stopAt q.i b.status else t)

/-- The table stops where the next entry would lie at or beyond ENTRIES (R550). The log names the last entry issued, or
entry 0; an entry that the bank does not hold has undefined contents (R200), so its opcode byte is a free value. -/
def Dev.rangeStop (d : Dev) (p : Nat) : Dev :=
  let t := d.tile p
  if t.state = stRUN ∧ t.nEntries t.bank ≤ t.next then
    let x := t.last + max 1 t.minDelay
    let i := if t.issuedAny then t.fld tSEQ_PC 11 0 else 0
    let b := if t.issuedAny then t.fld tSEQ_PC 12 12 else t.bank
    let op := if i < t.nEntries b then eOpcode (t.entry b i) else Config.freeNat d.freeCtr % 256
    let st := d.stampAt t x
    { d.setTile p ((t.log st x (markOf (i + b * 4096) op) 0x10 0x22 0).stopAt (i + b * 4096) 0x10) with freeCtr := d.freeCtr + 1 }
  else d

/-- A tile stopped by a refused barrier round stops at its current or next entry (R241). -/
def Dev.roundStop (d : Dev) (p : Nat) : Dev :=
  let t := d.tile p
  if t.barStop then
    let x := match t.due with
      | some u => u
      | none => t.last
    let st := d.stampAt t x
    d.setTile p (({ t with barStop := false } : Tile).stop st x t.nextPos (eOpcode t.nextEntry) 0x18 0x45
      (t.fld tBAR_TILE 7 2))
  else d

/-- The decode of the two words of the entry reported (R188, R368). -/
def Dev.entryReports (d : Dev) (p b i : Nat) : Dev :=
  let t := d.tile p
  (t.readEntry b i).2.foldl (fun (d : Dev) o =>
    d.codeReport o.1 o.2 { type := 0, cls := 3, die := dieOfTile p, unit := p, sub := b, job := t.job,
                           step := t.rd tTHR_STEP, op := 0xE0 + i * 2 ^ 8 + b * 2 ^ 20, tile := t.logical.getD 0x1FF }) d

/-- An uncorrectable word of the entry (R188). -/
def Tile.entryEcc (t : Tile) : Bool := (t.readEntry t.bank t.next).2.any (fun o => o.1 == .uncorrectable)

/-- What issuing an entry does before its command is looked at: the counters, the stall counters of a late wait, and the
next entry (R185, R189, R225). Engine commands that are done and set no flag are let go. -/
def Tile.issued (t : Tile) (x : Nat) : Tile :=
  let e := t.nextEntry
  let late := x - t.counted
  let t := if late > 0 ∧ eWen e then
      (t.bump (tSTALL_TC + 8 * eStall e) late).bump (tSTALL_N + 8 * eStall e) 1
    else t
  let t := (t.bump tISSUED 1).setSeqTc x
  let t := t.wr tSEQ_PC (t.next + t.bank * 4096)
  let eng := t.eng.filter (fun c => !c.flags.isEmpty || x < c.done || x < c.accept)
  { t.setState stRUN with next := t.next + 1, last := x, minDelay := 1, woken := none, issuedAny := true, eng := eng }

/-- An outcome noted in the record of entries issued (R377): 0 issued, 1 skipped by its predicate, 2 refused. -/
def Tile.note (t : Tile) (i o : Nat) : Tile := { t with trace := t.trace ++ [(i, o)] }

/-- The handles of an opcode's row (R206), read at a command check. -/
def opHandles (e : Nat) : List Nat :=
  let o := eOpcode e
  if [0x06, 0x07, 0x11, 0x37].contains o then [eH0 e]
  else if [0x10, 0x35, 0x40, 0x41, 0x52].contains o then [eH0 e, eH1 e]
  else if [0x20, 0x21, 0x22, 0x30, 0x31, 0x36, 0x53].contains o then [eH0 e, eH1 e, eH2 e]
  else if [0x32].contains o then [eH0 e, eH2 e]
  else if [0x33, 0x38].contains o then [eH2 e]
  else []

/-- The decode of the descriptors a command check reads, reported (R368). -/
def Dev.descReports (d : Dev) (p e i : Nat) : Dev :=
  let t := d.tile p
  (opHandles e).foldl (fun (d : Dev) h =>
    (t.descDecode h).foldl (fun (d : Dev) o =>
      d.codeReport o.1 o.2 { type := 0, cls := 3, die := dieOfTile p, unit := p, sub := t.bank, job := t.job,
                             step := t.rd tTHR_STEP, op := eOpcode e + i * 2 ^ 8,
                             tile := t.logical.getD 0x1FF }) d) d

/-- The entry issues at local tc `x` (R189, R192, R220): its wait's flag is consumed, then come the predicate, the
command's checks, and its effect. -/
def Dev.issueAt (chk : Dev → Issue → Option Bad) (eff : Dev → Issue → Dev) (d : Dev) (p x : Nat) : Dev :=
  let t := d.tile p
  let e := t.nextEntry
  let q : Issue := ⟨p, x, t.nextPos, e⟩
  let d := d.advanceTo (t.toGlobal x)
  let d := if eWen e && eWclr e && eWpol e then d.consumeFlag p (eWflag e) x else d
  let d := d.onTile p (fun t => t.issued x)
  if !predMet (d.tile p) e x then
    d.onTile p (fun t => (t.bump tPRED_SKIP 1).note q.i 1)
  else
    let d := d.descReports p e q.i
    match chk d q with
    | some b => (d.onTile p (fun t => t.note q.i 2)).refuse q b
    | none => eff (d.onTile p (fun t => t.note q.i 0)) q

/-- The next entry at its counted time `x`: its words, its flag fields, then its wait (R188, R189, R220). -/
def Dev.atCounted (chk : Dev → Issue → Option Bad) (eff : Dev → Issue → Dev) (d : Dev) (p x : Nat) : Dev :=
  let t := d.tile p
  let e := t.nextEntry
  let q : Issue := ⟨p, x, t.nextPos, e⟩
  let d := d.entryReports p t.bank t.next
  if t.entryEcc then
    (d.advanceTo (t.toGlobal x)).refuse q ⟨0x30, 0x1F, 0, true⟩
  else
    match flagFieldsBad d t e with
    | some b =>
      let d := (d.advanceTo (t.toGlobal x)).onTile p (fun t => (t.issued x).note q.i 2)
      d.refuse q b
    | none =>
      if waitMet t e x then d.issueAt chk eff p x
      else (d.advanceTo (t.toGlobal x)).onTile p (fun t => t.setState stWAIT)

/-- The events of issuing the next entry: at its counted time in RUN, at the end of its wait in WAIT. -/
def Dev.sequence (chk : Dev → Issue → Option Bad) (eff : Dev → Issue → Dev) (d : Dev) (p x : Nat) : Dev :=
  let d := if (d.tile p).state = stWAIT then d.issueAt chk eff p x else d.atCounted chk eff p x
  (d.rangeStop p).roundStop p

/-- The command of opcode row `op` at tile `p`: the next entry of its table, if it is of that row and nothing comes
before it. -/
def issueCommand (op : Nat) (chk : Dev → Issue → Option Bad) (eff : Dev → Issue → Dev) (p : Nat) (s : State) :
    Host.Outcome State Fault Refusal :=
  if p < 272 then
    match (s.dev.tile p).mayIssue op with
    | some x => .next { s with dev := s.dev.sequence chk eff p x }
    | none => .fault .notNextEntry
  else .fault .noSuchUnit

/-- Completion of a sequencer command at its issue tc: SFLAG (R191, R206). -/
def Dev.setOwnFlag (d : Dev) (q : Issue) : Dev :=
  if eSen q.e then
    let st := d.stampOf q.p q.x
    d.onTile q.p (fun t => t.setFlag st (eSflag q.e) q.x q.mark)
  else d

/-- A tile changed by a sequencer command, which completes at its issue. -/
def Dev.seqDo (d : Dev) (q : Issue) (f : Tile → Tile) : Dev := (d.onTile q.p f).setOwnFlag q

/-- No check beyond the opcode's. -/
def noCheck (_ : Dev) (_ : Issue) : Option Bad := none

/-! ## The sequencer commands -/

/-- NOP's row takes the reserved opcodes, which are skipped with OPCODE (R206). -/
def nopCheck (_ : Dev) (q : Issue) : Option Bad := need (isOpcode (eOpcode q.e)) (skipR 0x01 0)

/-- NOP (R206). -/
def execNop (p : Nat) (s : State) : Host.Outcome State Fault Refusal :=
  issueCommand 0x00 nopCheck (fun d q => d.seqDo q id) p s

/-- The Winnower hold flag of a sampled tile, from its END until its verifier has compared its last word (R377). -/
def Dev.winnowerHold (d : Dev) (p : Nat) : Dev :=
  if d.mirrors.any (fun m => m.phys == p && m.state != 3) then d.onTile p (fun t => t.setLevel 43 true) else d

/-- END (R193): DONE. -/
def execEndTable (p : Nat) (s : State) : Host.Outcome State Fault Refusal :=
  issueCommand 0x01 noCheck (fun d q => ((d.setOwnFlag q).onTile q.p (fun t => t.setState stDONE)).winnowerHold q.p) p s

/-- LOOP_SET with a count of 0 is skipped (R208). -/
def loopSetCheck (_ : Dev) (q : Issue) : Option Bad := need (eImm q.e 31 0 != 0) (skipR 0x02 112)

/-- LOOP_SET (R208). -/
def execLoopSet (p : Nat) (s : State) : Host.Outcome State Fault Refusal :=
  issueCommand 0x02 loopSetCheck
    (fun d q => d.seqDo q (fun t => t.wr (tLOOP + 4 * eArgs q.e 1 0) (eImm q.e 31 0))) p s

/-- LOOP_BACK to a target above its own index is skipped (R208). -/
def loopBackCheck (_ : Dev) (q : Issue) : Option Bad := need (eArgs q.e 13 2 ≤ q.i % 4096) (skipR 0x02 2)

/-- The counter's step, and the branch while the result is nonzero (R208). -/
def Tile.loopBack (t : Tile) (c target : Nat) : Tile :=
  let n := t.rd (tLOOP + 4 * c) - 1
  let t := t.wr (tLOOP + 4 * c) n
  if n = 0 then t else { t with next := target }

/-- LOOP_BACK (R208). -/
def execLoopBack (p : Nat) (s : State) : Host.Outcome State Fault Refusal :=
  issueCommand 0x03 loopBackCheck
    (fun d q => d.seqDo q (fun t => t.loopBack (eArgs q.e 1 0) (eArgs q.e 13 2))) p s

/-- The banks of a sequencer switched: the old bank's READY clears (R198, R200). -/
def Tile.switchBank (t : Tile) : Tile :=
  let b := t.bank
  (t.setFld tSEQ_STATUS 3 3 (1 - b)).setReady b false

/-- BANK_SWITCH while the inactive bank is not READY is skipped (R198). -/
def bankSwitchCheck (d : Dev) (q : Issue) : Option Bad :=
  let t := d.tile q.p
  need (t.ready (1 - t.bank)) (skipR 0x1A (1 - t.bank))

/-- BANK_SWITCH's effect (R198): entry 0 of the other bank is next, at least 8 tc on, and flag 41 is set. -/
def Dev.bankSwitch (d : Dev) (q : Issue) : Dev :=
  let st := d.stampOf q.p q.x
  d.seqDo q (fun t =>
    let t := { t.switchBank with next := 0, minDelay := 8 }
    t.setFlag st 41 q.x q.mark)

/-- BANK_SWITCH (R198). -/
def execBankSwitch (p : Nat) (s : State) : Host.Outcome State Fault Refusal :=
  issueCommand 0x04 bankSwitchCheck (fun d q => d.bankSwitch q) p s

/-- FLAG_CLR's effect: every named program flag (R207, R231, R245). -/
def Dev.clearFlags (d : Dev) (q : Issue) : Dev :=
  ((List.range 40).filter (fun f => bit (eImm q.e 39 0) f)).foldl (fun (d : Dev) f => d.clearFlag q.p f q.x) d

/-- FLAG_CLR (R231). -/
def execFlagClr (p : Nat) (s : State) : Host.Outcome State Fault Refusal :=
  issueCommand 0x05 noCheck (fun d q => (d.clearFlags q).setOwnFlag q) p s

/-- The bits of a descriptor that a program does not write: EPOCH, TENANT, VALID (R205). -/
def descKeep : Nat := ((2 ^ 32 - 1) <<< 214) + 2 ^ 255

/-- A descriptor written by a program: EPOCH, TENANT and VALID stay (R205). Rewriting a word gives it fresh check bits. -/
def Tile.progDesc (t : Tile) (h w : Nat) : Tile :=
  let old := (sget 0 t.desc h).toNat
  let new := (w % 2 ^ 256) - ((w % 2 ^ 256) &&& descKeep) + (old &&& descKeep)
  { t with desc := sset 0 t.desc h (BitVec.ofNat 256 new)
           descErr := sdel (sdel t.descErr (2 * h)) (2 * h + 1) }

/-- DESC_SET and DESC_STEP use their descriptor without a check of what it holds (R205, R220). -/
def descSetCheck (_ : Dev) (_ : Issue) : Option Bad := none

/-- DESC_SET (R205, R207): one 64-bit word of descriptor H0. -/
def execDescSet (p : Nat) (s : State) : Host.Outcome State Fault Refusal :=
  issueCommand 0x06 descSetCheck
    (fun d q => d.seqDo q (fun t =>
      let w := eArgs q.e 1 0
      t.progDesc (eH0 q.e) (setBits (sget 0 t.desc (eH0 q.e)).toNat (64 * w + 63) (64 * w) (eImm q.e 63 0)))) p s

/-- A field of a word stepped with wraparound within its width (R208). -/
def stepField (w hi lo : Nat) (by_ : Int) : Nat :=
  setBits w hi lo (wrapN ((bits w hi lo : Int) + by_) (hi + 1 - lo))

/-- DESC_STEP's new descriptor (R207, R208). -/
def stepDesc (w e : Nat) : Nat :=
  stepField (stepField (stepField w 89 49 (sext (eArgs e 23 0) 24)) 48 8 (sext (eImm e 31 0) 32)) 189 150
    (sext (eImm e 63 32) 32)

/-- DESC_STEP (R208). -/
def execDescStep (p : Nat) (s : State) : Host.Outcome State Fault Refusal :=
  issueCommand 0x07 descSetCheck
    (fun d q => d.seqDo q (fun t => t.progDesc (eH0 q.e) (stepDesc (sget 0 t.desc (eH0 q.e)).toNat q.e))) p s

/-- ESC_RESET (R89). -/
def execEscReset (p : Nat) (s : State) : Host.Outcome State Fault Refusal :=
  issueCommand 0x09 noCheck (fun d q => d.seqDo q (fun t => t.setFld tESC_NEXT 20 0 (eImm q.e 20 0))) p s

/-! ## Trigger, timeout, completion -/

/-- What a trigger leaves (R185, R193, R225): entry 0 of the active bank is next, and the counters are cleared. -/
def Tile.trigger (t : Tile) (x : Nat) : Tile :=
  let t := ((((((t.wr tISSUED 0).wr tPRED_SKIP 0).wr tLOOP 0).wr (tLOOP + 4) 0).wr (tLOOP + 8) 0).wr (tLOOP + 12) 0)
  let t := (t.wr tSEQ_TC_LO 0).wr tSEQ_TC_HI 0
  { t.setState stRUN with next := 0, last := x, t0 := x, minDelay := 1, woken := none, issuedAny := false, trace := [] }

/-- The trigger (R185). The Reeve triggers an enabled tile that is idle, or done at the release of a step, or a stopped
one after its reset, which leaves it idle (R194). -/
def Dev.triggerTile (d : Dev) (p : Nat) : Dev :=
  (d.onTile p (fun t => t.trigger (t.toLocal d.clock.now))).rangeStop p

/-- TILE_TRIGGER (R185). -/
def execTileTrigger (p : Nat) (s : State) : Host.Outcome State Fault Refusal :=
  if p < 272 then
    let t := s.dev.tile p
    if t.enabled && t.state == stIDLE then .next { s with dev := s.dev.triggerTile p }
    else .fault .conditionNotMet
  else .fault .noSuchUnit

/-- WAIT_TIMEOUT's effect (R190). -/
def Dev.waitTimeout (d : Dev) (p : Nat) : Dev :=
  let t := d.tile p
  let x := t.counted + t.fld tSEQ_CTRL 7 0 * 2 ^ 24
  let d := d.advanceTo (t.toGlobal x)
  d.refuse ⟨p, x, t.nextPos, t.nextEntry⟩ ⟨0x40, 0x20, eWflag t.nextEntry, true⟩

/-- WAIT_TIMEOUT (R190): the wait has gone on for WAIT_LIMIT units, and nothing of the tile comes before. -/
def execWaitTimeout (p : Nat) (s : State) : Host.Outcome State Fault Refusal :=
  if p < 272 then
    let t := s.dev.tile p
    if t.state = stWAIT ∧ t.woken = none ∧ t.fld tSEQ_CTRL 7 0 ≠ 0 ∧
        t.clearTo (t.counted + t.fld tSEQ_CTRL 7 0 * 2 ^ 24) = true then
      .next { s with dev := s.dev.waitTimeout p }
    else .fault .conditionNotMet
  else .fault .noSuchUnit

/-- The engine a code names. -/
def engOf (n : Nat) : Option Eng :=
  match n with
  | 0 => some .array
  | 1 => some .out
  | 2 => some .vu
  | 3 => some .dma
  | 4 => some .bn
  | _ => none

/-- The flags of a completed command set at its completion tc (R191, R230). -/
def Dev.setFlagsAt (d : Dev) (p x mark : Nat) (fs : List Nat) : Dev :=
  fs.foldl (fun (d : Dev) f =>
    let st := d.stampOf p x
    d.onTile p (fun t => t.setFlag st f x mark)) d

/-- A command of an engine completes (R191). -/
def Dev.complete (d : Dev) (p : Nat) (c : EngCmd) : Dev :=
  let t := d.tile p
  let d := (d.advanceTo (t.toGlobal c.done)).onTile p (fun t => { t with eng := t.eng.erase c })
  d.setFlagsAt p c.done c.entry c.flags

/-- A completion comes next: no flagged completion of the tile comes before it, and no issue does. -/
def Tile.completesNext (t : Tile) (c : EngCmd) : Bool :=
  t.eng.all (fun c' => c'.flags.isEmpty || c.done ≤ c'.done) && t.fetch.all (fun f => c.done < f.start) &&
  (match t.due with
   | some u => c.done ≤ u
   | none => true)

/-- COMMAND_COMPLETE (R191): the engine's command that completes next, where no other event of the tile comes before; a
command of a short latency completes before an older one of a long latency (R147). -/
def execCommandComplete (p eng : Nat) (s : State) : Host.Outcome State Fault Refusal :=
  if p < 272 then
    match engOf eng with
    | some g =>
      match (s.dev.tile p).eng.find? (fun c => c.eng == g && (s.dev.tile p).completesNext c) with
      | some c => .next { s with dev := s.dev.complete p c }
      | none =>
        if (s.dev.tile p).eng.any (fun c => c.eng == g) then .fault .notNextEntry else .fault .nothingInFlight
    | none => .fault .noSuchUnit
  else .fault .noSuchUnit

end Sys2Proof.Machine
end

