-- ==== Sys2Proof/Machine/Engine.lean ====
section
/-! DEFINITION. What every engine command has in common: its checks against fused tiles and busy engines (R152, R204, R216,
R222), and its claim on the banks it uses (R162 to R168). -/

namespace Sys2Proof.Machine

/-- Fused engines (R222): a descriptor in use names a tile beyond the grade. -/
def fusedBad (d : Dev) (t : Tile) (hs : List Nat) : Option Bad :=
  firstBad (hs.map (fun h =>
    let q := t.descr h
    need (!(q.valid && q.space == 0 && d.gradeTiles ≤ q.owner)) (stopR 0x12 0x1D q.owner)))

/-- The descriptors of an array, output-stage or vector command: each in the tile's own Loft (R204). -/
def ownBad (d : Dev) (t : Tile) (hs : List Nat) : Option Bad := firstBad (hs.map (fun h => descBad d t ⟨h, 1, true⟩))

/-- The engine does not accept the command (R152). -/
def busyBad (t : Tile) (g : Eng) (x : Nat) : Option Bad :=
  need (t.accepts g x && t.loftWait.all (fun w => w.eng != g)) (skipR 0x0E 0)

/-- Masks that share no bank (R216). -/
def disjointMasks : List Nat → Nat → Bool
  | [], _ => true
  | m :: r, acc => m &&& acc == 0 && disjointMasks r (m ||| acc)

/-- The check of R216. -/
def shareBad (ms : List Nat) : Option Bad := need (disjointMasks ms 0) (skipR 0x1B 0)

/-- A use of banks by a master from a tc on. -/
structure Use where
  master : Nat
  banks : Nat
  since : Nat
  deriving DecidableEq, Repr

/-- Every bank of a mask has an owner. -/
def Tile.owns (t : Tile) (m banks : Nat) : Bool := (banksOf banks).all (fun b => t.owner b == m)

/-- The first use whose master does not own its banks. -/
def Tile.blocked (t : Tile) (us : List Use) : Option Use := us.find? (fun u => !t.owns u.master u.banks)

/-- How long a use is held after a handover (R164). -/
def Tile.useHold (t : Tile) (u : Use) : Nat := (banksOf u.banks).foldl (fun h b => max h (t.hold b u.since)) 0

/-- The holds of a command's uses, counted by master (R164). -/
def Tile.chargeHolds (t : Tile) (us : List Use) : Tile :=
  us.foldl (fun (t : Tile) u => t.bump (tLOFT_WAIT_TC + 4 * u.master) (t.useHold u)) t

/-- A command's start is moved by the longest hold of its uses. -/
def Tile.shift (t : Tile) (us : List Use) : Nat := us.foldl (fun h u => max h (t.useHold u)) 0

/-- The handles of the operands a command of an engine reads (R206). -/
def srcHandles (e : Nat) : List Nat :=
  let o := eOpcode e
  if [0x10, 0x30, 0x31, 0x35, 0x36].contains o then [eH0 e, eH1 e]
  else if [0x11, 0x32, 0x37].contains o then [eH0 e]
  else if [0x20, 0x21].contains o then [eH1 e, eH2 e]
  else if [0x22].contains o then [eH2 e]
  else []

/-- Word w of a Loft lies in a descriptor's elements or scale codes. -/
def Desc.hasWord (q : Desc) (w : Nat) : Bool :=
  (List.range q.rows).any (fun r => q.rowAddr r / 16 ≤ w && 16 * w < q.rowAddr r + q.rowBytes) ||
  (isGBlock q.fmt && q.scaleBase / 16 ≤ w && 16 * w < q.scaleBase + q.rows * q.blocks)

/-- A Loft word a program reads with flipped bits (R160, R368, R370, R371): the decode is reported; a correction counts
against its row, an uncorrectable word abandons the run of the job's step. -/
def Dev.loftReport (d : Dev) (p op w : Nat) : Dev :=
  let t := d.tile p
  let f := (sget 0 t.loftErr w).toNat
  let o := (sheafRead 0 f).2
  let d := d.codeReport o f { type := 0, cls := 2, die := dieOfTile p, unit := p, sub := bankOf (16 * w), job := t.job,
                              step := t.rd tTHR_STEP, op := op, addr := 16 * w, tile := t.logical.getD 0x1FF }
  match o with
  | .clean => d
  | .corrected _ => d.onTile p (fun t => { t with loftCe := sset 0 t.loftCe (w / 32) (sget 0 t.loftCe (w / 32) + 1) })
  | .uncorrectable =>
    (d.onTile p (fun t => { t with loftCe := sset 0 t.loftCe (w / 32) (sget 0 t.loftCe (w / 32) + 256) })).abandon t.job

/-- The words with flipped bits that a command's operands read through the banks it uses. -/
def Dev.loftReports (d : Dev) (us : List Use) (q : Issue) : Dev :=
  let t := d.tile q.p
  if t.loftErr = [] then d
  else
    let m := us.foldl (fun m u => m ||| u.banks) 0
    let qs := ((srcHandles q.e).map t.descr).filter (fun a => a.valid && a.space == 0 && a.banks ||| m == m)
    ((t.loftErr.map (·.1)).filter (fun w => qs.any (fun a => a.hasWord w))).foldl
      (fun (d : Dev) w => d.loftReport q.p (0xE0 + q.i * 2 ^ 8) w) d

/-- An engine takes up a command: its work is done when its banks are its masters', else it waits (R164, R167). -/
def Dev.engineStart (g : Eng) (us : List Use) (body : Dev → Issue → Dev) (d : Dev) (q : Issue) : Dev :=
  let t := d.tile q.p
  match t.blocked us with
  | some u =>
    d.setTile q.p { t with loftWait := t.loftWait ++
      [⟨g, BitVec.ofNat 256 q.e, q.i, q.x, u.since, u.master, u.banks, t.desc, none, none⟩] }
  | none => body ((d.setTile q.p (t.chargeHolds us)).loftReports us q) { q with x := q.x + t.shift us }

/-- The flags a command's completion sets (R191). -/
def doneFlags (e : Nat) : List Nat := if eSen e then [eSflag e] else []

/-- The uses as the engine's command keeps them. -/
def keepUses (us : List Use) : List (Nat × Nat) := us.map (fun u => (u.master, u.banks))

end Sys2Proof.Machine
end

