-- ==== Sys2Proof/Machine/Pocket.lean ====
section
/-! DEFINITION. Pocket registers: promotion, escapes and their on-tile cache, reads and clears at a tc (R83 to R92, R142 to
R144). -/

namespace Sys2Proof.Machine

/-- What promotions change: the registers, the slot cache, Bushels written back to the Granary (newest first), the uncached
slots one window needed and the tc of each, the holds of R92, ACC_STATUS bits, escapes counted, and the promotions a read
may still come before. -/
structure Pk where
  pocket : Sparse (BitVec 128)
  cache : List (Nat × BitVec 640)
  evict : List (Nat × BitVec 640)
  miss : List (Nat × Nat)
  holds : Nat
  acc : Nat
  escs : Nat
  hist : List Promo
  deriving DecidableEq, Repr

/-- A tile's Pocket state at the start of a command. -/
def Pk.ofTile (t : Tile) : Pk := ⟨t.pocket, t.cache, [], [], 0, 0, 0, t.hist⟩

/-- ACC_STATUS.BUSHEL_OVF (R112). -/
def asOVF : Nat := 1
/-- ACC_STATUS.ESC_POCKET. -/
def asESC_POCKET : Nat := 2
/-- ACC_STATUS.ESC_TENSOR. -/
def asESC_TENSOR : Nat := 4
/-- ACC_STATUS.SCALE_OOR. -/
def asSCALE_OOR : Nat := 8
/-- ACC_STATUS.ESC_EXHAUST. -/
def asESC_EXHAUST : Nat := 16

/-- The Bushel of a Pocket-part slot: cached, written back in this command, or in the Granary. -/
def Pk.slot (k : Pk) (grn : Nat → Nat) (j : Nat) : Nat :=
  match (k.cache ++ k.evict).find? (fun e => e.1 == j) with
  | some e => e.2.toNat
  | none => grn j

/-- A slot placed in the cache as most recently used; the least recently used of more than 64 is written back (R92). -/
def Pk.place (k : Pk) (j v : Nat) : Pk :=
  let c := (j, BitVec.ofNat 640 v) :: k.cache.filter (fun e => e.1 != j)
  { k with cache := c.take 64, evict := c.drop 64 ++ k.evict }

/-- A register's value. -/
def Pk.value (k : Pk) (grn : Nat → Nat) (j : Nat) : Val :=
  match stookKind (sget 0 k.pocket j).toNat with
  | .value v => v
  | .escape _ _ => bushelVal (k.slot grn j)
  | .bad => .nan false

/-- A register's word is an escape. -/
def isEscapeWord (w : Nat) : Bool :=
  match stookKind w with
  | .escape _ _ => true
  | _ => false

/-- A register set to a value, canonical; the value escapes to the register's slot when it needs to (R85, canon). -/
def Pk.canon (k : Pk) (l j : Nat) (v : Val) : Pk :=
  match stookOf v with
  | some w => { k with pocket := sset 0 k.pocket j (BitVec.ofNat 128 w) }
  | none =>
    let b := bushelCode v
    let k := k.place j b.1
    { k with pocket := sset 0 k.pocket j (BitVec.ofNat 128 (escapeWord l j)), holds := k.holds + 1,
             escs := k.escs + 1, acc := k.acc ||| asESC_POCKET ||| flagIf b.2 asOVF }

/-- A register cleared: its value is +0 and its slot is no longer in use (R86). -/
def Pk.clear (k : Pk) (j : Nat) : Pk :=
  { k with pocket := sdel k.pocket j, cache := k.cache.filter (fun e => e.1 != j) }

/-- One promotion (R85) of a run into register `j` of logical tile `l` at tc `x`; `clr` replaces. -/
def Pk.promote (k : Pk) (grn : Nat → Nat) (l j x : Nat) (clr : Bool) (run : Val) : Pk :=
  let before := k.value grn j
  let k := { k with hist := k.hist ++ [⟨j, x, clr, run, before⟩] }
  let k := if clr then k.clear j else k
  let old := k.value grn j
  if !run.isFin || !old.isFin then k.canon l j (old.add run)
  else if run.isZero then k
  else if isEscapeWord (sget 0 k.pocket j).toNat then
    let r := bushelAdd old run
    let cached := k.cache.any (fun e => e.1 == j)
    let k := k.place j (bushelCode r.1).1
    { k with holds := k.holds + 1, acc := k.acc ||| flagIf r.2 asOVF,
             miss := if cached then k.miss else k.miss ++ [(j, x)] }
  else k.canon l j (old.add run)

/-- A register's value as a read at the start of tc `y` sees it (R143). -/
def Pk.readAt (k : Pk) (grn : Nat → Nat) (j y : Nat) : Val :=
  match k.hist.find? (fun h => h.reg == j && y ≤ h.tc) with
  | some h => h.before
  | none => k.value grn j

/-- A register cleared by a read at tc `y`: promotions that land in or after it are made again, on +0 (R143). -/
def Pk.clearAt (k : Pk) (grn : Nat → Nat) (l j y : Nat) : Pk :=
  let later := k.hist.filter (fun h => h.reg == j && y ≤ h.tc)
  let k := ({ k with hist := k.hist.filter (fun h => !(h.reg == j && y ≤ h.tc)) } : Pk).clear j
  later.foldl (fun (k : Pk) h => k.promote grn l j h.tc h.clr h.run) k

/-- The Bushels of a tile's Pocket part in the Granary. -/
def Dev.grnSlots (d : Dev) (t : Tile) (j : Nat) : Nat := leNat (d.grnRead (t.ownArea + 80 * j) 80)

/-- Pocket state written back to its tile: registers, cache, history, status and counts. -/
def Tile.putPk (t : Tile) (k : Pk) : Tile :=
  (({ t with pocket := k.pocket, cache := k.cache, hist := k.hist }).orBits tACC_STATUS k.acc).bump tESC_COUNT k.escs

/-- Written-back Bushels, oldest first, into the escape area. -/
def Dev.putEvict (d : Dev) (area : Nat) (es : List (Nat × BitVec 640)) : Dev :=
  es.reverse.foldl (fun (d : Dev) e => d.jobWrite (area + 80 * e.1) (leBytes 80 e.2.toNat)) d

/-- Pocket state written back to the device. -/
def Dev.putPk (d : Dev) (p : Nat) (k : Pk) : Dev :=
  (d.putEvict (d.tile p).ownArea k.evict).onTile p (fun t => t.putPk k)

end Sys2Proof.Machine
end

