-- ==== Sys2Proof/Machine/Array.lean ====
section
/-! DEFINITION. Array commands: MMA and POCKET_LOAD (R137 to R145, R210, R211), and the arrival of escape slots (R92). -/

namespace Sys2Proof.Machine

/-! ## Fields (R210) -/

/-- The region of an array or output-stage command: origin, shape. -/
structure Region where
  r0 : Nat
  c0 : Nat
  m : Nat
  n : Nat
  deriving DecidableEq, Repr

/-- The region fields of an entry. -/
def regionOf (e : Nat) : Region :=
  ⟨32 * eArgs e 1 0, 24 * eArgs e 3 2, eArgs e 10 4 + 1, eArgs e 17 11 + 1⟩

/-- The region lies in the array (R140). -/
def Region.ok (r : Region) : Bool := r.m ≤ 128 - r.r0 && r.n ≤ 96 - r.c0

/-- The register of row `r`, column `c` of the region. -/
def Region.reg (g : Region) (r c : Nat) : Nat := 96 * (g.r0 + r) + g.c0 + c

/-- The first register of the span. -/
def Region.j0 (g : Region) : Nat := 96 * g.r0 + g.c0

/-- The registers the span counts. -/
def Region.span (g : Region) : Nat := 96 * (g.m - 1) + g.n

/-- Batches of `w` registers that sweep the span. -/
def Region.batches (g : Region) (w : Nat) : Nat := (g.span + w - 1) / w

/-- The positions of the region in ascending register order. -/
def Region.cells (g : Region) : List (Nat × Nat) :=
  (List.range g.m).flatMap (fun r => (List.range g.n).map (fun c => (r, c)))

/-! ## Operand pairs (R139) -/

/-- What an operand pair fixes: block time, run allowance, work class (R83, R139, R155). -/
structure Pair where
  tb : Nat
  allow : Nat
  cls : Nat
  deriving DecidableEq, Repr

/-- The accepted operand pairs (R139). -/
def pairOf (fa fb : Nat) : Option Pair :=
  let small (f : Nat) : Bool := f ≤ 2
  let mid (f : Nat) : Bool := f == 3 || f == 4
  if small fa && small fb then some ⟨16, 1, 0⟩
  else if (mid fa && isGBlock fb) || (mid fb && isGBlock fa) then some ⟨32, 2, 1⟩
  else if fa == fI8 && fb == fI8 then some ⟨32, 2, 2⟩
  else if (fa == fG16 && (fb == fG16 || isGBlock fb)) || (fb == fG16 && isGBlock fa) then some ⟨128, 8, 3⟩
  else none

/-- The run of its block that a product joins (R83): one run but for G8w with G8 or G8w, which forms two, and for G16, which
forms one per band. -/
def runOf (fa fb : Nat) (v : Val) : Nat :=
  if fa = fG16 ∨ fb = fG16 then Config.runBand fa fb v
  else if (fa = fG8w ∧ (fb = fG8 ∨ fb = fG8w)) ∨ (fb = fG8w ∧ fa = fG8) then Config.runBand fa fb v % 2
  else 0

/-- A product added to the run it joins; runs are kept in ascending band. -/
def addRun : List (Nat × Val) → Nat → Val → List (Nat × Val)
  | [], b, v => [(b, v)]
  | (b', v') :: r, b, v =>
    if b = b' then (b, v'.add v) :: r
    else if b < b' then (b, v) :: (b', v') :: r
    else (b', v') :: addRun r b v

/-- The runs of one block of one output: at least one. A special operand marks the lowest run (R85). -/
def blockRuns (fa fb : Nat) (ps : List Val) : List Val :=
  let rs := ps.foldl (fun rs v =>
    if v.isZero then rs else addRun rs (if v.isFin then runOf fa fb v else 0) v) []
  if rs.isEmpty then [Val.zero] else rs.map (·.2)

/-- The INVALID flag of a product (R113): a signalling NaN, or zero times infinity. -/
def prodFlags (a b : Val) : Nat :=
  flagIf (a.isSnan || b.isSnan || (a.isZero && b.isInf) || (a.isInf && b.isZero)) nsINVALID

/-! ## MMA -/

/-- MMA's checks after its opcode (R139, R140, R204, R210, R220). -/
def mmaCheck (d : Dev) (q : Issue) : Option Bad :=
  let t := d.tile q.p
  let g := regionOf q.e
  let a := t.descr (eH0 q.e)
  let b := t.descr (eH1 q.e)
  let kk := eArgs q.e 33 18 + 1
  firstBad [
    fusedBad d t [eH0 q.e, eH1 q.e],
    ownBad d t [eH0 q.e],
    need (g.m ≤ a.rows && kk ≤ a.cols) (skipR 0x04 (eH0 q.e)),
    ownBad d t [eH1 q.e],
    need (g.n ≤ b.rows && kk ≤ b.cols) (skipR 0x04 (eH1 q.e)),
    need (pairOf a.fmt b.fmt).isSome (skipR 0x0B 0),
    need g.ok (skipR 0x0C 0),
    busyBad t .array q.x]

/-- The products of one block of one output. -/
def blockProducts (d : Dev) (t : Tile) (a b : Desc) (r c blk k : Nat) : List (Val × Nat) :=
  (List.range (min 32 (k - 32 * blk))).map (fun i =>
    let u := elemRead d t t.loft a r (32 * blk + i)
    let v := elemRead d t t.loft b c (32 * blk + i)
    (u.1.mul v.1, u.2 ||| v.2 ||| prodFlags u.1 v.1))

/-- What a window leaves beside the Pocket state: its runs beyond the allowance, and the flags its operands raised. -/
structure Win where
  k : Pk
  extra : Nat
  flags : Nat
  deriving DecidableEq, Repr

/-- The promotions of one block into one register, in run order: within the allowance in the window that opens at `w`,
beyond it at the window's end (R84, R138). -/
def promoteBlock (grn : Nat → Nat) (l j w tb allow : Nat) (clr : Bool) (k : Pk) (rs : List Val) : Pk :=
  rs.zipIdx.foldl (fun (k : Pk) (v : Val × Nat) =>
    let x := if v.2 < allow then w + 16 * v.2 + j / 768 else w + tb
    k.promote grn l j x (clr && v.2 == 0) v.1) k

/-- One block of an MMA over its region. -/
def mmaBlock (d : Dev) (t : Tile) (grn : Nat → Nat) (g : Region) (a b : Desc) (pr : Pair) (k w blk : Nat) (clr : Bool)
    (s : Win) : Win :=
  g.cells.foldl (fun (s : Win) rc =>
    let ps := blockProducts d t a b rc.1 rc.2 blk k
    let rs := blockRuns a.fmt b.fmt (ps.map (·.1))
    { k := promoteBlock grn (t.logical.getD 0) (g.reg rc.1 rc.2) w pr.tb pr.allow (clr && blk == 0) s.k rs
      extra := s.extra + (rs.length - pr.allow)
      flags := ps.foldl (fun f x => f ||| x.2) s.flags }) s

/-- The uncached slots of a window, in groups of 64, each with the tc of its first miss (R92). -/
def groupMisses : Nat → List (Nat × Nat) → List Fetch
  | 0, _ => []
  | n + 1, ms =>
    match ms with
    | [] => []
    | m :: _ => ⟨m.2, (ms.take 64).map (·.1)⟩ :: groupMisses n (ms.drop 64)

/-- The end of a promotion window at local tc `y`: extra runs and holds freeze the tile (R84, R92), and uncached slots are
fetched. -/
def Tile.endWindow (t : Tile) (y extra holds : Nat) (miss : List (Nat × Nat)) : Tile :=
  let t := { t with fetch := t.fetch ++ groupMisses (miss.length + 1) miss }
  t.freeze tRUN_EXTRA_TC y ((extra + 4 * holds + 767) / 768)

/-- A byte of a Loft made a free value. -/
def Dev.freeLoft (d : Dev) (p a : Nat) : Dev :=
  let n := d.freeCtr
  let d := { d with freeCtr := n + 1 }
  d.onTile p (fun t => { t with loft := wrByte t.loft a (BitVec.ofNat 8 (Config.freeNat n)) })

/-! ## Races of R144 -/

/-- The Loft bytes decided by reads in flight that promotions made now come before (R144). -/
def Tile.raced (t : Tile) (hs : List Promo) : List Nat :=
  (t.outReads.filter (fun o => hs.any (fun h => h.reg == o.reg && h.tc < o.tc))).flatMap
    (fun o => (List.range o.len).map (fun i => o.addr + i))

/-- Promotions of a later array command that land before a read in flight (R144): the flag, and the bytes that read
decides, which the model leaves free (log entry 9). -/
def Dev.raceCheck (d : Dev) (p : Nat) (hs : List Promo) : Dev :=
  match (d.tile p).raced hs with
  | [] => d
  | as => as.foldl (fun (d : Dev) a => d.freeLoft p a) (d.onTile p (fun t => t.orBits tENG_STATUS 1))

/-- The delay D of R141 for a command that issues at `x` with block time `tb`. -/
def Tile.arrayDelay (t : Tile) (x tb : Nat) : Nat := t.arrayEnd - (x + 8 + tb)

/-- The uses of MMA: operand A through TA, operand B through TB. -/
def mmaUses (d : Dev) (q : Issue) : List Use :=
  let t := d.tile q.p
  [⟨0, (t.descr (eH0 q.e)).banks, q.x⟩, ⟨1, (t.descr (eH1 q.e)).banks, q.x⟩]

/-- MMA's work (R137 to R145, R155): every promotion of its blocks, its freezes, its timing. -/
def mmaBody (d : Dev) (q : Issue) : Dev :=
  let t := d.tile q.p
  let g := regionOf q.e
  let a := t.descr (eH0 q.e)
  let b := t.descr (eH1 q.e)
  let kk := eArgs q.e 33 18 + 1
  let nb := (kk + 31) / 32
  let pr := (pairOf a.fmt b.fmt).getD ⟨32, 2, 1⟩
  let dl := t.arrayDelay q.x pr.tb
  let clr := eArgBit q.e 34
  let grn := d.grnSlots t
  let r := (List.range nb).foldl (fun (acc : Tile × Win) blk =>
    let w := q.x + 8 + dl + (blk + 1) * pr.tb
    let s := mmaBlock d t grn g a b pr kk w blk clr { acc.2 with extra := 0, k := { acc.2.k with holds := 0, miss := [] } }
    (acc.1.endWindow (w + pr.tb) s.extra s.k.holds s.k.miss, s))
    (t, ({ k := { Pk.ofTile t with hist := t.hist.filter (fun h => q.x ≤ h.tc) }, extra := 0, flags := 0 } : Win))
  let new := r.2.k.hist.drop (t.hist.filter (fun h => q.x ≤ h.tc)).length
  let t := (r.1.orBits tNUM_STATUS r.2.flags).bump tARRAY_BUSY_TC (nb * pr.tb)
  let t := t.work pr.cls (g.m * g.n * kk)
  let ready := q.x + 8 + dl + (nb + 1) * pr.tb
  let t := { t with arrayEnd := ready }
  let t := t.engage ⟨.array, q.x + dl + nb * pr.tb, ready, doneFlags q.e, q.mark, keepUses (mmaUses d q)⟩
  ((d.setTile q.p t).putPk q.p r.2.k).raceCheck q.p new

/-- MMA at its issue. -/
def mmaEffect (d : Dev) (q : Issue) : Dev := d.engineStart .array (mmaUses d q) (fun d q => mmaBody d q) q

/-- MMA (R141). -/
def execMma (p : Nat) (s : State) : Host.Outcome State Fault Refusal := issueCommand 0x10 mmaCheck mmaEffect p s

/-! ## POCKET_LOAD -/

/-- POCKET_LOAD's checks (R204, R210, R211). -/
def pocketLoadCheck (d : Dev) (q : Issue) : Option Bad :=
  let t := d.tile q.p
  let g := regionOf q.e
  let a := t.descr (eH0 q.e)
  firstBad [
    fusedBad d t [eH0 q.e],
    ownBad d t [eH0 q.e],
    need (a.rows == g.m && a.cols == g.n) (skipR 0x04 (eH0 q.e)),
    need (a.fmt == fI32 || a.fmt == fStook) (skipR 0x0B 0),
    need g.ok (skipR 0x0C 0),
    busyBad t .array q.x]

/-- The uses of POCKET_LOAD: its source through TA. -/
def pocketLoadUses (d : Dev) (q : Issue) : List Use := [⟨0, ((d.tile q.p).descr (eH0 q.e)).banks, q.x⟩]

/-- POCKET_LOAD's work (R211). -/
def pocketLoadBody (d : Dev) (q : Issue) : Dev :=
  let t := d.tile q.p
  let g := regionOf q.e
  let a := t.descr (eH0 q.e)
  let l := t.logical.getD 0
  let grn := d.grnSlots t
  let old := t.hist.filter (fun h => q.x ≤ h.tc)
  let r := g.cells.foldl (fun (acc : Pk × Nat) rc =>
    let v := elemRead d t t.loft a rc.1 rc.2
    let j := g.reg rc.1 rc.2
    (acc.1.promote grn l j (q.x + 4 + (j - g.j0) / 128) true v.1, acc.2 ||| v.2))
    ({ Pk.ofTile t with hist := old }, 0)
  let b := g.batches 128
  let t := (t.orBits tNUM_STATUS r.2).engage
    ⟨.array, q.x + b, q.x + 4 + b, doneFlags q.e, q.mark, keepUses (pocketLoadUses d q)⟩
  ((d.setTile q.p t).putPk q.p r.1).raceCheck q.p (r.1.hist.drop old.length)

/-- POCKET_LOAD at its issue. -/
def pocketLoadEffect (d : Dev) (q : Issue) : Dev :=
  d.engineStart .array (pocketLoadUses d q) (fun d q => pocketLoadBody d q) q

/-- POCKET_LOAD (R211). -/
def execPocketLoad (p : Nat) (s : State) : Host.Outcome State Fault Refusal :=
  issueCommand 0x11 pocketLoadCheck pocketLoadEffect p s

/-! ## Escape slots -/

/-- The first group of slots arrives `n` tc after its first miss: the tile was frozen that long (R92, R145). -/
def Tile.slotsArrive (t : Tile) (n : Nat) : Tile :=
  match t.fetch with
  | f :: r => ({ t with fetch := r }).freeze tESC_STALL_TC f.start n
  | [] => t

/-- ESC_SLOT_ARRIVE (R92): the frozen tile resumes; nothing of the tile comes before the freeze. -/
def execEscSlotArrive (p tc : Nat) (s : State) : Host.Outcome State Fault Refusal :=
  if p < 272 then
    let t := s.dev.tile p
    match t.fetch with
    | f :: _ =>
      if t.eng.all (fun c => c.flags.isEmpty || f.start ≤ c.done) then
        let d := s.dev.onTile p (fun t => t.slotsArrive tc)
        .next { s with dev := d.advanceTo ((d.tile p).toGlobal f.start) }
      else .fault .notNextEntry
    | [] => .fault .nothingInFlight
  else .fault .noSuchUnit

end Sys2Proof.Machine
end

