-- ==== Sys2Proof/Machine/Aes.lean ====
section
/-! DEFINITION. AES encryption as FIPS 197 defines it, and the Threshing function (R114) on it. -/

namespace Sys2Proof.Machine

/-- The substitution box of FIPS 197, rows 0 to 7. -/
def aesSboxLo : List Nat :=
  [0x63, 0x7c, 0x77, 0x7b, 0xf2, 0x6b, 0x6f, 0xc5, 0x30, 0x01, 0x67, 0x2b, 0xfe, 0xd7, 0xab, 0x76] ++
  [0xca, 0x82, 0xc9, 0x7d, 0xfa, 0x59, 0x47, 0xf0, 0xad, 0xd4, 0xa2, 0xaf, 0x9c, 0xa4, 0x72, 0xc0] ++
  [0xb7, 0xfd, 0x93, 0x26, 0x36, 0x3f, 0xf7, 0xcc, 0x34, 0xa5, 0xe5, 0xf1, 0x71, 0xd8, 0x31, 0x15] ++
  [0x04, 0xc7, 0x23, 0xc3, 0x18, 0x96, 0x05, 0x9a, 0x07, 0x12, 0x80, 0xe2, 0xeb, 0x27, 0xb2, 0x75] ++
  [0x09, 0x83, 0x2c, 0x1a, 0x1b, 0x6e, 0x5a, 0xa0, 0x52, 0x3b, 0xd6, 0xb3, 0x29, 0xe3, 0x2f, 0x84] ++
  [0x53, 0xd1, 0x00, 0xed, 0x20, 0xfc, 0xb1, 0x5b, 0x6a, 0xcb, 0xbe, 0x39, 0x4a, 0x4c, 0x58, 0xcf] ++
  [0xd0, 0xef, 0xaa, 0xfb, 0x43, 0x4d, 0x33, 0x85, 0x45, 0xf9, 0x02, 0x7f, 0x50, 0x3c, 0x9f, 0xa8] ++
  [0x51, 0xa3, 0x40, 0x8f, 0x92, 0x9d, 0x38, 0xf5, 0xbc, 0xb6, 0xda, 0x21, 0x10, 0xff, 0xf3, 0xd2]

/-- The substitution box of FIPS 197, rows 8 to 15. -/
def aesSboxHi : List Nat :=
  [0xcd, 0x0c, 0x13, 0xec, 0x5f, 0x97, 0x44, 0x17, 0xc4, 0xa7, 0x7e, 0x3d, 0x64, 0x5d, 0x19, 0x73] ++
  [0x60, 0x81, 0x4f, 0xdc, 0x22, 0x2a, 0x90, 0x88, 0x46, 0xee, 0xb8, 0x14, 0xde, 0x5e, 0x0b, 0xdb] ++
  [0xe0, 0x32, 0x3a, 0x0a, 0x49, 0x06, 0x24, 0x5c, 0xc2, 0xd3, 0xac, 0x62, 0x91, 0x95, 0xe4, 0x79] ++
  [0xe7, 0xc8, 0x37, 0x6d, 0x8d, 0xd5, 0x4e, 0xa9, 0x6c, 0x56, 0xf4, 0xea, 0x65, 0x7a, 0xae, 0x08] ++
  [0xba, 0x78, 0x25, 0x2e, 0x1c, 0xa6, 0xb4, 0xc6, 0xe8, 0xdd, 0x74, 0x1f, 0x4b, 0xbd, 0x8b, 0x8a] ++
  [0x70, 0x3e, 0xb5, 0x66, 0x48, 0x03, 0xf6, 0x0e, 0x61, 0x35, 0x57, 0xb9, 0x86, 0xc1, 0x1d, 0x9e] ++
  [0xe1, 0xf8, 0x98, 0x11, 0x69, 0xd9, 0x8e, 0x94, 0x9b, 0x1e, 0x87, 0xe9, 0xce, 0x55, 0x28, 0xdf] ++
  [0x8c, 0xa1, 0x89, 0x0d, 0xbf, 0xe6, 0x42, 0x68, 0x41, 0x99, 0x2d, 0x0f, 0xb0, 0x54, 0xbb, 0x16]

/-- SubBytes on one byte. -/
def aesSub (b : Nat) : Nat :=
  if b < 128 then aesSboxLo.getD b 0 else aesSboxHi.getD (b - 128) 0

/-- Multiplication by x in the field of FIPS 197. -/
def aesX2 (b : Nat) : Nat := if b < 128 then 2 * b else (2 * b - 256) ^^^ 0x1b

/-- A 128-bit number as one number's xor of 16 bytes: bytewise xor of two byte lists. -/
def aesXor (a b : List Nat) : List Nat := List.zipWith (· ^^^ ·) a b

/-- ShiftRows: byte j of the output is byte 5j mod 16 of the input within its row. -/
def aesShift (s : List Nat) : List Nat := (List.range 16).map (fun j => s.getD (5 * j % 16) 0)

/-- MixColumns on one column. -/
def aesMixCol (a b c d : Nat) : List Nat :=
  [aesX2 a ^^^ aesX2 b ^^^ b ^^^ c ^^^ d, a ^^^ aesX2 b ^^^ aesX2 c ^^^ c ^^^ d,
   a ^^^ b ^^^ aesX2 c ^^^ aesX2 d ^^^ d, aesX2 a ^^^ a ^^^ b ^^^ c ^^^ aesX2 d]

/-- MixColumns. -/
def aesMix : List Nat → List Nat
  | a :: b :: c :: d :: r => aesMixCol a b c d ++ aesMix r
  | r => r

/-- The next round key from a round key and its round constant. -/
def aesNextKey (k : List Nat) (rc : Nat) : List Nat :=
  let g (i : Nat) := k.getD i 0
  let w0 := [g 0 ^^^ aesSub (g 13) ^^^ rc, g 1 ^^^ aesSub (g 14), g 2 ^^^ aesSub (g 15), g 3 ^^^ aesSub (g 12)]
  let w1 := aesXor w0 [g 4, g 5, g 6, g 7]
  let w2 := aesXor w1 [g 8, g 9, g 10, g 11]
  let w3 := aesXor w2 [g 12, g 13, g 14, g 15]
  w0 ++ w1 ++ w2 ++ w3

/-- The rounds of AES-128, one per round constant left; the last round has no MixColumns. -/
def aesRounds : List Nat → List Nat → List Nat → List Nat
  | [], _, s => s
  | rc :: rest, k, s =>
    let k' := aesNextKey k rc
    let s' := aesShift (s.map aesSub)
    aesRounds rest k' (aesXor (if rest.isEmpty then s' else aesMix s') k')

/-- AES-128 of a block under a key, both as 16 bytes, byte 0 first. -/
def aesEncrypt (k p : List Nat) : List Nat :=
  aesRounds [0x01, 0x02, 0x04, 0x08, 0x10, 0x20, 0x40, 0x80, 0x1b, 0x36] k (aesXor p k)

/-- The four bytes of word `i` of a key schedule. -/
def aesWord (ks : List Nat) (i : Nat) : List Nat := (ks.drop (4 * i)).take 4

/-- The next eight words of the AES-256 key schedule, from the last eight and a round constant. -/
def aesNext256 (k : List Nat) (rc : Nat) : List Nat :=
  let l := aesWord k 7
  let g := [aesSub (l.getD 1 0) ^^^ rc, aesSub (l.getD 2 0), aesSub (l.getD 3 0), aesSub (l.getD 0 0)]
  let w0 := aesXor (aesWord k 0) g
  let w1 := aesXor (aesWord k 1) w0
  let w2 := aesXor (aesWord k 2) w1
  let w3 := aesXor (aesWord k 3) w2
  let w4 := aesXor (aesWord k 4) (w3.map aesSub)
  let w5 := aesXor (aesWord k 5) w4
  let w6 := aesXor (aesWord k 6) w5
  w0 ++ w1 ++ w2 ++ w3 ++ w4 ++ w5 ++ w6 ++ aesXor (aesWord k 7) w6

/-- The AES-256 key schedule as bytes: a key of 32 bytes, and eight words more for each round constant. -/
def aesSchedule256 : List Nat → List Nat → List Nat
  | [], k => k
  | rc :: r, k => k ++ aesSchedule256 r (aesNext256 k rc)

/-- AES-256 of a block of 16 bytes under a key of 32 bytes. -/
def aes256 (k p : List Nat) : List Nat :=
  let ks := aesSchedule256 [0x01, 0x02, 0x04, 0x08, 0x10, 0x20, 0x40] k
  let rk (i : Nat) := (ks.drop (16 * i)).take 16
  let s := (List.range 13).foldl (fun s i => aesXor (aesMix (aesShift (s.map aesSub))) (rk (i + 1))) (aesXor p (rk 0))
  aesXor (aesShift (s.map aesSub)) (rk 14)

/-- SubBytes undone on one byte. -/
def aesUnsub (b : Nat) : Nat := ((List.range 256).find? (fun x => aesSub x == b)).getD 0

/-- ShiftRows undone. -/
def aesUnshift (s : List Nat) : List Nat := (List.range 16).map (fun j => s.getD (13 * j % 16) 0)

/-- Multiplication by a constant below 16 in the field of FIPS 197. -/
def aesTimes (n b : Nat) : Nat :=
  (if n.testBit 0 then b else 0) ^^^ (if n.testBit 1 then aesX2 b else 0) ^^^ (if n.testBit 2 then aesX2 (aesX2 b) else 0) ^^^
  (if n.testBit 3 then aesX2 (aesX2 (aesX2 b)) else 0)

/-- One byte of a column under the inverse of MixColumns. -/
def aesUnmixByte (a b c d : Nat) : Nat := aesTimes 14 a ^^^ aesTimes 11 b ^^^ aesTimes 13 c ^^^ aesTimes 9 d

/-- MixColumns undone. -/
def aesUnmix : List Nat → List Nat
  | a :: b :: c :: d :: r =>
    [aesUnmixByte a b c d, aesUnmixByte b c d a, aesUnmixByte c d a b, aesUnmixByte d a b c] ++ aesUnmix r
  | r => r

/-- AES-256 decryption of a block of 16 bytes. -/
def aes256Dec (k c : List Nat) : List Nat :=
  let ks := aesSchedule256 [0x01, 0x02, 0x04, 0x08, 0x10, 0x20, 0x40] k
  let rk (i : Nat) := (ks.drop (16 * i)).take 16
  let s := (List.range 13).foldl (fun s i => aesUnmix (aesXor ((aesUnshift s).map aesUnsub) (rk (13 - i)))) (aesXor c (rk 14))
  aesXor ((aesUnshift s).map aesUnsub) (rk 0)

/-- The `n` little-endian bytes of a number, as numbers. -/
def natBytes : Nat → Nat → List Nat
  | 0, _ => []
  | n + 1, v => v % 256 :: natBytes n (v / 256)

/-- The number little-endian bytes spell. -/
def bytesNat : List Nat → Nat
  | [] => 0
  | b :: bs => b + 256 * bytesNat bs

/-- T(K, t, n, i) (R114): 128 bits. -/
def threshing (k t n i : Nat) : Nat :=
  let x := (t % 2 ^ 32) * 2 ^ 96 + (n % 2 ^ 32) * 2 ^ 64 + i % 2 ^ 64
  bytesNat (aesEncrypt (natBytes 16 k) (natBytes 16 x))

/-- The key check value of a slot's key (R119). -/
def keyCheck (k : Nat) : Nat := threshing k 0xFFFFFFFF 0xFFFFFFFF (2 ^ 64 - 1) % 2 ^ 32

end Sys2Proof.Machine
end

