-- ==== Sys2Proof/Machine/Crypto.lean ====
section
/-! DEFINITION. The cryptographic functions the trust core uses (R435, R446, R452, R453, R459): AES-256 CMAC, GCM and XTS,
SHA-384, HMAC and the KDF. Bytes are numbers below 256, the first byte first. -/

namespace Sys2Proof.Machine

/-! ## Bytes -/

/-- The number that bytes spell, most significant first. -/
def beNat (bs : List Nat) : Nat := bs.foldl (fun a b => a * 256 + b) 0

/-- The `n` bytes of a number, most significant first. -/
def beBytes (n v : Nat) : List Nat := (natBytes n v).reverse

/-- Bytes filled with zeros to a multiple of 16. -/
def pad16 (bs : List Nat) : List Nat := bs ++ List.replicate ((16 - bs.length % 16) % 16) 0

/-- The 16-byte blocks of bytes, `n` of them. -/
def blocks16 : Nat → List Nat → List (List Nat)
  | 0, _ => []
  | n + 1, bs => bs.take 16 :: blocks16 n (bs.drop 16)

/-! ## CMAC (NIST SP 800-38B) -/

/-- Doubling in GF(2^128) of a big-endian block. -/
def cmacDouble (b : List Nat) : List Nat :=
  let v := 2 * beNat b
  beBytes 16 (if v < 2 ^ 128 then v else (v - 2 ^ 128) ^^^ 0x87)

/-- The AES-256 CMAC of bytes, 16 bytes. -/
def cmac (k bs : List Nat) : List Nat :=
  let k1 := cmacDouble (aes256 k (List.replicate 16 0))
  let n := max 1 ((bs.length + 15) / 16)
  let tail := bs.drop (16 * (n - 1))
  let last := if tail.length = 16 then aesXor tail k1
    else aesXor (pad16 (tail ++ [0x80])) (cmacDouble k1)
  let s := (blocks16 (n - 1) bs).foldl (fun s b => aes256 k (aesXor s b)) (List.replicate 16 0)
  aes256 k (aesXor s last)

/-! ## GCM (NIST SP 800-38D) -/

/-- Multiplication in GF(2^128) as GHASH defines it, on big-endian numbers. -/
def ghashMul (x y : Nat) : Nat :=
  ((List.range 128).foldl (fun (s : Nat × Nat) i =>
    let z := if x.testBit (127 - i) then s.1 ^^^ s.2 else s.1
    (z, if s.2 % 2 = 1 then (s.2 / 2) ^^^ (0xE1 * 2 ^ 120) else s.2 / 2)) (0, y)).1

/-- GHASH of padded associated data and ciphertext and their lengths. -/
def ghash (h : Nat) (aad ct : List Nat) : Nat :=
  let all := pad16 aad ++ pad16 ct ++ beBytes 8 (8 * aad.length) ++ beBytes 8 (8 * ct.length)
  (blocks16 (all.length / 16) all).foldl (fun y b => ghashMul (y ^^^ beNat b) h) 0

/-- The key stream of GCM applied to bytes: block i uses the counter i + 2. -/
def gcmCrypt (k nonce bs : List Nat) : List Nat :=
  ((blocks16 ((bs.length + 15) / 16) bs).zipIdx).flatMap (fun b => aesXor b.1 (aes256 k (nonce ++ beBytes 4 (b.2 + 2))))

/-- The GCM tag of ciphertext. -/
def gcmTag (k nonce aad ct : List Nat) : List Nat :=
  let h := beNat (aes256 k (List.replicate 16 0))
  aesXor (aes256 k (nonce ++ beBytes 4 1)) (beBytes 16 (ghash h aad ct))

/-! ## XTS (IEEE 1619) on whole blocks -/

/-- The next tweak: multiplication by α of a little-endian block. -/
def xtsNext (t : List Nat) : List Nat :=
  let v := 2 * bytesNat t
  natBytes 16 (if v < 2 ^ 128 then v else (v - 2 ^ 128) ^^^ 0x87)

/-- The XTS-AES-256 encryption of the blocks of a data unit. -/
def xtsBlocks (k1 : List Nat) : List Nat → List (List Nat) → List Nat
  | _, [] => []
  | t, b :: r => aesXor (aes256 k1 (aesXor b t)) t ++ xtsBlocks k1 (xtsNext t) r

/-- The XTS-AES-256 encryption of a data unit under its tweak. -/
def xts (k1 k2 : List Nat) (tweak : Nat) (bs : List Nat) : List Nat :=
  xtsBlocks k1 (aes256 k2 (natBytes 16 tweak)) (blocks16 (bs.length / 16) bs)

/-- The decryption of the blocks of a data unit. -/
def xtsUnblocks (k1 : List Nat) : List Nat → List (List Nat) → List Nat
  | _, [] => []
  | t, b :: r => aesXor (aes256Dec k1 (aesXor b t)) t ++ xtsUnblocks k1 (xtsNext t) r

/-- The XTS-AES-256 decryption of a data unit under its tweak. -/
def xtsDec (k1 k2 : List Nat) (tweak : Nat) (bs : List Nat) : List Nat :=
  xtsUnblocks k1 (aes256 k2 (natBytes 16 tweak)) (blocks16 (bs.length / 16) bs)

/-! ## SHA-384 (FIPS 180-4) -/

/-- A word of SHA-512's size. -/
abbrev W64 := BitVec 64

/-- The first primes' cube roots, as FIPS 180-4 lists them: words 0 to 39. -/
def shaKLo : List W64 :=
  [0x428a2f98d728ae22, 0x7137449123ef65cd, 0xb5c0fbcfec4d3b2f, 0xe9b5dba58189dbbc, 0x3956c25bf348b538] ++
  [0x59f111f1b605d019, 0x923f82a4af194f9b, 0xab1c5ed5da6d8118, 0xd807aa98a3030242, 0x12835b0145706fbe] ++
  [0x243185be4ee4b28c, 0x550c7dc3d5ffb4e2, 0x72be5d74f27b896f, 0x80deb1fe3b1696b1, 0x9bdc06a725c71235] ++
  [0xc19bf174cf692694, 0xe49b69c19ef14ad2, 0xefbe4786384f25e3, 0x0fc19dc68b8cd5b5, 0x240ca1cc77ac9c65] ++
  [0x2de92c6f592b0275, 0x4a7484aa6ea6e483, 0x5cb0a9dcbd41fbd4, 0x76f988da831153b5, 0x983e5152ee66dfab] ++
  [0xa831c66d2db43210, 0xb00327c898fb213f, 0xbf597fc7beef0ee4, 0xc6e00bf33da88fc2, 0xd5a79147930aa725] ++
  [0x06ca6351e003826f, 0x142929670a0e6e70, 0x27b70a8546d22ffc, 0x2e1b21385c26c926, 0x4d2c6dfc5ac42aed] ++
  [0x53380d139d95b3df, 0x650a73548baf63de, 0x766a0abb3c77b2a8, 0x81c2c92e47edaee6, 0x92722c851482353b]

/-- Words 40 to 79. -/
def shaKHi : List W64 :=
  [0xa2bfe8a14cf10364, 0xa81a664bbc423001, 0xc24b8b70d0f89791, 0xc76c51a30654be30, 0xd192e819d6ef5218] ++
  [0xd69906245565a910, 0xf40e35855771202a, 0x106aa07032bbd1b8, 0x19a4c116b8d2d0c8, 0x1e376c085141ab53] ++
  [0x2748774cdf8eeb99, 0x34b0bcb5e19b48a8, 0x391c0cb3c5c95a63, 0x4ed8aa4ae3418acb, 0x5b9cca4f7763e373] ++
  [0x682e6ff3d6b2b8a3, 0x748f82ee5defb2fc, 0x78a5636f43172f60, 0x84c87814a1f0ab72, 0x8cc702081a6439ec] ++
  [0x90befffa23631e28, 0xa4506cebde82bde9, 0xbef9a3f7b2c67915, 0xc67178f2e372532b, 0xca273eceea26619c] ++
  [0xd186b8c721c0c207, 0xeada7dd6cde0eb1e, 0xf57d4f7fee6ed178, 0x06f067aa72176fba, 0x0a637dc5a2c898a6] ++
  [0x113f9804bef90dae, 0x1b710b35131c471b, 0x28db77f523047d84, 0x32caab7b40c72493, 0x3c9ebe0a15c9bebc] ++
  [0x431d67c49c100d4c, 0x4cc5d4becb3e42b6, 0x597f299cfc657e2a, 0x5fcb6fab3ad6faec, 0x6c44198c4a475817]

/-- SHA-384's initial hash value. -/
def sha384Init : List W64 :=
  [0xcbbb9d5dc1059ed8, 0x629a292a367cd507, 0x9159015a3070dd17, 0x152fecd8f70e5939] ++
  [0x67332667ffc00b31, 0x8eb44a8768581511, 0xdb0c2e0d64f98fa7, 0x47b5481dbefa4fa4]

/-- σ0. -/
def shaS0 (x : W64) : W64 := x.rotateRight 1 ^^^ x.rotateRight 8 ^^^ (x >>> 7)
/-- σ1. -/
def shaS1 (x : W64) : W64 := x.rotateRight 19 ^^^ x.rotateRight 61 ^^^ (x >>> 6)
/-- Σ0. -/
def shaB0 (x : W64) : W64 := x.rotateRight 28 ^^^ x.rotateRight 34 ^^^ x.rotateRight 39
/-- Σ1. -/
def shaB1 (x : W64) : W64 := x.rotateRight 14 ^^^ x.rotateRight 18 ^^^ x.rotateRight 41

/-- The message schedule: `n` words more, `w` the latest sixteen. -/
def shaSchedule : Nat → List W64 → List W64
  | 0, w => w
  | n + 1, w =>
    let x := shaS1 (w.getD 14 0) + w.getD 9 0 + shaS0 (w.getD 1 0) + w.getD 0 0
    w.getD 0 0 :: shaSchedule n (w.drop 1 ++ [x])

/-- One round. -/
def shaRound (s : List W64) (kw : W64 × W64) : List W64 :=
  match s with
  | [a, b, c, d, e, f, g, h] =>
    let t1 := h + shaB1 e + ((e &&& f) ^^^ ((~~~e) &&& g)) + kw.1 + kw.2
    let t2 := shaB0 a + ((a &&& b) ^^^ (a &&& c) ^^^ (b &&& c))
    [t1 + t2, a, b, c, d + t1, e, f, g]
  | s => s

/-- One block of 128 bytes. -/
def shaBlock (h : List W64) (bs : List Nat) : List W64 :=
  let w0 := (List.range 16).map (fun i => BitVec.ofNat 64 (beNat ((bs.drop (8 * i)).take 8)))
  let w := shaSchedule 64 w0
  List.zipWith (· + ·) h (((shaKLo ++ shaKHi).zip w).foldl shaRound h)

/-- The blocks of a padded message, `n` of them. -/
def shaBlocks : Nat → List W64 → List Nat → List W64
  | 0, h, _ => h
  | n + 1, h, bs => shaBlocks n (shaBlock h bs) (bs.drop 128)

/-- SHA-384 of bytes, 48 bytes. -/
def sha384 (bs : List Nat) : List Nat :=
  let z := (240 - (bs.length + 1) % 128) % 128
  let m := bs ++ [0x80] ++ List.replicate z 0 ++ beBytes 16 (8 * bs.length)
  ((shaBlocks (m.length / 128) sha384Init m).flatMap (fun w => beBytes 8 w.toNat)).take 48

/-- HMAC-SHA-384 (FIPS 198-1). -/
def hmac384 (k bs : List Nat) : List Nat :=
  let k0 := if k.length ≤ 128 then k else sha384 k
  let k1 := k0 ++ List.replicate (128 - k0.length) 0
  sha384 (k1.map (· ^^^ 0x5C) ++ sha384 (k1.map (· ^^^ 0x36) ++ bs))

/-- KDF(s, label, context, L) (R435): counter mode of NIST SP 800-108r1, `n` bytes of output. -/
def kdf (s label context : List Nat) (n : Nat) : List Nat :=
  (((List.range ((n + 47) / 48)).flatMap (fun i =>
    hmac384 s (beBytes 4 (i + 1) ++ label ++ [0] ++ context ++ beBytes 4 (8 * n)))).take n)

/-- The four ASCII bytes of a label. -/
def label4 (a b c d : Char) : List Nat := [a.toNat, b.toNat, c.toNat, d.toNat]

/-- Bytes as numbers. -/
def toNats (bs : List Byte) : List Nat := bs.map (·.toNat)

/-- Numbers as bytes. -/
def toBytes (bs : List Nat) : List Byte := bs.map (BitVec.ofNat 8)

end Sys2Proof.Machine
end

