-- ==== Sys2Proof/Machine/Atomic.lean ====
section
/-! DEFINITION. Atomics at a Loft bank (R171 to R174), and tensor escape slots (R89, R90, R549). -/

namespace Sys2Proof.Machine

/-- LOFT_STATUS.ATOMIC_WRAP (R182). -/
def lsWRAP : Nat := 8
/-- LOFT_STATUS.ATOMIC_NAN. -/
def lsNAN : Nat := 16

/-- A tensor slot taken for a value that needs an escape: its Bushel is written, ESC_NEXT grows, and the escape word is
returned; none while ESC_NEXT equals ESC_SLOTS (R89, R90). -/
def Dev.takeSlot (d : Dev) (p : Nat) (v : Val) : Option (Dev × Nat) :=
  let t := d.tile p
  let n := t.fld tESC_NEXT 20 0
  if n ≥ t.fld tESC_SLOTS 20 0 then none
  else
    let slot := 12352 + n
    let d := d.jobWrite (t.ownArea + 80 * slot) (leBytes 80 (bushelCode v).1)
    let d := d.onTile p (fun t =>
      ((t.setFld tESC_NEXT 20 0 (n + 1)).orBits tACC_STATUS asESC_TENSOR).bump tESC_COUNT 1)
    some (d, escapeWord (t.logical.getD 0) slot)

/-- The NaN special Stook (R79). -/
def stookNaN : Nat := 0xFF * 2 ^ 120 + 3 * 2 ^ 118

/-- A Stook word for a value at a tile that must take it (R549): an escape slot when it needs one, NaN with ESC_EXHAUST
when none is left. -/
def Dev.stookFor (d : Dev) (p : Nat) (v : Val) : Dev × Nat :=
  match stookOf v with
  | some w => (d, w)
  | none =>
    match d.takeSlot p v with
    | some r => r
    | none => (d.onTile p (fun t => t.orBits tACC_STATUS asESC_EXHAUST), stookNaN)

/-- The Loft of a tile written. -/
def Dev.loftWrite (d : Dev) (p a : Nat) (bs : List Byte) : Dev :=
  d.onTile p (fun t => { t with loft := wrBytes t.loft a bs, loftErr := clearFlips t.loftErr a bs.length })

/-- The Loft of a tile read. -/
def Dev.loftRead (d : Dev) (p a n : Nat) : List Byte := rdBytes (d.tile p).loft a n

/-- ADD_I32 and ADD_I64 (R171, R172): `n` bytes, modulo 2^8n; a signed overflow sets ATOMIC_WRAP. -/
def Dev.atomAddInt (d : Dev) (p a n v : Nat) : Dev :=
  let w := 8 * n
  let old := leNat (d.loftRead p a n)
  let sum := sext old w + sext v w
  let d := d.loftWrite p a (leBytes n ((old + v) % 2 ^ w))
  if sum < -(2 ^ (w - 1)) ∨ sum ≥ 2 ^ (w - 1) then d.onTile p (fun t => t.orBits tLOFT_STATUS lsWRAP) else d

/-- The Granary address of the Bushel an escape word names, where it names a slot of an escape area (R82, R91). -/
def Dev.escSlot (d : Dev) (t : Tile) (w : Nat) : Option Nat :=
  match stookKind w with
  | .escape l s =>
    let area := if t.logical == some l then some (t.ownArea, 12352 + t.fld tESC_SLOTS 20 0) else d.escArea t.job l
    match area with
    | some (base, n) => if s < n then some (base + 80 * s) else none
    | none => none
  | _ => none

/-- ADD_STOOK (R173, R174): the sum of the target and an exact operand, in the Loft of physical tile `p`. -/
def Dev.atomAddStook (d : Dev) (p a : Nat) (v : Val) : Dev :=
  let t := d.tile p
  let w := leNat (d.loftRead p a 16)
  let old := stookValue d t w
  let r := bushelAdd old.1 v
  let d := d.onTile p (fun t => (t.orBits tNUM_STATUS old.2).orBits tACC_STATUS (flagIf r.2 asOVF))
  match d.escSlot t w with
  | some base => d.jobWrite base (leBytes 80 (bushelCode r.1).1)
  | none =>
    match stookOf r.1 with
    | some w' => d.loftWrite p a (leBytes 16 w')
    | none =>
      match d.takeSlot p r.1 with
      | some (d', w') => d'.loftWrite p a (leBytes 16 w')
      | none =>
        (d.onTile p (fun t => (t.orBits tACC_STATUS asESC_EXHAUST).orBits tLOFT_STATUS lsNAN)).loftWrite p a
          (leBytes 16 stookNaN)

/-- ADD_BUSHEL (R171): exact, saturating under R77. -/
def Dev.atomAddBushel (d : Dev) (p a : Nat) (v : Val) : Dev :=
  let r := bushelAdd (bushelVal (leNat (d.loftRead p a 80))) v
  (d.onTile p (fun t => t.orBits tACC_STATUS (flagIf r.2 asOVF))).loftWrite p a (leBytes 80 (bushelCode r.1).1)

/-- SWAP (R171): one word written, the old word returned. -/
def Dev.atomSwap (d : Dev) (p a w : Nat) : Dev × Nat :=
  (d.loftWrite p a (leBytes 16 w), leNat (d.loftRead p a 16))

/-- The elements of a Bushel descriptor each lie in one bank (R171). -/
def Desc.bushelInBank (q : Desc) : Bool :=
  (List.range q.rows).all (fun r => (List.range q.cols).all (fun c =>
    bankOf (q.rowAddr r + 80 * c) == bankOf (q.rowAddr r + 80 * c + 79)))

end Sys2Proof.Machine
end

