-- ==== Sys2Proof/Machine/Fingerprint.lean ====
section
/-! DEFINITION. Norms and fingerprints of stored tensors (R109 to R111), scout accumulators (R128, R131), and FLUSH (R209). -/

namespace Sys2Proof.Machine

/-- The prime of the fingerprint lanes (R110). -/
def fpPrime : Nat := 2 ^ 61 - 1

/-- The four lane coefficients of an index: two calls of T, two bit fields each (R110). -/
def fpCoeffs (key tid step x : Nat) : List Nat :=
  let u := threshing key tid step (2 * x)
  let v := threshing key tid step (2 * x + 1)
  [bits u 60 0 % fpPrime, bits u 124 64 % fpPrime, bits v 60 0 % fpPrime, bits v 124 64 % fpPrime]

/-- One term added to the lanes. -/
def fpAdd (lanes : List Nat) (key tid step x u : Nat) : List Nat :=
  List.zipWith (fun a c => (a + c * (u % fpPrime)) % fpPrime) lanes (fpCoeffs key tid step x)

/-- The tile's key of a slot. -/
def Tile.key (t : Tile) (k : Nat) : Nat := (sget 0 t.keys k).toNat

/-- A slot holds a key (R135). -/
def Tile.hasKey (t : Tile) (k : Nat) : Bool := t.fld tTHR_KEYS k k == 1

/-- An element reaches a fingerprint accumulator: its index, its code as an unsigned integer, and the value whose square
the sum of squares takes (R109, R110). -/
def Tile.fpElem (t : Tile) (a tid i u : Nat) (v : Val) : Tile :=
  let f := sget FpAcc.empty t.fp a
  let sq := bushelAdd f.squares (v.mul v)
  let f' : FpAcc := ⟨some tid, f.count + 1, fpAdd f.lanes (t.key 1) tid (t.rd tTHR_STEP) i u, sq.1⟩
  ({ t with fp := sset FpAcc.empty t.fp a f' }).orBits tACC_STATUS (flagIf sq.2 asOVF)

/-- A block's scale code reaches a fingerprint accumulator (R110). -/
def Tile.fpBlock (t : Tile) (a tid b s : Nat) : Tile :=
  let f := sget FpAcc.empty t.fp a
  let f' : FpAcc := { f with tid := some tid, lanes := fpAdd f.lanes (t.key 1) tid (t.rd tTHR_STEP) (2 ^ 62 + b) s }
  { t with fp := sset FpAcc.empty t.fp a f' }

/-- The value squared for an element of a format: the value as written, or its RNE_FP32 (R109). -/
def normVal (fmt : Nat) (v : Val) : Val :=
  if fmt = fStook ∨ fmt = fBushel ∨ fmt = fFP64 then ieeeFP32.decode (ieeeFP32.encode .ne v).1 else v

/-- An accumulator belongs to another tensor identifier (R111, R128). -/
def otherTid (held : Option Nat) (tid : Nat) : Bool := held.isSome && held != some tid

/-- The reserved tensor identifier (R119). -/
def tidBad (tid : Nat) : Option Bad := need (tid != 0xFFFFFFFF) (skipR 0x13 0)

/-- The record FLUSH emits for a fingerprint accumulator (R111). -/
def FpAcc.bytes (f : FpAcc) (step : Nat) : List Byte :=
  leBytes 4 (f.tid.getD 0) ++ leBytes 4 step ++ leBytes 8 f.count ++ f.lanes.flatMap (fun x => leBytes 8 x) ++
  leBytes 80 (bushelCode f.squares).1

/-- A scale code as a byte, 0x80 for none (R131). -/
def codeByte (c : Option Int) : Nat :=
  match c with
  | some i => wrapN i 8
  | none => 0x80

/-- The record FLUSH emits for a scout accumulator (R131). -/
def ScAcc.bytes (f : ScAcc) (step : Nat) : List Byte :=
  leBytes 4 (f.tid.getD 0) ++ leBytes 4 step ++ leBytes 8 f.count ++ leBytes 8 f.clipped ++ leBytes 8 f.under ++
  leBytes 4 f.blocks ++ leBytes 4 f.allZero ++ leBytes 4 f.limHi ++ leBytes 4 f.limLo ++
  leBytes 1 (codeByte f.largest) ++ leBytes 1 (codeByte f.smallest) ++ leBytes 14 0

/-- Step-record kinds: a fingerprint record. -/
def rkFINGERPRINT : Nat := 1
/-- A scout record. -/
def rkSCOUT : Nat := 2
/-- The status registers of a tile. -/
def rkSTATUS : Nat := 3
/-- The illegal-command log of a tile. -/
def rkLOG : Nat := 4
/-- The Binder log. -/
def rkBINDER : Nat := 5
/-- The record of a collective (R310). -/
def rkCOLLECTIVE : Nat := 6

/-- One fingerprint accumulator flushed (R209). -/
def Dev.flushFp (d : Dev) (p a : Nat) : Dev :=
  let t := d.tile p
  let f := sget FpAcc.empty t.fp a
  let d := if f.count = 0 then d else d.stepRecord t.job rkFINGERPRINT (t.logical.getD 0) (f.bytes (t.rd tTHR_STEP))
  d.onTile p (fun t => { t with fp := sdel t.fp a })

/-- One scout accumulator flushed (R131, R209). -/
def Dev.flushSc (d : Dev) (p a : Nat) : Dev :=
  let t := d.tile p
  let f := sget ScAcc.empty t.sc a
  let d := if f.count = 0 then d else d.stepRecord t.job rkSCOUT (t.logical.getD 0) (f.bytes (t.rd tTHR_STEP))
  d.onTile p (fun t => { t with sc := sdel t.sc a })

/-- The numbers of the bits of a 16-bit mask. -/
def bits16 (m : Nat) : List Nat := (List.range 16).filter (fun a => m.testBit a)

/-- FLUSH's effect (R209): every accumulator named. -/
def Dev.flush (d : Dev) (p fps scs : Nat) : Dev :=
  (bits16 scs).foldl (fun (d : Dev) a => d.flushSc p a) ((bits16 fps).foldl (fun (d : Dev) a => d.flushFp p a) d)

end Sys2Proof.Machine
end

