-- ==== Sys2Proof/Machine/Functions.lean ====
section
/-! DEFINITION. Transcendental functions (R66 to R68): enclosures by integer arithmetic at rising precision, correctly
rounded in strict mode; a free choice within the stated bound in fast mode. -/

namespace Sys2Proof.Machine

/-- An enclosure: the value lies between lo × 2^u and hi × 2^u. -/
structure Encl where
  lo : Int
  hi : Int
  u : Int
  deriving DecidableEq, Repr

/-- One value. -/
def Encl.point (i : Int) (u : Int) : Encl := ⟨i, i, u⟩

/-- An integer shifted left, or right rounding down. -/
def shl (i : Int) (k : Int) : Int := if 0 ≤ k then i * 2 ^ k.toNat else i / 2 ^ (-k).toNat

/-- An integer shifted right rounding up. -/
def shlUp (i : Int) (k : Int) : Int := -shl (-i) k

/-- An enclosure in units of 2^u. -/
def Encl.to (a : Encl) (u : Int) : Encl := ⟨shl a.lo (a.u - u), shlUp a.hi (a.u - u), u⟩

/-- The sum of two enclosures. -/
def Encl.add (a b : Encl) : Encl :=
  let u := min a.u b.u
  let x := a.to u
  let y := b.to u
  ⟨x.lo + y.lo, x.hi + y.hi, u⟩

/-- The product of two enclosures. -/
def Encl.mul (a b : Encl) : Encl :=
  let p := [a.lo * b.lo, a.lo * b.hi, a.hi * b.lo, a.hi * b.hi]
  ⟨p.foldl min (a.lo * b.lo), p.foldl max (a.lo * b.lo), a.u + b.u⟩

/-- Bits of a magnitude. -/
def ilog (i : Int) : Nat := Nat.log2 i.natAbs

/-- An enclosure cut to `p` significant bits, outwards. -/
def Encl.trim (a : Encl) (p : Nat) : Encl :=
  let n := max (ilog a.lo) (ilog a.hi)
  if n ≤ p then a else a.to (a.u + ((n - p : Nat) : Int))

/-- The quotient of two positive enclosures to `p` significant bits. -/
def Encl.div (a b : Encl) (p : Nat) : Encl :=
  let s : Nat := p + 2 + ilog b.hi
  let m : Nat := 2 ^ s
  ⟨a.lo * m / b.hi, -((-(a.hi * m)) / b.lo), a.u - b.u - s⟩

/-! Constants and series in units of 2^(−p). -/

/-- ln 2 = Σ 1 ÷ (k × 2^k), within one unit for each term cut. -/
def ln2At (p : Nat) : Encl :=
  let s := (List.range (p + 8)).foldl (fun (acc : Nat) k => acc + 2 ^ p / ((k + 1) * 2 ^ (k + 1))) 0
  ⟨s, s + (p : Int) + 10, -(p : Int)⟩

/-- atan (1 ÷ n) = Σ (−1)^k ÷ ((2k + 1) × n^(2k+1)). -/
def atanInv (n p : Nat) : Int :=
  (List.range (p / 4 + 4)).foldl (fun (acc : Int) (k : Nat) =>
    let t : Int := ((2 ^ p / ((2 * k + 1) * n ^ (2 * k + 1)) : Nat) : Int)
    if k % 2 = 0 then acc + t else acc - t) 0

/-- π by Machin's formula. -/
def piAt (p : Nat) : Encl :=
  let v := 16 * atanInv 5 p - 4 * atanInv 239 p
  let e : Int := 20 * (p / 4 + 6)
  ⟨v - e, v + e, -(p : Int)⟩

/-- Σ r^k ÷ k! over `n` terms, r in units of 2^(−p), truncated towards zero at each product; from the last term up. -/
def expSeries (p : Nat) (r : Int) : Nat → Nat → Int
  | 0, _ => 2 ^ p
  | n + 1, k => 2 ^ p + (r * expSeries p r n (k + 1)).tdiv (2 ^ p * k)

/-- Terms that bring a series in |r| ≤ 1 below one unit. -/
def expTerms (p : Nat) : Nat := p / 5 + 40

/-- Σ z^(2k+1) ÷ (2k + 1), z in units of 2^(−p). -/
def atanhSeries (p : Nat) (z : Int) : Int :=
  let zz := (z * z).tdiv (2 ^ p)
  ((List.range (p / 3 + 8)).foldl (fun (acc : Int × Int) (k : Nat) =>
    (acc.1 + acc.2.tdiv (2 * (k : Int) + 1), (acc.2 * zz).tdiv (2 ^ p))) (0, z)).1

/-- cos r and sin r by their series, |r| ≤ 1, in units of 2^(−p). -/
def cosSin (p : Nat) (r : Int) : Int × Int :=
  let rr := (r * r).tdiv (2 ^ p)
  let n := p / 10 + 24
  let c := ((List.range n).foldl (fun (acc : Int × Int) (k : Nat) =>
    (acc.1 + acc.2, -((acc.2 * rr).tdiv (2 ^ p)).tdiv ((2 * (k : Int) + 1) * (2 * k + 2)))) (0, (2 ^ p : Int))).1
  let s := ((List.range n).foldl (fun (acc : Int × Int) (k : Nat) =>
    (acc.1 + acc.2, -((acc.2 * rr).tdiv (2 ^ p)).tdiv ((2 * (k : Int) + 2) * (2 * k + 3)))) (0, r)).1
  (c, s)

/-- The error allowance of a series in guard units: far above one unit for each of its truncations. -/
def slack (p : Nat) : Int := 16 * (p + 64)

/-! Functions of an enclosure, to about `p` bits. -/

/-- e^x. From |x| = 2,048 on the exponent of the result is held at ±4,000: every format overflows or underflows alike there, and
1 + e^x and e^x − 1 stay on their side of each rounding boundary. -/
def exEncl (p : Nat) (x : Encl) : Encl :=
  let g := p + 64
  let e := (max (ilog x.lo) (ilog x.hi) : Int) + x.u
  if 10 < e then
    if x.lo > 0 then Encl.point 1 4000 else Encl.point 1 (-4000)
  else
    let l := ln2At (g + 32)
    let k : Int := ((x.to (-(g : Int))).lo * 2 ^ 32).tdiv l.lo
    let r := (x.add ((Encl.point (-k) 0).mul l)).to (-(g : Int))
    let lo := expSeries g r.lo (expTerms g) 1 - slack g
    let hi := expSeries g r.hi (expTerms g) 1 + slack g
    ⟨lo, hi, k - g⟩

/-- ln x of a positive value m × 2^e. -/
def lnEncl (p m : Nat) (e : Int) : Encl :=
  let g := p + 64
  let k : Int := e + Nat.log2 m
  let f : Int := shl m ((g : Int) - Nat.log2 m)
  let err : Int := 2
  let one : Int := 2 ^ g
  let z := ((f - one) * one).tdiv (f + one)
  let s := 2 * atanhSeries g z
  let ln : Encl := ⟨s - slack g - err, s + slack g + err, -(g : Int)⟩
  ln.add ((Encl.point k 0).mul (ln2At (g + 16)))

/-- The value of a finite magnitude as an enclosure. -/
def enclOf (neg : Bool) (m : Nat) (e : Int) : Encl := Encl.point (if neg then -(m : Int) else m) e

/-- E ÷ (1 + E) for a positive enclosure E: the logistic of ln E. -/
def sigmaOf (p : Nat) (e : Encl) : Encl := e.div (e.add (Encl.point 1 0)) p

/-- sin or cos of a value, by reduction to a quarter turn. -/
def trigEncl (p : Nat) (wantCos : Bool) (x : Encl) (m : Nat) (e : Int) : Encl :=
  let g := p + 64
  let big := (max 0 (e + Nat.log2 m + 2)).toNat
  let pi := piAt (g + big + 16)
  let half : Encl := ⟨pi.lo, pi.hi, pi.u - 1⟩
  let k : Int := (2 * (shl x.lo (x.u - half.u)) + half.lo) / (2 * half.lo)
  let r := (x.add ((Encl.point (-k) 0).mul half)).to (-(g : Int))
  let cs := cosSin g r.lo
  let er := slack g + (r.hi - r.lo)
  let q := (k + (if wantCos then 1 else 0)) % 4
  let v : Int := if q = 0 then cs.2 else if q = 1 then cs.1 else if q = 2 then -cs.2 else -cs.1
  ⟨v - er, v + er, -(g : Int)⟩

/-- √(2 ÷ π). -/
def rootTwoOverPi (p : Nat) : Encl :=
  let pi := piAt (2 * p)
  let lo := Nat.sqrt (2 * 2 ^ (4 * p) / pi.hi.toNat)
  let hi := Nat.sqrt (2 * 2 ^ (4 * p) / pi.lo.toNat) + 1
  ⟨lo, hi, -(p : Int)⟩

/-! Rounding an enclosure. -/

/-- The value of an enclosure's end. -/
def endVal (i : Int) (u : Int) : Val := Val.ofInt i u

/-- A code's value lies within an enclosure. -/
def Encl.holds (a : Encl) (v : Val) : Bool :=
  !((v.lt (endVal a.lo a.u)) || ((endVal a.hi a.u).lt v))

/-- An enclosure rounded, when both ends round alike and the result is surely not exact. -/
def roundEncl (f : Ieee) (rm : Rm) (a : Encl) : Option (Nat × Nat) :=
  let x := f.encode rm (endVal a.lo a.u)
  let y := f.encode rm (endVal a.hi a.u)
  if x.1 = y.1 && !a.holds (f.decode x.1) then some (x.1, x.2 ||| y.2 ||| nsINEXACT) else none

/-- The dyadic value of few bits that an enclosure closes in on: an exact or a halfway result. -/
def snapEncl (f : Ieee) (a : Encl) : Val :=
  let mid := a.lo + a.hi
  let n := ilog mid
  let cut := n - (f.fw + 8)
  let q := (mid + 2 ^ cut / 2) / 2 ^ cut
  endVal q (a.u - 1 + cut)

/-- The precisions tried in turn; the last tells every result that is not exact from its neighbours. -/
def precisions : List Nat := [128, 512, 1600, 4800]

/-- A function given by enclosures at any precision, correctly rounded. -/
def roundFn (f : Ieee) (rm : Rm) (g : Nat → Encl) : Nat × Nat :=
  match precisions.findSome? (fun p => roundEncl f rm (g p)) with
  | some r => r
  | none => f.encode rm (snapEncl f (g 4800))

/-! The functions. -/

/-- The functions of R214, and the two smooth rectifiers of R102. -/
inductive Fn where
  | exp | exp2 | expm1 | log | log2 | log1p | rsqrt | sin | cos | tanh | logistic | pow | gelu | silu
  deriving DecidableEq, Repr

/-- VFUNC's SUB (R214). -/
def fnOf (n : Nat) : Option Fn :=
  [Fn.exp, .exp2, .expm1, .log, .log2, .log1p, .rsqrt, .sin, .cos, .tanh, .logistic, .pow][n]?

/-- A result that needs no evaluation: an exact value with a sign, or flags. -/
structure Special where
  v : Val
  flags : Nat
  deriving DecidableEq, Repr

/-- An invalid operation. -/
def invalidOp : Option Special := some ⟨.nan false, nsINVALID⟩

/-- An exact power of two: its exponent. -/
def isPow2 (m : Nat) (e : Int) : Option Int := if m = 2 ^ Nat.log2 m then some (e + Nat.log2 m) else none

/-- A finite value is an integer, and whether it is odd. -/
def intParity (v : Val) : Option Bool :=
  match v with
  | .fin _ m e =>
    if m = 0 then some false
    else if 0 ≤ e then some (e = 0 && m % 2 = 1)
    else
      let s := (-e).toNat
      if m % 2 ^ s = 0 then some (m / 2 ^ s % 2 = 1) else none
  | _ => none

/-- One finite value equals 1. -/
def isOne (v : Val) : Bool := v.isFin && v.eqv (.fin false 1 0)

/-- pow's special operands (IEEE 754-2019 clause 9, R67). -/
def powSpecial (x y : Val) : Option Special :=
  let q (v : Val) : Option Special := some ⟨v, 0⟩
  let odd : Bool := intParity y == some true
  if x.isSnan || y.isSnan then invalidOp
  else if y.isZero then q (.fin false 1 0)
  else if isOne x then q (.fin false 1 0)
  else if x.isNan || y.isNan then q (.nan false)
  else if x.isZero then
    if y.isNeg then
      if y.isInf then q (.inf false) else some ⟨.inf (x.isNeg && odd), nsDIVZERO⟩
    else q (.fin (x.isNeg && odd) 0 0)
  else if y.isInf then
    let c := x.abs.cmp (.fin false 1 0)
    if c == .eq then q (.fin false 1 0)
    else if (c == .gt) != y.isNeg then q (.inf false) else q (.fin false 0 0)
  else if x.isInf then
    let neg := x.isNeg && odd
    if y.isNeg then q (.fin neg 0 0) else q (.inf neg)
  else if x.isNeg && (intParity y).isNone then invalidOp
  else none

/-- The special operands of the functions of one operand (IEEE 754-2019 clause 9, R67, R105). -/
def fnSpecial (f : Fn) (x : Val) : Option Special :=
  let q (v : Val) : Option Special := some ⟨v, 0⟩
  if x.isSnan then invalidOp
  else if x.isNan then q (.nan false)
  else
    let neg := x.isNeg
    match f with
    | .exp | .exp2 =>
      if x.isInf then q (if neg then .zero else .inf false)
      else if x.isZero then q (.fin false 1 0)
      else if f = .exp2 then
        match x with
        | .fin n m e =>
          if (intParity x).isSome && e + Nat.log2 m ≤ 12 then q (.fin false 1 (if n then -(shl m e) else shl m e)) else none
        | _ => none
      else none
    | .expm1 =>
      if x.isInf then q (if neg then .fin true 1 0 else .inf false) else if x.isZero then q x else none
    | .log | .log2 =>
      if x.isZero then some ⟨.inf true, nsDIVZERO⟩
      else if neg then invalidOp
      else if x.isInf then q x
      else if isOne x then q .zero
      else if f = .log2 then
        match x with
        | .fin _ m e =>
          match isPow2 m e with
          | some k => q (Val.ofInt k 0)
          | none => none
        | _ => none
      else none
    | .log1p =>
      if x.isZero then q x
      else if x.isInf then (if neg then invalidOp else q x)
      else
        match x.cmp (.fin true 1 0) with
        | .eq => some ⟨.inf true, nsDIVZERO⟩
        | .lt => invalidOp
        | .gt => none
    | .rsqrt =>
      if x.isZero then some ⟨.inf neg, nsDIVZERO⟩
      else if neg then invalidOp
      else if x.isInf then q .zero
      else none
    | .sin => if x.isInf then invalidOp else if x.isZero then q x else none
    | .cos => if x.isInf then invalidOp else if x.isZero then q (.fin false 1 0) else none
    | .tanh => if x.isInf then q (.fin neg 1 0) else if x.isZero then q x else none
    | .logistic =>
      if x.isInf then q (if neg then .zero else .fin false 1 0)
      else if x.isZero then q (.fin false 1 (-1))
      else none
    | .gelu | .silu =>
      if x.isInf then q (if neg then .fin true 0 0 else .inf false) else if x.isZero then q x else none
    | .pow => none

/-- The enclosure of a function of a finite nonzero value at precision `p`. -/
def fnEncl (f : Fn) (n : Bool) (m : Nat) (e : Int) (p : Nat) : Encl :=
  let x := enclOf n m e
  match f with
  | .exp => exEncl p x
  | .exp2 => exEncl p ((x.mul (ln2At (p + 96 + (max 0 (e + Nat.log2 m)).toNat))).trim (p + 96))
  | .expm1 => (exEncl p x).add (Encl.point (-1) 0)
  | .log => lnEncl p m e
  | .log2 => 
    let a := lnEncl p m e
    let l := ln2At (p + 64)
    if 0 ≤ a.lo then a.div l p
    else
      let r := (⟨-a.hi, -a.lo, a.u⟩ : Encl).div l p
      ⟨-r.hi, -r.lo, r.u⟩
  | .log1p =>
    let y := (x.add (Encl.point 1 0))
    lnEncl p y.lo.toNat y.u
  | .rsqrt =>
    let s : Nat := 2 * p + 2 + Nat.log2 m + (if (e % 2 = 0) then 0 else 1)
    let s := if ((s : Int) + e) % 2 = 0 then s else s + 1
    let r := Nat.sqrt (2 ^ s / m)
    ⟨r, r + 1, -(((s : Int) + e) / 2)⟩
  | .sin => trigEncl p false x m e
  | .cos => trigEncl p true x m e
  | .tanh =>
    let b := exEncl p ⟨x.lo, x.hi, x.u + 1⟩
    let num := b.add (Encl.point (-1) 0)
    let den := b.add (Encl.point 1 0)
    if 0 ≤ num.lo then num.div den p
    else
      let r := (⟨-num.hi, -num.lo, num.u⟩ : Encl).div den p
      ⟨-r.hi, -r.lo, r.u⟩
  | .logistic => sigmaOf p (exEncl p x)
  | .silu => (x.mul (sigmaOf p (exEncl p x)))
  | .gelu =>
    let c := (rootTwoOverPi (p + 200)).mul (Encl.point 1 1)
    let k := (Encl.point 44715 0).mul ((Encl.point 1 0).div (Encl.point 1000000 0) (p + 200))
    let w := x.add ((x.mul (x.mul x)).mul k)
    x.mul (sigmaOf p (exEncl p ((c.mul w).trim (p + 160))))
  | .pow => x

/-- pow of finite nonzero operands, |x|^y. -/
def powEncl (mx : Nat) (ex : Int) (y : Encl) (ey : Int) (p : Nat) : Encl :=
  let w := p + 96 + (max 0 ey).toNat
  exEncl p (((lnEncl w mx ex).mul y).trim (p + 160))

/-- A function correctly rounded (R66, strict): code and flags. A special operand's result is exact. -/
def fnStrict (f : Fn) (i : Ieee) (rm : Rm) (x y : Val) : Nat × Nat :=
  if f = .pow then
    match powSpecial x y, x, y with
    | some s, _, _ => ((i.encode rm s.v).1, s.flags)
    | none, .fin nx mx ex, .fin ny my ey =>
      let r := roundFn i (match rm with
          | .up => if nx && intParity y == some true then .down else .up
          | .down => if nx && intParity y == some true then .up else .down
          | r => r) (fun p => powEncl mx ex (enclOf ny my ey) (ey + Nat.log2 my) p)
      (if nx && intParity y == some true then r.1 + i.signBit else r.1, r.2)
    | none, _, _ => (i.nanCode, 0)
  else
    match fnSpecial f x, x with
    | some s, _ =>
      let r := i.encode rm s.v
      (r.1, s.flags ||| r.2)
    | none, .fin n m e => roundFn i rm (fun p => fnEncl f n m e p)
    | none, _ => (i.nanCode, 0)

/-- The error bound of fast mode in ulps (R66). -/
def fastUlps (f : Fn) (double : Bool) : Nat :=
  match f with
  | .exp | .exp2 | .expm1 | .log | .log2 | .log1p => if double then 2 else 1
  | .rsqrt => 1
  | .sin | .cos => 2
  | .tanh | .logistic => if double then 3 else 2
  | .pow => if double then 4 else 2
  | .gelu | .silu => 2

/-- A function in fast mode (R66, R67): special and exact results as in strict mode; else one of the codes within the
bound, by a free choice that depends on the operands alone (log entry 10). |x| > 2^20 takes the strict path of sin and
cos. -/
def fnFast (f : Fn) (i : Ieee) (rm : Rm) (x y : Val) : Nat × Nat :=
  let s := fnStrict f i rm x y
  let slow := (f = .sin || f = .cos) && Val.lt (.fin false 1 20) x.abs
  let special := if f = .pow then (powSpecial x y).isSome else (fnSpecial f x).isSome
  if special || slow || s.2 &&& nsINEXACT = 0 then s
  else
    let z := fnStrict f i .zero x y
    let k := fastUlps f (i.fw == 52)
    let body := z.1 % i.signBit
    let pick := Config.fastPick (f.ctorIdx) i.fw x y % (2 * k)
    let b := min (body + pick - (k - 1)) i.infCode
    (z.1 - body + b, nsINEXACT ||| flagIf (b == i.infCode) nsOVERFLOW |||
      flagIf (bits b (i.ew + i.fw - 1) i.fw == 0) nsUNDERFLOW)

end Sys2Proof.Machine
end

