-- ==== Sys2Proof/Machine/Output.lean ====
section
/-! DEFINITION. Output-stage commands: STORE, SCOUT and SCORE_MAX (R97, R102 to R111, R124 to R134, R212, R213). -/

namespace Sys2Proof.Machine

/-! ## Fields (R212) -/

/-- SCALE. -/
def oScale (e : Nat) : Nat := eArgs e 20 18
/-- BIAS. -/
def oBias (e : Nat) : Nat := eArgs e 23 21
/-- ACT. -/
def oAct (e : Nat) : Nat := eArgs e 26 24
/-- SR. -/
def oSr (e : Nat) : Bool := eArgBit e 27
/-- CLR. -/
def oClr (e : Nat) : Bool := eArgBit e 28
/-- FPACC. -/
def oFpacc (e : Nat) : Nat := eArgs e 32 29
/-- FPEN. -/
def oFpen (e : Nat) : Bool := eArgBit e 33
/-- ATOM. -/
def oAtom (e : Nat) : Nat := eArgs e 36 34
/-- HEADROOM, signed. -/
def oHeadroom (e : Nat) : Int := sext (eArgs e 40 37) 4
/-- SCACC. -/
def oScacc (e : Nat) : Nat := eArgs e 44 41
/-- WRITE. -/
def oWrite (e : Nat) : Bool := eArgBit e 45
/-- LO. -/
def oLo (e : Nat) : Val := ieeeFP32.decode (eArgs e 79 48)
/-- HI. -/
def oHi (e : Nat) : Val := ieeeFP32.decode (eArgs e 111 80)
/-- TID. -/
def oTid (e : Nat) : Nat := eImm e 31 0
/-- The FP32 multiplier or score scale. -/
def oMult (e : Nat) : Val := ieeeFP32.decode (eImm e 63 32)

/-- Functions run in fast mode (R56, R57). -/
def Tile.fnFastMode (t : Tile) : Bool := t.fld tNUM_CTRL 0 0 == 1 && t.fld tNUM_CTRL 1 1 == 1

/-- Storage rows and columns of a region's output (R212). -/
def outShape (q : Desc) (g : Region) : Nat × Nat := if q.orient then (g.n, g.m) else (g.m, g.n)

/-- A destination holds the region's output. -/
def outCovers (q : Desc) (g : Region) : Bool := (outShape q g).1 ≤ q.rows && (outShape q g).2 ≤ q.cols

/-- The storage position of element `k` of a descriptor, row by row. -/
def Desc.nth (q : Desc) (k : Nat) : Nat × Nat := (k / q.cols, k % q.cols)

/-! ## Checks -/

/-- The scale operand (R102, R132). -/
def scaleNeed (t : Tile) (e : Nat) (g : Region) : Option Bad :=
  let q := t.descr (eH1 e)
  match oScale e with
  | 1 => need (q.fmt == fFP32 && g.n ≤ q.count) (skipR 0x04 (eH1 e))
  | 3 => need (q.fmt == fI32 && 2 * g.n ≤ q.count) (skipR 0x04 (eH1 e))
  | _ => none

/-- The bias operand (R102). -/
def biasNeed (t : Tile) (e : Nat) (g : Region) : Option Bad :=
  let q := t.descr (eH2 e)
  match oBias e with
  | 1 => need (q.fmt == fFP32 && g.n ≤ q.count) (skipR 0x04 (eH2 e))
  | 2 => need (q.fmt == fFP32 && outCovers q g) (skipR 0x04 (eH2 e))
  | _ => none

/-- The handles a STORE or SCOUT uses. -/
def outHandles (e : Nat) : List Nat :=
  [eH0 e] ++ (if oScale e = 1 ∨ oScale e = 3 then [eH1 e] else []) ++ (if oBias e = 1 ∨ oBias e = 2 then [eH2 e] else [])

/-- An IEEE pipeline is used before its known-answer tests have passed (R72, R73). -/
def ieeeBad (t : Tile) (uses : Bool) : Option Bad := need (!uses || t.ieeeOk) (stopR 0x12 0x1E 0)

/-- A format of the IEEE pipelines (R72). -/
def ieeePipe (f : Nat) : Bool := f == fFP16 || f == fFP32 || f == fFP64

/-- The clamp's bounds (R102). -/
def clampBad (e : Nat) : Option Bad :=
  need (!(oAct e == 2 && ((oLo e).isNan || (oHi e).isNan || (oHi e).lt (oLo e)))) (skipR 0x02 48)

/-- The blocks of a block-scaled destination lie whole in the output (R130). -/
def blockBad (q : Desc) (g : Region) : Option Bad :=
  let nc := (outShape q g).2
  need (!(isGBlock q.fmt && nc < q.cols && nc % 32 != 0)) (skipR 0x0F 0)

/-- The checks that STORE and SCOUT share after their opcode; `fmt` says that the destination's format meets the opcode's
need (R204). -/
def outShared (d : Dev) (q : Issue) (fmt : Bool) : List (Option Bad) :=
  let t := d.tile q.p
  let e := q.e
  let g := regionOf e
  let o := t.descr (eH0 e)
  [fusedBad d t (outHandles e),
   ieeeBad t (ieeePipe o.fmt),
   ownBad d t [eH0 e],
   need (outCovers o g && fmt) (skipR 0x04 (eH0 e)),
   ownBad d t ((outHandles e).drop 1),
   scaleNeed t e g,
   biasNeed t e g,
   need g.ok (skipR 0x0C 0),
   need (oScale e ≤ 3) (skipR 0x02 18),
   need (oBias e ≤ 2) (skipR 0x02 21),
   need (oAct e ≤ 4) (skipR 0x02 24),
   need (!((o.fmt == fStook || o.fmt == fBushel) && (oScale e != 0 || oAct e > 2))) (skipR 0x12 0),
   need (!(oScale e == 3 && o.fmt != fI8)) (skipR 0x11 18),
   clampBad e,
   tidBad (oTid e),
   blockBad o g]

/-- The banks of the operands of a STORE or SCOUT. -/
def outBanks (t : Tile) (e : Nat) : List Nat := (outHandles e).map (fun h => (t.descr h).banks)

/-- A format that takes stochastic rounding (R125). -/
def srDest (f : Nat) : Bool := isGBlock f || f == fG16 || f == fFP16

/-- The format an ATOM needs (R212): none for a code without an element format. -/
def atomFmt (a : Nat) : Option Nat :=
  match a with
  | 1 => some fI32
  | 3 => some fStook
  | 4 => some fBushel
  | _ => none

/-- STORE's checks. -/
def storeCheck (d : Dev) (q : Issue) : Option Bad :=
  let t := d.tile q.p
  let e := q.e
  let o := t.descr (eH0 e)
  firstBad (outShared d q true ++
    [need (!oSr e || srDest o.fmt) (skipR 0x10 27),
     need (!oSr e || t.hasKey 0) (skipR 0x14 0),
     need (oAtom e ≤ 5) (skipR 0x02 34),
     need (oAtom e == 0 || (atomFmt (oAtom e) == some o.fmt && (o.fmt != fBushel || o.bushelInBank))) (skipR 0x19 34),
     need (!(oFpen e && otherTid (sget FpAcc.empty t.fp (oFpacc e)).tid (oTid e))) (skipR 0x21 29),
     shareBad (outBanks t e),
     busyBad t .out q.x])

/-- SCOUT's checks. -/
def scoutCheck (d : Dev) (q : Issue) : Option Bad :=
  let t := d.tile q.p
  let e := q.e
  firstBad (outShared d q (isGBlock (t.descr (eH0 e)).fmt) ++
    [need (!otherTid (sget ScAcc.empty t.sc (oScacc e)).tid (oTid e)) (skipR 0x21 41),
     shareBad (outBanks t e),
     busyBad t .out q.x])

/-- The handles of SCORE_MAX. -/
def scoreHandles (e : Nat) : List Nat := (if oWrite e then [eH0 e] else []) ++ [eH1 e, eH2 e]

/-- SCORE_MAX's checks (R97, R212). -/
def scoreCheck (d : Dev) (q : Issue) : Option Bad :=
  let t := d.tile q.p
  let e := q.e
  let g := regionOf e
  firstBad [
    fusedBad d t (scoreHandles e),
    ieeeBad t true,
    ownBad d t (scoreHandles e),
    need (!oWrite e || ((t.descr (eH0 e)).fmt == fFP32 && outCovers (t.descr (eH0 e)) g)) (skipR 0x04 (eH0 e)),
    need ((t.descr (eH1 e)).fmt == fFP32 && g.m ≤ (t.descr (eH1 e)).count) (skipR 0x04 (eH1 e)),
    need ((t.descr (eH2 e)).fmt == fI8 && outCovers (t.descr (eH2 e)) g) (skipR 0x04 (eH2 e)),
    need g.ok (skipR 0x0C 0),
    tidBad (oTid e),
    shareBad ((scoreHandles e).map (fun h => (t.descr h).banks)),
    busyBad t .out q.x]

/-! ## The working value (R102 to R105, R133) -/

/-- A multiplier is a zero or has a magnitude in [2^−64, 2^64) (R102). -/
def multOk (m : Val) : Bool :=
  m.isFin && (m.isZero || (!(m.abs.lt (.fin false 1 (-64))) && m.abs.lt (.fin false 1 64)))

/-- The multiplier of a requantisation entry (R132, R133). -/
def rqMult (w : Nat) : Val := .fin false (if w.testBit 31 then 1 else bits w 30 0) (-(sext (bits w 38 32) 7))

/-- The multiplier of channel `n`; none where the command scales by 1. -/
def outMult (t : Tile) (e n : Nat) : Option Val :=
  let q := t.descr (eH1 e)
  let at_ (k : Nat) : Nat := rdElem t.loft q (q.nth k).1 (q.nth k).2
  match oScale e with
  | 1 => some (ieeeFP32.decode (at_ n))
  | 2 => some (oMult e)
  | 3 => some (rqMult (at_ (2 * n) + 2 ^ 32 * at_ (2 * n + 1)))
  | _ => none

/-- The bias of an element. -/
def outBiasVal (t : Tile) (e r n : Nat) : Val :=
  let q := t.descr (eH2 e)
  match oBias e with
  | 1 => ieeeFP32.decode (rdElem t.loft q (q.nth n).1 (q.nth n).2)
  | 2 => ieeeFP32.decode (rdElem t.loft q (q.storage r n).1 (q.storage r n).2)
  | _ => .zero

/-- The value with its zero's sign dropped, as the working register holds it (R102). -/
def Val.unsignZero (v : Val) : Val := if v.isZero then .zero else v

/-- A working value with the flags its making raised: NUM_STATUS and ACC_STATUS bits. -/
structure Work where
  v : Val
  ns : Nat
  acc : Nat
  deriving DecidableEq, Repr

/-- INVALID of a sum of two values: a signalling NaN, or opposite infinities. -/
def sumFlags (a b : Val) : Nat :=
  flagIf (a.isSnan || b.isSnan || (a.isInf && b.isInf && a.isNeg != b.isNeg)) nsINVALID

/-- The activation (R102, R104, R105). -/
def activate (t : Tile) (e : Nat) (v : Val) : Val × Nat :=
  match oAct e with
  | 1 => if v.isNan then (v, 0) else if v.isNeg then (.zero, 0) else (v, 0)
  | 2 => if v.isNan then (v, 0)
         else if v.lt (oLo e) then ((oLo e).unsignZero, 0) else if (oHi e).lt v then ((oHi e).unsignZero, 0) else (v, 0)
  | 3 =>
    let x := ieeeFP32.encode .ne v
    let y := (if t.fnFastMode then fnFast else fnStrict) .gelu ieeeFP32 .ne (ieeeFP32.decode x.1) .zero
    (ieeeFP32.decode y.1, x.2 ||| y.2)
  | 4 =>
    let x := ieeeFP32.encode .ne v
    let y := (if t.fnFastMode then fnFast else fnStrict) .silu ieeeFP32 .ne (ieeeFP32.decode x.1) .zero
    (ieeeFP32.decode y.1, x.2 ||| y.2)
  | _ => (v, 0)

/-- The value that enters conversion, of row `r`, channel `n` (R102 to R105). -/
def workVal (t : Tile) (e r n : Nat) (v : Val) : Work :=
  let fin_ (v : Val) (ns acc : Nat) : Work :=
    let b := if oBias e = 0 then (v, 0) else ((v.add (outBiasVal t e r n)).unsignZero, sumFlags v (outBiasVal t e r n))
    let a := activate t e b.1
    ⟨a.1, ns ||| b.2 ||| a.2, acc⟩
  match outMult t e n with
  | none => fin_ v 0 0
  | some m =>
    if multOk m then fin_ (v.mul m).unsignZero (prodFlags v m) 0
    else ⟨.nan false, nsINVALID, asSCALE_OOR⟩

/-! ## Writing an element -/

/-- What a run of an output-stage command threads: the device, the Pocket state, uncached escaped reads, flags, counts,
the reads made, and whether the command has stopped. -/
structure OutRun where
  d : Dev
  k : Pk
  ns : Nat
  acc : Nat
  satI8 : Nat
  reads : List OutRead
  dead : Bool
  deriving DecidableEq, Repr

/-- The rounding direction of a stochastic rounding of index `i` (R124). -/
def srMode (t : Tile) (tid i : Nat) : Rm := .sr (threshing (t.key 0) tid (t.rd tTHR_STEP) i % 2 ^ 32)

/-- The bytes that hold an element of a descriptor. -/
def Desc.elemBytes (q : Desc) (r c : Nat) : Nat × Nat :=
  let w := fmtWidth q.fmt
  (q.rowAddr r + c * w / 8, (c * w % 8 + w + 7) / 8)

/-- What a block-scaled conversion writes for a value at the block's scale code (R129): code, flags. -/
def blockConv (fmt : Nat) (rm : Rm) (s : Int) (v : Val) : Nat × Nat :=
  if s = -128 then (0, flagIf (!v.isZero) nsSAT)
  else if scaleValid s then (gfmt fmt).encode rm v s
  else ((gfmt fmt).nv, nsSCALE_RSVD ||| nsNV_OUT)

/-- A converted element of any format but Stook and Bushel: code, flags, saturated I8. -/
def outConv (fmt : Nat) (rm : Rm) (s : Int) (fromFloat : Bool) (v : Val) : Conv :=
  if isGBlock fmt then
    let r := blockConv fmt rm s v
    ⟨r.1, r.2, false⟩
  else convert fmt rm s fromFloat true v

/-- An element code written plainly. -/
def Dev.putElem (d : Dev) (p : Nat) (q : Desc) (r c v : Nat) : Dev :=
  let b := q.elemBytes r c
  d.onTile p (fun t => { t with loft := wrElem t.loft q r c v, loftErr := clearFlips t.loftErr b.1 b.2 })

/-- A scale code written. -/
def Dev.putScale (d : Dev) (p : Nat) (q : Desc) (r c : Nat) (s : Int) : Dev :=
  d.onTile p (fun t => { t with loft := wrScale t.loft q r c s, loftErr := clearFlips t.loftErr (q.scaleAddr r c) 1 })

/-- Fingerprint and norm of an element written (R109, R110), when FPEN is set. -/
def OutRun.feed (s : OutRun) (p : Nat) (en : Bool) (a tid i u : Nat) (v : Val) : OutRun :=
  if en then { s with d := s.d.onTile p (fun t => t.fpElem a tid i u v) } else s

/-- A Stook or Bushel element (R89, R90, R106, R173): plain, or added to the bank's word. -/
def OutRun.exactElem (s : OutRun) (p : Nat) (q : Desc) (atom r c : Nat) (v : Val) : OutRun :=
  let b := bushelClamp v
  let s := { s with acc := s.acc ||| flagIf b.2 asOVF }
  let a := (q.elemBytes r c).1
  if atom = 3 then { s with d := s.d.atomAddStook p a b.1 }
  else if atom = 4 then { s with d := s.d.atomAddBushel p a b.1 }
  else if q.fmt = fBushel then { s with d := s.d.loftWrite p a (leBytes 80 (bushelCode b.1).1) }
  else
    match stookOf b.1 with
    | some w => { s with d := s.d.loftWrite p a (leBytes 16 w) }
    | none =>
      match s.d.takeSlot p b.1 with
      | some (d, w) => { s with d := d.loftWrite p a (leBytes 16 w) }
      | none => { s with dead := true, acc := s.acc ||| asESC_EXHAUST }

/-- One element of STORE: its working value converted and written (R104, R107, R109, R110, R124, R129). -/
def OutRun.storeElem (s : OutRun) (q : Issue) (r n : Nat) (v : Val) : OutRun :=
  let e := q.e
  let t := s.d.tile q.p
  let o := t.descr (eH0 e)
  let w := workVal t e r n v
  let sp := o.storage r n
  let i := o.index sp.1 sp.2
  let s := { s with ns := s.ns ||| w.ns, acc := s.acc ||| w.acc }
  if o.fmt = fStook ∨ o.fmt = fBushel then
    let b := (bushelClamp w.v).1
    let s := s.exactElem q.p o (oAtom e) sp.1 sp.2 w.v
    if s.dead then s else s.feed q.p (oFpen e) (oFpacc e) (oTid e) i (bushelCode b).1 (normVal o.fmt b)
  else
    let rm := if oSr e then srMode t (oTid e) i else .ne
    let sc := rdScale t.loft o sp.1 sp.2
    let cv := outConv o.fmt rm sc (oAct e > 2) w.v
    let d := if oAtom e = 1 then s.d.atomAddInt q.p (o.elemBytes sp.1 sp.2).1 4 cv.code
      else s.d.putElem q.p o sp.1 sp.2 cv.code
    let d := if oSr e then d.onTile q.p (fun t => t.bump tSR_COUNT 1) else d
    let s := { s with d := d, ns := s.ns ||| cv.flags, satI8 := s.satI8 + b2n cv.satI8 }
    s.feed q.p (oFpen e) (oFpacc e) (oTid e) i cv.code (normVal o.fmt (elemVal o.fmt cv.code sc))

/-- A register read in its batch at tc `y`, and cleared when the command clears (R143, R213). An escaped register whose slot
is not cached fetches it (R92, R108). -/
def OutRun.read (s : OutRun) (p : Nat) (clr : Bool) (j y : Nat) : OutRun × Val :=
  let t := s.d.tile p
  let grn := s.d.grnSlots t
  let v := s.k.readAt grn j y
  let k := s.k
  let k := if isEscapeWord (sget 0 k.pocket j).toNat && !clr then
      let cached := k.cache.any (fun c => c.1 == j)
      let k := { k with miss := if cached then k.miss else k.miss ++ [(j, y)] }
      k.place j (k.slot grn j)
    else if isEscapeWord (sget 0 k.pocket j).toNat && !k.cache.any (fun c => c.1 == j) then
      { k with miss := k.miss ++ [(j, y)] }
    else k
  let k := if clr then k.clearAt grn (t.logical.getD 0) j y else k
  ({ s with k := k }, v)

/-- The batch width: 16 registers for a smooth activation in strict mode (R108). -/
def outWidth (t : Tile) (e : Nat) : Nat := if oAct e > 2 && oAct e ≤ 4 && !t.fnFastMode then 16 else 128

/-- The latency from Pocket read to Loft write (R108). -/
def outLatency (t : Tile) (e : Nat) : Nat := if oAct e ≤ 2 then 14 else if t.fnFastMode then 22 else 74

/-- A command's run over its region in ascending register order (R89, R213). -/
def outSweep (q : Issue) (w : Nat) (clr : Bool) (elem : OutRun → Nat → Nat → Nat → Val → OutRun) (s : OutRun) : OutRun :=
  let g := regionOf q.e
  g.cells.foldl (fun (s : OutRun) rc =>
    if s.dead then s
    else
      let j := g.reg rc.1 rc.2
      let y := q.x + (j - g.j0) / w
      let r := s.read q.p clr j y
      elem r.1 rc.1 rc.2 y r.2) s

/-- A run at its start. -/
def OutRun.start (d : Dev) (q : Issue) : OutRun :=
  let t := d.tile q.p
  { d := d, k := { Pk.ofTile t with hist := t.hist.filter (fun h => q.x ≤ h.tc) }, ns := 0, acc := 0, satI8 := 0,
    reads := t.outReads.filter (fun o => q.x ≤ o.tc), dead := false }

/-- A run's end: Pocket state, flags, counts, slot fetches; a command that ran out of escape slots stops the table (R90). -/
def OutRun.finish (s : OutRun) (q : Issue) (cmd : EngCmd) : Dev :=
  let d := s.d.putPk q.p s.k
  let d := d.onTile q.p (fun t =>
    let t := (((t.orBits tNUM_STATUS s.ns).orBits tACC_STATUS s.acc).bump tSAT_I8_COUNT s.satI8)
    let t := { t with outReads := s.reads, fetch := t.fetch ++ groupMisses (s.k.miss.length + 1) s.k.miss }
    if s.dead then t else t.engage cmd)
  if s.dead then d.refuse q ⟨0x10, 0x15, 0, true⟩ else d

/-! ## STORE -/

/-- The blocks of a block-scaled destination after their elements are written: padding elements get code 0 (R46), a block all
of whose elements are zero gets scale code 0x80 (R47, R129), and its code reaches the fingerprint (R110). -/
def closeBlock (q : Issue) (o : Desc) (nc : Nat) (s : OutRun) (r b : Nat) : OutRun :=
  let e := q.e
  let t := s.d.tile q.p
  let sc := rdScale t.loft o r (32 * b)
  let cols := (List.range 32).filter (fun i => 32 * b + i < nc)
  let pad := (List.range 32).filter (fun i => nc ≤ 32 * b + i)
  let zero := cols.all (fun i => rdElem t.loft o r (32 * b + i) == 0)
  let d := pad.foldl (fun (d : Dev) i => d.putElem q.p o r (32 * b + i) 0) s.d
  let rewrite := zero && scaleValid sc
  let d := if rewrite then
      (d.putScale q.p o r (32 * b) (-128)).onTile q.p (fun t => t.orBits tSCOUT_STATUS 1)
    else d
  let code := if rewrite then 0x80 else wrapN sc 8
  { s with d := if oFpen e then d.onTile q.p (fun t => t.fpBlock (oFpacc e) (oTid e) (o.index r (32 * b)) code) else d }

/-- The uses of an output-stage command: its operands from its issue, its destination from its first write. -/
def outUses (d : Dev) (q : Issue) : List Use :=
  let t := d.tile q.p
  match (outHandles q.e).map (fun h => (t.descr h).banks) with
  | m :: r => ⟨2, m, q.x + outLatency t q.e⟩ :: r.map (fun b => ⟨2, b, q.x⟩)
  | [] => []

/-- STORE's work. -/
def storeBody (d : Dev) (q : Issue) : Dev :=
  let t := d.tile q.p
  let e := q.e
  let g := regionOf e
  let o := t.descr (eH0 e)
  let w := outWidth t e
  let s := outSweep q w (oClr e) (fun s r n y v =>
    let sp := o.storage r n
    let b := o.elemBytes sp.1 sp.2
    let s := s.storeElem q r n v
    { s with reads := s.reads ++ [⟨g.reg r n, y, b.1, b.2⟩] }) (OutRun.start d q)
  let sh := outShape o g
  let s := if isGBlock o.fmt && !s.dead then
      (List.range sh.1).foldl (fun (s : OutRun) r =>
        (List.range ((sh.2 + 31) / 32)).foldl (fun (s : OutRun) b => closeBlock q o sh.2 s r b) s) s
    else s
  let nb := g.batches w
  let s := { s with d := s.d.onTile q.p (fun t => (t.bump tOUT_BUSY_TC nb).work 9 (g.m * g.n)) }
  s.finish q ⟨.out, q.x + nb, q.x + nb + outLatency t e, doneFlags e, q.mark, keepUses (outUses d q)⟩

/-- STORE at its issue. -/
def storeEffect (d : Dev) (q : Issue) : Dev := d.engineStart .out (outUses d q) (fun d q => storeBody d q) q

/-- STORE (R212). -/
def execStore (p : Nat) (s : State) : Host.Outcome State Fault Refusal := issueCommand 0x20 storeCheck storeEffect p s

/-! ## SCOUT -/

/-- The smallest integer s with m ≤ Mx × 2^s, for a nonzero magnitude (R127). -/
def scaleFor (g : GFmt) (m : Val) : Int :=
  match m, g.maxVal with
  | .fin _ mag e, .fin _ mx ex =>
    let s := topExp mag e - topExp mx ex
    if m.abs.cmp (g.maxVal.scale s) == .gt then s + 1 else s
  | _, _ => 0

/-- The largest of two magnitudes. -/
def Val.maxMag (a b : Val) : Val := if a.abs.lt b.abs then b.abs else a.abs

/-- What the scout pass does with one block (R127, R131): the scale code, and the accumulator grown. -/
def scoutBlock (g : GFmt) (h : Int) (vs : List Val) (f : ScAcc) : Int × ScAcc :=
  let m := (vs.filter (·.isFin)).foldl Val.maxMag .zero
  let f := { f with count := f.count + vs.length, blocks := f.blocks + 1 }
  if m.isZero && vs.all (·.isFin) then (-128, { f with allZero := f.allZero + 1 })
  else
    let s0 := if m.isZero then 0 else scaleFor g m + h
    let s := if s0 > 95 then 95 else if s0 < -96 then -96 else s0
    let mx := g.maxVal.scale s
    let mn : Val := .fin false 1 (1 - (g.b : Int) - g.m + s)
    (s, { f with
      limHi := f.limHi + b2n (s0 > 95)
      limLo := f.limLo + b2n (s0 < -96)
      clipped := f.clipped + (vs.filter (fun v => v.isFin && mx.lt v.abs)).length
      under := f.under + (vs.filter (fun v => v.isFin && !v.isZero && v.abs.lt mn)).length
      largest := some (match f.largest with | some x => max x s | none => s)
      smallest := some (match f.smallest with | some x => min x s | none => s) })

/-- A block of SCOUT: the working values of its elements, read in register order before. -/
def scoutWrite (q : Issue) (o : Desc) (vals : List ((Nat × Nat) × Val)) (nc : Nat) (d : Dev) (r b : Nat) : Dev :=
  let e := q.e
  let vs := (List.range 32).filterMap (fun i =>
    if 32 * b + i < nc then (vals.find? (fun v => v.1 == (r, 32 * b + i))).map (·.2) else none)
  let t := d.tile q.p
  let f := sget ScAcc.empty t.sc (oScacc e)
  let x := scoutBlock (gfmt o.fmt) (oHeadroom e) vs { f with tid := some (oTid e) }
  let d := d.putScale q.p o r (32 * b) x.1
  d.onTile q.p (fun t =>
    let t := { t with sc := sset ScAcc.empty t.sc (oScacc e) x.2 }
    if x.2.limHi > f.limHi ∨ x.2.limLo > f.limLo then t.orBits tSCOUT_STATUS 2 else t)

/-- SCOUT's work (R127, R128): scale codes and counts, no elements; registers are not cleared. -/
def scoutBody (d : Dev) (q : Issue) : Dev :=
  let t := d.tile q.p
  let e := q.e
  let g := regionOf e
  let o := t.descr (eH0 e)
  let w := outWidth t e
  let s := outSweep q w false (fun s r n y v =>
    let sp := o.storage r n
    let x := workVal t e r n v
    { s with ns := s.ns ||| x.ns, acc := s.acc ||| x.acc,
             reads := s.reads ++ [⟨g.reg r n, y, o.scaleAddr sp.1 sp.2, 1⟩] }) (OutRun.start d q)
  let k0 := Pk.ofTile t
  let vals := g.cells.map (fun rc =>
    let j := g.reg rc.1 rc.2
    (o.storage rc.1 rc.2, (workVal t e rc.1 rc.2 (k0.readAt (d.grnSlots t) j (q.x + (j - g.j0) / w))).v))
  let sh := outShape o g
  let d' := (List.range sh.1).foldl (fun (d : Dev) r =>
    (List.range ((sh.2 + 31) / 32)).foldl (fun (d : Dev) b => scoutWrite q o vals sh.2 d r b) d) s.d
  let nb := g.batches w
  let s := { s with d := d'.onTile q.p (fun t => t.bump tOUT_BUSY_TC nb) }
  s.finish q ⟨.out, q.x + nb, q.x + nb + outLatency t e, doneFlags e, q.mark, keepUses (outUses d q)⟩

/-- SCOUT at its issue. -/
def scoutEffect (d : Dev) (q : Issue) : Dev := d.engineStart .out (outUses d q) (fun d q => scoutBody d q) q

/-- SCOUT (R128). -/
def execScout (p : Nat) (s : State) : Host.Outcome State Fault Refusal := issueCommand 0x21 scoutCheck scoutEffect p s

/-! ## SCORE_MAX -/

/-- The row maximum of attention's first pass (R65): NaN absorbs, −0 reads as +0. -/
def rowMax (a b : Val) : Val :=
  if a.isNan || b.isNan then .nan false
  else if a.unsignZero.lt b.unsignZero then b.unsignZero else a.unsignZero

/-- The position masks its element. -/
def masked (t : Tile) (e r n : Nat) : Bool :=
  let q := t.descr (eH2 e)
  rdElem t.loft q (q.storage r n).1 (q.storage r n).2 != 0

/-- The uses of SCORE_MAX. -/
def scoreUses (d : Dev) (q : Issue) : List Use :=
  let t := d.tile q.p
  (if oWrite q.e then [⟨2, (t.descr (eH0 q.e)).banks, q.x + 14⟩] else []) ++
  [⟨2, (t.descr (eH1 q.e)).banks, q.x⟩, ⟨2, (t.descr (eH2 q.e)).banks, q.x⟩]

/-- One score (R97 step 1): written, and folded into its row's maximum when it is not masked. -/
def OutRun.scoreElem (s : OutRun) (q : Issue) (r n : Nat) (v : Val) : OutRun :=
  let e := q.e
  let t := s.d.tile q.p
  let x := ieeeFP32.encode .ne ((oMult e).mul v)
  let s := { s with ns := s.ns ||| x.2 ||| prodFlags (oMult e) v }
  let mx := t.descr (eH1 e)
  let at_ := mx.nth r
  let s := if masked t e r n then s
    else
      let m := rowMax (ieeeFP32.decode (rdElem t.loft mx at_.1 at_.2)) (ieeeFP32.decode x.1)
      { s with d := s.d.putElem q.p mx at_.1 at_.2 (ieeeFP32.stored (ieeeFP32.encode .ne m).1) }
  if oWrite e then
    let o := t.descr (eH0 e)
    let sp := o.storage r n
    { s with d := s.d.putElem q.p o sp.1 sp.2 (ieeeFP32.stored x.1) }
  else s

/-- The old row maxima as the command rewrites them (R49, R65, R212): a NaN canonical, −0 as +0. -/
def OutRun.scoreOpen (s : OutRun) (q : Issue) : OutRun :=
  (List.range (regionOf q.e).m).foldl (fun (s : OutRun) r =>
    let mx := (s.d.tile q.p).descr (eH1 q.e)
    let at_ := mx.nth r
    let v := ieeeFP32.decode (rdElem (s.d.tile q.p).loft mx at_.1 at_.2)
    { s with d := s.d.putElem q.p mx at_.1 at_.2 (ieeeFP32.stored (ieeeFP32.encode .ne (rowMax v v)).1),
             ns := s.ns ||| flagIf v.isSnan nsINVALID }) s

/-- SCORE_MAX's work (R97, R212). -/
def scoreBody (d : Dev) (q : Issue) : Dev :=
  let t := d.tile q.p
  let e := q.e
  let g := regionOf e
  let s := outSweep q 128 (oClr e) (fun s r n y v =>
    let s := s.scoreElem q r n v
    let o := t.descr (if oWrite e then eH0 e else eH1 e)
    let b := if oWrite e then o.elemBytes (o.storage r n).1 (o.storage r n).2
      else o.elemBytes (o.nth r).1 (o.nth r).2
    { s with reads := s.reads ++ [⟨g.reg r n, y, b.1, b.2⟩] }) ((OutRun.start d q).scoreOpen q)
  let nb := g.batches 128
  let s := { s with d := s.d.onTile q.p (fun t =>
    let t := t.bump tOUT_BUSY_TC nb
    t.work 9 (g.m + if oWrite e then g.m * g.n else 0)) }
  s.finish q ⟨.out, q.x + nb, q.x + nb + 14, doneFlags e, q.mark, keepUses (scoreUses d q)⟩

/-- SCORE_MAX at its issue. -/
def scoreEffect (d : Dev) (q : Issue) : Dev := d.engineStart .out (scoreUses d q) (fun d q => scoreBody d q) q

/-- SCORE_MAX (R212). -/
def execScoreMax (p : Nat) (s : State) : Host.Outcome State Fault Refusal := issueCommand 0x22 scoreCheck scoreEffect p s

/-! ## FLUSH -/

/-- FLUSH (R209). -/
def execFlush (p : Nat) (s : State) : Host.Outcome State Fault Refusal :=
  issueCommand 0x0A noCheck
    (fun d q => (d.flush q.p (eArgs q.e 15 0) (eArgs q.e 31 16)).setOwnFlag q) p s

end Sys2Proof.Machine
end

