-- ==== Sys2Proof/Machine/CollOps.lean ====
section
/-! DEFINITION. Operations of the Binder on collectives: what a tile's command brings into its bucket, carries, the job ledger
(R312, R316 to R326). -/

namespace Sys2Proof.Machine

/-! ## Elements as the Binder carries them -/

/-- The elements of a view as the Binder carries them: codes in row-major order, an escaped Stook as 2^640 + its Bushel (R91,
R316). -/
def wireElems (d : Dev) (t : Tile) (m : List Host.Cell) (q : Desc) : List Nat :=
  (List.range q.count).map (fun k =>
    let w := rdElem m q (k / q.cols) (k % q.cols)
    if q.fmt = fStook then
      match d.escSlot t w with
      | some a => 2 ^ 640 + leNat (d.grnRead a 80)
      | none => w
    else w)

/-- The scale codes of a view in row-major block order (R203). -/
def wireScales (m : List Host.Cell) (q : Desc) : List Nat :=
  if isGBlock q.fmt then (List.range (q.rows * q.blocks)).map (fun k => (rdByte m (q.scaleBase + k)).toNat) else []

/-! ## Group slots (R342) -/

/-- A register of a group slot. -/
def Dev.collReg (d : Dev) (g off : Nat) : Nat := d.rd (off + 0x80 * g)
/-- GID. -/
def Dev.collGid (d : Dev) (g : Nat) : Nat := bits (d.collReg g dCOLL_CFG) 31 16
/-- POLICY: 0 WAIT, 1 DEFER, 2 DROP. -/
def Dev.collPolicy (d : Dev) (g : Nat) : Nat := bits (d.collReg g dCOLL_CFG) 11 10
/-- The member ranks (R307). -/
def Dev.collRanks (d : Dev) (g : Nat) : List Nat :=
  let w := d.collReg g dCOLL_RANKS
  (List.range (bits w 31 16)).map (fun k => bits w 14 0 + k * bits (d.collReg g dCOLL_STRIDE) 14 0)
/-- The home rank. -/
def Dev.collHome (d : Dev) (g : Nat) : Nat := bits (d.collReg g dCOLL_STRIDE) 30 16
/-- A logical tile is a member tile. -/
def Dev.collMember (d : Dev) (g l : Nat) : Bool := l < 256 && bit (d.rd (dCOLL_MASK + 0x80 * g + 4 * (l / 32))) (l % 32)
/-- The member tiles on this device: those mapped to a physical tile. -/
def Dev.collTiles (d : Dev) (g : Nat) : List Nat := (List.range 256).filter (fun l => d.collMember g l && (d.physOf l).isSome)

/-! ## Fields of COLLECTIVE (R308) -/

/-- GROUP. -/
def clGroup (e : Nat) : Nat := eArgs e 14 9
/-- OP. -/
def clOp (e : Nat) : Nat := eArgs e 18 15
/-- BUCKET. -/
def clBucket (e : Nat) : Nat := eArgs e 34 19
/-- ACC. -/
def clAcc (e : Nat) : Bool := eArgBit e 35
/-- ROOT. -/
def clRoot (e : Nat) : Nat := eArgs e 50 36
/-- KIND. -/
def clKind (e : Nat) : Nat := eArgs e 54 51
/-- TID. -/
def clTid (e : Nat) : Nat := eImm e 31 0
/-- A sum (R311). -/
def isSum (op : Nat) : Bool := op ≤ 1

/-! ## Contributions -/

/-- A value added under an index (R312). -/
def addAt (i : Nat) (v : Val) : List (Nat × Nat) → List (Nat × Nat)
  | [] => [(i, (bushelCode v).1)]
  | (j, c) :: r => if j = i then (j, (bushelCode ((bushelVal c).add v)).1) :: r else (j, c) :: addAt i v r

/-- An element joined to those of the same index by the maximum of R313. -/
def maxAt (fmt i c : Nat) : List (Nat × Nat) → List (Nat × Nat)
  | [] => [(i, c)]
  | (j, b) :: r =>
    if j = i then
      (j, (convert fmt .ne 0 true true (rowMax (elemVal fmt b 0) (elemVal fmt c 0))).code) :: r
    else (j, b) :: maxAt fmt i c r

/-- What one tile's command adds to its bucket's contribution (R312 to R316): exact sums by index, maxima, or elements as the
Binder carries them with their scale codes above bit 641. -/
def collAdd (d : Dev) (t : Tile) (op : Nat) (q : Desc) (acc : List (Nat × Nat)) : List (Nat × Nat) :=
  let ks := List.range q.count
  if isSum op then
    ks.foldl (fun acc k => addAt (q.index (k / q.cols) (k % q.cols)) (elemRead d t t.loft q (k / q.cols) (k % q.cols)).1 acc) acc
  else if op = 4 then
    ks.foldl (fun acc k => maxAt q.fmt (q.index (k / q.cols) (k % q.cols)) (rdElem t.loft q (k / q.cols) (k % q.cols)) acc) acc
  else
    acc ++ ((wireElems d t t.loft q).zipIdx).map (fun e =>
      (q.index (e.2 / q.cols) (e.2 % q.cols),
       e.1 + 2 ^ 641 * (if isGBlock q.fmt then (rdByte t.loft (q.scaleAddr (e.2 / q.cols) (e.2 % q.cols))).toNat else 0)))

/-- The flags that reading a tile's source raises (R82, R317). -/
def collReadFlags (d : Dev) (t : Tile) (q : Desc) : Nat :=
  (List.range q.count).foldl (fun m k => m ||| (elemRead d t t.loft q (k / q.cols) (k % q.cols)).2) 0

/-- The bucket of a group in a step, with its place; a new one when there is none. -/
def Dev.findBucket (d : Dev) (g b step : Nat) : Option Bucket :=
  d.buckets.find? (fun x => x.slot == g && x.bucket == b && x.step == step)

/-- A bucket put in its place. -/
def Dev.putBucket (d : Dev) (x : Bucket) : Dev :=
  let same (y : Bucket) : Bool := y.slot == x.slot && y.bucket == x.bucket && y.step == x.step
  if d.buckets.any same then { d with buckets := d.buckets.map (fun y => if same y then x else y) }
  else { d with buckets := d.buckets ++ [x] }

/-- No ledger entry concerns the bucket (R310). -/
def noLedger : Nat := 0xFFFFFFFFFFFFFFFF

/-- A bucket that nothing of this device has reached yet. -/
def Bucket.fresh (g b step op tid : Nat) : Bucket := ⟨g, b, step, op, tid, [], false, [], 0, none, 0, noLedger⟩

/-! ## The job ledger (R325, R326) -/

/-- The 64 bytes of a ledger entry (R325). -/
def Ledger.bytes (e : Ledger) : List Byte :=
  leBytes 8 e.seq ++ leBytes 8 e.time ++ leBytes 4 e.step ++ leBytes 1 e.type ++ leBytes 1 e.action ++ leBytes 2 e.gid ++
  leBytes 2 e.bucket ++ leBytes 2 e.epoch ++ leBytes 4 e.job ++ leBytes 2 e.decider ++ leBytes 2 e.rank ++
  leBytes 2 e.included ++ leBytes 2 e.count ++ leBytes 8 e.detail ++ leBytes 16 0

/-- A ledger entry from its bytes. -/
def Ledger.ofBytes (bs : List Byte) : Ledger :=
  let f (o n : Nat) := leNat ((bs.drop o).take n)
  ⟨f 0 8, f 8 8, f 16 4, f 20 1, f 21 1, f 22 2, f 24 2, f 26 2, f 28 4, f 32 2, f 34 2, f 36 2, f 38 2, f 40 8⟩

/-- Entries that the ledger area still takes. -/
def Dev.ledgerRoom (d : Dev) : Nat := d.fld dLEDGER_CAP 20 0 - d.fld dLEDGER_COUNT 20 0

/-- An entry written to the ledger area with the next sequence number of its job; a full area sets LEDGER_FULL (R326). -/
def Dev.ledgerAdd (d : Dev) (e : Ledger) : Dev :=
  let n := d.fld dLEDGER_COUNT 20 0
  if d.ledgerRoom = 0 then d.orBits dBND_STATUS 4
  else
    let e := { e with seq := (d.ledger.filter (fun x => x.job == e.job)).length, epoch := d.fld dLAYOUT_EPOCH 15 0 }
    let d := d.jobWrite (d.fld dLEDGER_BASE 28 0 * 4096 + 64 * n) e.bytes
    ({ d with ledger := d.ledger ++ [e] } : Dev).setFld dLEDGER_COUNT 20 0 (n + 1)

/-- An entry this device decides itself, about no bucket. -/
def Dev.ledgerOwn (d : Dev) (job type rank detail : Nat) : Dev :=
  d.ledgerAdd ⟨0, d.stamp, d.stepOf job, type, 0, 0, 0, 0, job, d.selfRank job, rank, 0, 0, detail⟩

/-- The entries that a replay or a repeat honours for a bucket (R327): those of ranks that are still members. -/
def Dev.honours (d : Dev) (g b step : Nat) : List Ledger :=
  let job := d.collReg g dCOLL_JOB
  d.honoured.filter (fun e => e.job == job && e.type == 1 && (e.action == 1 || e.action == 2) && e.gid == d.collGid g &&
    e.bucket == b && e.step == step && (d.collRanks g).contains e.rank)

/-- The job runs in replay mode (R327). -/
def Dev.replays (d : Dev) (job : Nat) : Bool := match d.jobById job with | some j => j.replay | none => false

/-! ## Carries (R322 to R324) -/

/-- The bytes a carry takes of its area: one Stook per element and room for every escape, as in the staging area (R318; log
entry 60). -/
def Carry.bytes (c : Carry) : Nat := 96 * c.elems.length

/-- The carry area in use. -/
def Dev.carryBytes (d : Dev) : Nat := d.carries.foldl (fun n c => n + c.bytes) 0

/-- BND_CARRY_USED kept equal to what the carries take. -/
def Dev.showCarries (d : Dev) : Dev := d.wr dBND_CARRY_USED ((d.carryBytes + 1023) / 1024 % 2 ^ 32)

/-- A carry dropped: its CARRY entry (R324, R325), reason 1 full, 2 job end, 3 stale. -/
def Dev.dropCarry (d : Dev) (c : Carry) (reason : Nat) : Dev :=
  let d := d.ledgerAdd ⟨0, d.stamp, c.step, 2, 2, c.gid, c.bucket, 0, c.job, d.selfRank c.job, d.selfRank c.job, 0, 0, reason⟩
  d.orBits dBND_STATUS 2

/-- A contribution kept as a carry, or dropped where the area is full (R322, R324). -/
def Dev.keepCarry (d : Dev) (c : Carry) : Dev :=
  if d.carryBytes + c.bytes ≤ d.fld dBND_CARRY_SIZE 15 0 * 2 ^ 20 then ({ d with carries := d.carries ++ [c] } : Dev).showCarries
  else (d.dropCarry c 1).binderLog c.step c.job 0x76 0 1 0x1FF 0xFFFF (c.gid + c.bucket * 2 ^ 16)

/-- The GID under which a remapped contribution is kept: it waits for the first sum of its tensor (R332). -/
def remapGid : Nat := 0x10000

/-- The elements of a carry that are due for a bucket: all of those of the same GID and bucket in its step (R322); of a remapped
one those that the contribution covers, in its step or later (R332). -/
def Carry.due (c : Carry) (gid job : Nat) (x : Bucket) : List (Nat × Nat) :=
  if c.job ≠ job then []
  else if c.gid = gid ∧ c.bucket = x.bucket ∧ c.step = x.step then c.elems
  else if c.gid = remapGid ∧ c.tid = x.tid ∧ c.step ≤ x.step then c.elems.filter (fun e => x.contrib.any (fun y => y.1 == e.1))
  else []

/-- The carries due folded into a bucket's contribution (R324). -/
def Dev.foldCarries (d : Dev) (x : Bucket) : Dev × Bucket :=
  let gid := d.collGid x.slot
  let job := d.collReg x.slot dCOLL_JOB
  let due := d.carries.filter (fun c => c.due gid job x != [])
  let contrib := due.foldl (fun acc c => (c.due gid job x).foldl (fun acc e => addAt e.1 (bushelVal e.2) acc) acc) x.contrib
  let left := (d.carries.map (fun c => { c with elems := c.elems.filter (fun e => !(c.due gid job x).contains e) })).filter
    (fun c => c.elems != [])
  (({ d with carries := left } : Dev).showCarries, { x with contrib := contrib, folded := x.folded + due.length })

/-- What becomes of this device's contribution once it is excluded (R322, R327): deferred to the next step or dropped. -/
def Dev.setAside (d : Dev) (x : Bucket) : Dev :=
  if bit x.self 1 then d.keepCarry ⟨d.collReg x.slot dCOLL_JOB, d.collGid x.slot, x.bucket, x.step + 1, x.tid, x.contrib⟩ else d

/-- Every local member tile of a bucket has started (R321 step 1): carries fold in and the readiness notice goes to the home; a
contribution that the set has excluded already is set aside. -/
def Dev.bucketReady (d : Dev) (x : Bucket) : Dev :=
  let job := d.collReg x.slot dCOLL_JOB
  let r := if isSum x.op then d.foldCarries x else (d, x)
  let d := r.1
  let x := { r.2 with ready := true }
  let d := d.putBucket x
  if !isSum x.op then d
  else if bit x.self 0 then d.setAside x
  else
    d.message job (d.collHome x.slot) 0 (bits (d.collReg x.slot dCOLL_CFG) 8 0)
      (.ready (d.collGid x.slot) x.bucket x.step (d.selfRank job))

/-- A command joins its bucket (R312, R321). -/
def Dev.collStart (d : Dev) (p : Nat) (f : Xfer) : Dev :=
  let t := d.tile p
  let e := f.entry.toNat
  let g := clGroup e
  let step := t.rd tTHR_STEP
  let q := Desc.ofNat f.src.toNat
  let x := (d.findBucket g (clBucket e) step).getD (Bucket.fresh g (clBucket e) step (clOp e) (clTid e))
  let x := { x with op := clOp e, tid := clTid e, tiles := x.tiles ++ [t.logical.getD 256],
                    contrib := collAdd d t (clOp e) q x.contrib }
  let d := d.onTile p (fun t => t.orBits tNUM_STATUS (collReadFlags d t q))
  if (d.collTiles g).all (fun l => x.tiles.contains l) then d.bucketReady x else d.putBucket x

end Sys2Proof.Machine
end

