-- ==== Sys2Proof/Machine/Arith.lean ====
section
/-! DEFINITION. The vector units' IEEE arithmetic (R55, R59, R60, R65): one operation on element codes, with its NUM_STATUS
flags. -/

namespace Sys2Proof.Machine

/-- The arithmetic settings of a command: format, rounding direction, flush of subnormals (R55, R56). -/
structure Fp where
  i : Ieee
  rm : Rm
  ftz : Bool
  deriving DecidableEq, Repr

/-- An operand read (R55): a subnormal is read as zero of its sign under FTZ. -/
def Fp.load (f : Fp) (c : Nat) : Val × Nat :=
  if f.ftz && f.i.subnormal c then (.fin (c.testBit (f.i.ew + f.i.fw)) 0 0, nsFLUSHED) else (f.i.decode c, 0)

/-- A result (R55): a subnormal is replaced by zero of its sign under FTZ. -/
def Fp.flush (f : Fp) (r : Nat × Nat) : Nat × Nat :=
  if f.ftz && f.i.subnormal r.1 then (f.i.zeroCode (r.1.testBit (f.i.ew + f.i.fw)), r.2 ||| nsFLUSHED) else r

/-- A value rounded, its flags joined with others. -/
def Fp.round (f : Fp) (v : Val) (fl : Nat) (sticky : Bool := false) : Nat × Nat :=
  let r := f.i.encode f.rm v sticky
  f.flush (r.1, r.2 ||| fl)

/-- An exact sum with the IEEE sign of a zero sum: −0 towards −∞ unless both terms are +0. -/
def Fp.sum (f : Fp) (a b : Val) : Val :=
  let s := a.add b
  if s.isZero && !(a.isZero && b.isZero && a.isNeg == b.isNeg) then .fin (f.rm == .down) 0 0 else s

/-- A signalling NaN among the operands. -/
def snanFlag (vs : List Val) : Nat := flagIf (vs.any (·.isSnan)) nsINVALID

/-- Addition. -/
def Fp.add (f : Fp) (a b : Val) : Nat × Nat :=
  let inv := flagIf (a.isInf && b.isInf && a.isNeg != b.isNeg) nsINVALID
  f.round (f.sum a b) (inv ||| snanFlag [a, b])

/-- Multiplication. -/
def Fp.mul (f : Fp) (a b : Val) : Nat × Nat :=
  let inv := flagIf ((a.isZero && b.isInf) || (a.isInf && b.isZero)) nsINVALID
  f.round (a.mul b) (inv ||| snanFlag [a, b])

/-- Fused multiply-add a × b + c. -/
def Fp.fma (f : Fp) (a b c : Val) : Nat × Nat :=
  let z := (a.isZero && b.isInf) || (a.isInf && b.isZero)
  let p := a.mul b
  let inv := flagIf (z && (!c.isNan || Config.fmaNanInvalid)) nsINVALID |||
    flagIf (p.isInf && c.isInf && p.isNeg != c.isNeg) nsINVALID
  f.round (f.sum p c) (inv ||| snanFlag [a, b, c])

/-- A quotient cut to enough bits, and whether it is cut. -/
def quotient (f : Ieee) (n : Bool) (ma : Nat) (ea : Int) (mb : Nat) (eb : Int) : Val × Bool :=
  let s := f.fw + 8 + Nat.log2 mb
  (.fin n (ma * 2 ^ s / mb) (ea - eb - s), ma * 2 ^ s % mb != 0)

/-- Division, correctly rounded (R60). -/
def Fp.div (f : Fp) (a b : Val) : Nat × Nat :=
  let sn := snanFlag [a, b]
  match a, b with
  | .nan _, _ => f.round (.nan false) sn
  | _, .nan _ => f.round (.nan false) sn
  | .inf _, .inf _ => f.round (.nan false) nsINVALID
  | .inf x, .fin y _ _ => f.round (.inf (x != y)) 0
  | .fin x _ _, .inf y => f.round (.fin (x != y) 0 0) 0
  | .fin x ma ea, .fin y mb eb =>
    if mb = 0 then
      if ma = 0 then f.round (.nan false) nsINVALID else f.round (.inf (x != y)) nsDIVZERO
    else if ma = 0 then f.round (.fin (x != y) 0 0) 0
    else
      let q := quotient f.i (x != y) ma ea mb eb
      f.round q.1 0 q.2

/-- Square root, correctly rounded (R60). -/
def Fp.sqrt (f : Fp) (a : Val) : Nat × Nat :=
  match a with
  | .nan s => f.round (.nan false) (flagIf s nsINVALID)
  | .inf n => if n then f.round (.nan false) nsINVALID else f.round (.inf false) 0
  | .fin n m e =>
    if m = 0 then f.round a 0
    else if n then f.round (.nan false) nsINVALID
    else
      let s : Nat := 2 * f.i.fw + 12
      let s := if (e - s) % 2 = 0 then s else s + 1
      let r := Nat.sqrt (m * 2 ^ s)
      f.round (.fin false r ((e - s) / 2)) 0 (r * r != m * 2 ^ s)

/-- Order with −0 below +0, for maximum and minimum (R65). -/
def ltSigned (a b : Val) : Bool := a.lt b || (a.isZero && b.isZero && a.isNeg && !b.isNeg)

/-- Maximum or minimum: NaN if either operand is (R65). -/
def Fp.extreme (f : Fp) (wantMax : Bool) (a b : Val) : Nat × Nat :=
  if a.isNan || b.isNan then f.round (.nan false) (snanFlag [a, b])
  else f.round (if ltSigned a b == wantMax then b else a) 0

/-- Maximum-number or minimum-number: the other operand of a NaN (R65). -/
def Fp.extremeNum (f : Fp) (wantMax : Bool) (a b : Val) : Nat × Nat :=
  let sn := snanFlag [a, b]
  if a.isNan && b.isNan then f.round (.nan false) sn
  else if a.isNan then f.round b sn
  else if b.isNan then f.round a sn
  else f.round (if ltSigned a b == wantMax then b else a) 0

/-- A comparison of VOP SUB 10 to 15 (R65): unordered is false, but true for not equal. -/
def compareOp (sub : Nat) (a b : Val) : Bool :=
  if a.isNan || b.isNan then sub == 11
  else
    let o := a.cmp b
    match sub with
    | 10 => o == .eq
    | 11 => o != .eq
    | 12 => o == .lt
    | 13 => o != .gt
    | 14 => o == .gt
    | _ => o != .lt

/-- VOP's result for element codes a, b and the addend c: result code, flags (R214). -/
def Fp.op (f : Fp) (sub a b c : Nat) : Nat × Nat :=
  let x := f.load a
  let y := f.load b
  let z := f.load c
  let two (r : Nat × Nat) : Nat × Nat := (r.1, r.2 ||| x.2 ||| y.2)
  match sub with
  | 0 => two (f.add x.1 y.1)
  | 1 => two (f.add x.1 y.1.neg)
  | 2 => two (f.mul x.1 y.1)
  | 3 =>
    let r := f.fma x.1 y.1 z.1
    (r.1, r.2 ||| x.2 ||| y.2 ||| z.2)
  | 4 => two (f.div x.1 y.1)
  | 5 =>
    let r := f.sqrt x.1
    (r.1, r.2 ||| x.2)
  | 6 => two (f.extreme true x.1 y.1)
  | 7 => two (f.extreme false x.1 y.1)
  | 8 => two (f.extremeNum true x.1 y.1)
  | 9 => two (f.extremeNum false x.1 y.1)
  | _ => (b2n (compareOp sub x.1 y.1), x.2 ||| y.2 ||| snanFlag [x.1, y.1])

/-- A function's result for element codes (R66, R214). -/
def Fp.fn (f : Fp) (fast : Bool) (g : Fn) (a b : Nat) : Nat × Nat :=
  let x := f.load a
  let y := if g = .pow then f.load b else (.zero, 0)
  let r := (if fast then fnFast else fnStrict) g f.i f.rm x.1 y.1
  f.flush (r.1, r.2 ||| x.2 ||| y.2)

/-! ## FP64 reductions (R99, R100) -/

/-- One fused step of a lane of the reference order. -/
def Fp.fmaCode (f : Fp) (a b c : Nat) : Nat × Nat := f.op 3 a b c

/-- The lanes of one chunk: ascending k, 64 lanes (R99). -/
def chunkLanes (f : Fp) (ts : List (Nat × Nat)) : List Nat × Nat :=
  ts.zipIdx.foldl (fun (s : List Nat × Nat) (t : (Nat × Nat) × Nat) =>
    let l := t.2 % 64
    let r := f.fmaCode t.1.1 t.1.2 (s.1.getD l 0)
    (s.1.set l r.1, s.2 ||| r.2)) (List.replicate 64 0, 0)

/-- Neighbours added. -/
def pairSums (f : Fp) : List Nat → List Nat × Nat
  | a :: b :: r =>
    let s := f.op 0 a b 0
    let t := pairSums f r
    (s.1 :: t.1, s.2 ||| t.2)
  | l => (l, 0)

/-- The fixed pairwise tree over 64 lanes (R99). -/
def laneTree (f : Fp) (ls : List Nat) : Nat × Nat :=
  let r := (List.range 6).foldl (fun (s : List Nat × Nat) _ =>
    let t := pairSums f s.1
    (t.1, s.2 ||| t.2)) (ls, 0)
  (r.1.getD 0 0, r.2)

/-- The reference order (R99) over chunks of `c` terms; `n` chunks at most. -/
def refOrder (f : Fp) (c : Nat) : Nat → Nat × Nat → List (Nat × Nat) → Nat × Nat
  | 0, acc, _ => acc
  | n + 1, acc, ts =>
    match ts with
    | [] => acc
    | _ :: _ =>
      let l := chunkLanes f (ts.take c)
      let w := laneTree f l.1
      let a := f.op 0 acc.1 w.1 0
      refOrder f c n (a.1, acc.2 ||| l.2 ||| w.2 ||| a.2) (ts.drop c)

/-- Exact sum of products of codes, and of their magnitudes. -/
def exactTerms (f : Fp) (ts : List (Nat × Nat)) : Val × Val :=
  ts.foldl (fun (s : Val × Val) t =>
    let p := (f.load t.1).1.mul (f.load t.2).1
    (s.1.add p, s.2.add p.abs)) (.zero, .zero)

/-- The bound of R100: |r − exact| × (2^53 − m) ≤ m × Σ|terms|, m = n + 1. -/
def nativeOk (f : Fp) (init r : Nat) (ts : List (Nat × Nat)) : Bool :=
  let m := ts.length + 1
  let a := f.i.decode init
  let x := exactTerms f ts
  let diff := ((f.i.decode r).add (a.add x.1).neg).abs
  let lim := (a.abs.add x.2).mul (.fin false m 0)
  diff.isFin && lim.isFin && !(lim.lt (diff.mul (.fin false (2 ^ 53 - m) 0)))

/-- An FP64 reduction: the reference order in AUDIT; in FAST the native order's free result where it meets the bound of R100,
else the reference order's, which does (log entry 11). -/
def reduce64 (f : Fp) (fast : Bool) (shape init : Nat) (ts : List (Nat × Nat)) : Nat × Nat :=
  let c := 64 * 2 ^ shape
  let r := refOrder f c (ts.length + 1) (init, 0) ts
  if fast then
    let n := Config.nativeOrder shape init ts % 2 ^ 64
    if nativeOk f init n ts then (n, r.2) else r
  else r

end Sys2Proof.Machine
end

