-- ==== Sys2Proof/Machine/Vector.lean ====
section
/-! DEFINITION. Vector-unit commands (R147 to R151, R214 to R216). -/

namespace Sys2Proof.Machine

/-! ## Fields (R214) -/

/-- SUB. -/
def vSub (e : Nat) : Nat := eArgs e 4 0
/-- FMT. -/
def vFmt (e : Nat) : Nat := eArgs e 8 5
/-- L. -/
def vLen (e : Nat) : Nat := eArgs e 24 9 + 1
/-- KA. -/
def vKa (e : Nat) : Nat := eArgs e 26 25
/-- KB. -/
def vKb (e : Nat) : Nat := eArgs e 28 27
/-- KD. -/
def vKd (e : Nat) : Nat := eArgs e 30 29
/-- VA. -/
def vVa (e : Nat) : Nat := eArgs e 36 31
/-- VB. -/
def vVb (e : Nat) : Nat := eArgs e 42 37
/-- VD. -/
def vVd (e : Nat) : Nat := eArgs e 48 43
/-- FPACC. -/
def vFpacc (e : Nat) : Nat := eArgs e 67 64
/-- FPEN. -/
def vFpen (e : Nat) : Bool := eArgBit e 68
/-- ATOM. -/
def vAtom (e : Nat) : Nat := eArgs e 71 69
/-- TID. -/
def vTid (e : Nat) : Nat := eArgs e 111 80

/-! ## Vector registers -/

/-- Writes under way that have landed by local tc `y` are made (R147). -/
def Tile.settleV (t : Tile) (y : Nat) : Tile :=
  { t with
    vregs := (t.vpend.filter (fun w => w.tc ≤ y)).foldl (fun m w => wrBits m w.addr w.off w.width w.val) t.vregs
    vpend := t.vpend.filter (fun w => y < w.tc) }

/-- Elements of a format in one register. -/
def perReg (fmt : Nat) : Nat := 4096 / fmtWidth fmt

/-- An operand of a vector command: its kind, handle, first register, format and number of elements. -/
structure VOpd where
  kind : Nat
  h : Nat
  v : Nat
  fmt : Nat
  n : Nat
  deriving DecidableEq, Repr

/-- Element `k` of an operand, as it stands in the tile (R214). -/
def Tile.vElem (t : Tile) (o : VOpd) (imm k : Nat) : Nat :=
  match o.kind with
  | 0 =>
    let q := t.descr o.h
    rdElem t.loft q (q.nth k).1 (q.nth k).2
  | 1 =>
    let e := perReg o.fmt
    let w := fmtWidth o.fmt
    rdBits t.vregs (512 * (o.v + k / e)) (k % e * w) w
  | _ => imm % 2 ^ fmtWidth o.fmt

/-- Element `k` of a register destination is under way to land at tc `y`. -/
def Tile.pushV (t : Tile) (o : VOpd) (k y v : Nat) : Tile :=
  let e := perReg o.fmt
  let w := fmtWidth o.fmt
  { t with vpend := t.vpend ++ [⟨y, 512 * (o.v + k / e), k % e * w, w, v⟩] }

/-! ## Checks that vector commands share -/

/-- An operand's kind and registers (R214): `src` allows a broadcast. -/
def opdBad (o : VOpd) (src : Bool) : Option Bad :=
  firstBad [
    need (o.kind == 0 || o.kind == 1 || (o.kind == 2 && src)) (skipR 0x02 25),
    need (o.kind != 1 || o.v + (o.n + perReg o.fmt - 1) / perReg o.fmt ≤ 64) (skipR 0x02 31)]

/-- A descriptor operand: its own check, its format and its size (R204). -/
def opdDesc (d : Dev) (t : Tile) (o : VOpd) : Option Bad :=
  if o.kind = 0 then
    firstBad [ownBad d t [o.h], need ((t.descr o.h).fmt == o.fmt && o.n ≤ (t.descr o.h).count) (skipR 0x04 o.h)]
  else none

/-- The handles of descriptor operands. -/
def opdHandles (os : List VOpd) : List Nat := (os.filter (fun o => o.kind == 0)).map (·.h)

/-- FP16 is read by VCVT and move alone (R50, R214). -/
def fp16Bad (fmt : Nat) : Option Bad := need (fmt != fFP16) (skipR 0x09 5)

/-- The formats a destination in registers may hold (R214). -/
def regFmt (f : Nat) : Bool := [fI8, fG16, fFP16, fFP32, fFP64, fI32].contains f

/-- A destination's format and atomic operation (R171, R212, R214). -/
def destBad (t : Tile) (e : Nat) (o : VOpd) : Option Bad :=
  let a := vAtom e
  firstBad [
    need (o.kind != 1 || regFmt o.fmt) (skipR 0x02 29),
    need (a ≤ 5) (skipR 0x02 69),
    need (a == 0 || (o.kind == 0 && (a == 5 && o.fmt == fStook || atomFmt a == some o.fmt) &&
      (o.fmt != fBushel || (t.descr o.h).bushelInBank))) (skipR 0x19 69),
    need (a != 5 || vVd e + (o.n + 31) / 32 ≤ 64) (skipR 0x02 43),
    need (!(o.kind == 0 && vFpen e && otherTid (sget FpAcc.empty t.fp (vFpacc e)).tid (vTid e))) (skipR 0x21 64)]

/-- The checks of a vector command from its operands: sources, destination, its own field checks, IEEE pipelines. -/
def vecCheck (d : Dev) (q : Issue) (srcs : List VOpd) (dst : Option VOpd) (ieee : Bool) (own : List (Option Bad)) :
    Option Bad :=
  let t := d.tile q.p
  let os := srcs ++ dst.toList
  firstBad ([fusedBad d t (opdHandles os), ieeeBad t ieee] ++ os.map (fun o => opdDesc d t o) ++ own ++
    srcs.map (fun o => opdBad o true) ++ dst.toList.map (fun o => opdBad o false) ++
    dst.toList.map (fun o => destBad t q.e o) ++
    [need (dst.all (fun o => o.kind != 0) || vTid q.e != 0xFFFFFFFF) (skipR 0x13 80),
     shareBad ((opdHandles os).map (fun h => (t.descr h).banks)),
     busyBad t .vu q.x])

/-! ## Timing (R147, R150, R215) -/

/-- Interval, latency. -/
structure VTime where
  iv : Nat
  lat : Nat
  deriving DecidableEq, Repr

/-- Function timing (R150): FP32 fast, FP32 strict, FP64 fast, FP64 strict. -/
def fnTime (g : Fn) (double fast : Bool) : VTime :=
  let r : VTime × VTime × VTime × VTime :=
    match g with
    | .exp | .exp2 | .expm1 => (⟨1, 12⟩, ⟨8, 40⟩, ⟨2, 14⟩, ⟨16, 64⟩)
    | .log | .log2 | .log1p => (⟨1, 14⟩, ⟨9, 46⟩, ⟨2, 16⟩, ⟨18, 70⟩)
    | .rsqrt => (⟨1, 10⟩, ⟨6, 30⟩, ⟨2, 12⟩, ⟨12, 44⟩)
    | .sin | .cos => (⟨2, 16⟩, ⟨16, 60⟩, ⟨4, 18⟩, ⟨32, 96⟩)
    | .tanh => (⟨2, 18⟩, ⟨18, 62⟩, ⟨4, 20⟩, ⟨36, 100⟩)
    | .logistic => (⟨2, 16⟩, ⟨16, 58⟩, ⟨4, 18⟩, ⟨32, 94⟩)
    | _ => (⟨4, 24⟩, ⟨40, 120⟩, ⟨8, 28⟩, ⟨80, 180⟩)
  if double then (if fast then r.2.2.1 else r.2.2.2) else (if fast then r.1 else r.2.1)

/-- VOP timing (R147). -/
def vopTime (sub : Nat) (double : Bool) : VTime :=
  if sub ≤ 3 then ⟨1, if double then 6 else 4⟩
  else if sub ≤ 5 then ⟨4, if double then 22 else 14⟩
  else ⟨1, 2⟩

/-- The latency with descriptor operands (R215). -/
def withDesc (lat : Nat) (srcs : List VOpd) (dst : Option VOpd) : Nat :=
  lat + 6 * (srcs.filter (fun o => o.kind == 0)).length + (if dst.any (fun o => o.kind == 0) then 2 else 0)

/-- The banks a vector command uses, all through VU: sources from its issue, its destination from its first result. -/
def vecUses (d : Dev) (q : Issue) (srcs : List VOpd) (dst : Option VOpd) (lat : Nat) : List Use :=
  let t := d.tile q.p
  (srcs.filter (fun o => o.kind == 0)).map (fun o => ⟨3, (t.descr o.h).banks, q.x⟩) ++
  (dst.toList.filter (fun o => o.kind == 0)).map (fun o => ⟨3, (t.descr o.h).banks, q.x + lat⟩)

/-- A vector command taken up: `n` register-lengths at an interval, work done, completion one tc after the last result. -/
def Dev.vecDone (d : Dev) (q : Issue) (us : List Use) (flags : List Nat) (n occ done : Nat) (cls work : Nat) : Dev :=
  d.onTile q.p (fun t =>
    ((t.bump tVU_BUSY_TC n).work cls work).engage ⟨.vu, q.x + occ, done, flags, q.mark, keepUses us⟩)

/-! ## Writing results -/

/-- What a vector command threads: the device, flags, saturated I8 codes, whether it has stopped. -/
structure VRun where
  d : Dev
  ns : Nat
  satI8 : Nat
  dead : Bool
  deriving DecidableEq, Repr

/-- A zero stored by a vector-unit store is +0 (R52). -/
def storedCode (fmt c : Nat) : Nat :=
  match ieeeFmt fmt with
  | some i => i.stored c
  | none => c

/-- Element `k` of a destination written with a code that lands at tc `y` in a register, at once in a Loft (R109, R110). -/
def VRun.write (s : VRun) (q : Issue) (o : VOpd) (k y c : Nat) : VRun :=
  if o.kind = 1 then { s with d := s.d.onTile q.p (fun t => t.pushV o k y c) }
  else
    let t := s.d.tile q.p
    let ds := t.descr o.h
    let rc := ds.nth k
    let c := storedCode o.fmt c
    let sc := rdScale t.loft ds rc.1 rc.2
    let d := if vAtom q.e = 1 then s.d.atomAddInt q.p (ds.elemBytes rc.1 rc.2).1 4 c
      else s.d.putElem q.p ds rc.1 rc.2 c
    let d := if vFpen q.e then
        d.onTile q.p (fun t => t.fpElem (vFpacc q.e) (vTid q.e) (ds.index rc.1 rc.2) c (normVal o.fmt (elemVal o.fmt c sc)))
      else d
    { s with d := d }

/-- A Stook or Bushel element of a descriptor destination (R89, R173), SWAP included (R214). -/
def VRun.writeExact (s : VRun) (q : Issue) (o : VOpd) (k y : Nat) (v : Val) : VRun :=
  let e := q.e
  let t := s.d.tile q.p
  let ds := t.descr o.h
  let rc := ds.nth k
  let a := (ds.elemBytes rc.1 rc.2).1
  let b := bushelClamp v
  let d := s.d.onTile q.p (fun t => t.orBits tACC_STATUS (flagIf b.2 asOVF))
  let r : Option Dev :=
    if vAtom e = 3 then some (d.atomAddStook q.p a b.1)
    else if vAtom e = 4 then some (d.atomAddBushel q.p a b.1)
    else if o.fmt = fBushel then some (d.loftWrite q.p a (leBytes 80 (bushelCode b.1).1))
    else
      let w := match stookOf b.1 with
        | some w => some (d, w)
        | none => d.takeSlot q.p b.1
      match w with
      | some (d, w) =>
        if vAtom e = 5 then
          let x := d.atomSwap q.p a w
          some (x.1.onTile q.p (fun t => t.pushV ⟨1, 0, vVd e, fStook, o.n⟩ k y x.2))
        else some (d.loftWrite q.p a (leBytes 16 w))
      | none => none
  match r with
  | some d =>
    { s with d := if vFpen e then d.onTile q.p (fun t => t.fpElem (vFpacc e) (vTid e) (ds.index rc.1 rc.2)
        (bushelCode b.1).1 (normVal o.fmt b.1)) else d }
  | none => { s with d := d.onTile q.p (fun t => t.orBits tACC_STATUS asESC_EXHAUST), dead := true }

/-- Register-lengths of a command at an interval: each reads what has landed by its tc, then its results are made. -/
def vecSweep (q : Issue) (len e iv : Nat) (elem : VRun → Nat → Nat → VRun) (s : VRun) : VRun :=
  (List.range ((len + e - 1) / e)).foldl (fun (s : VRun) r =>
    let y := q.x + r * iv
    let s := { s with d := s.d.onTile q.p (fun t => t.settleV y) }
    (List.range (min e (len - r * e))).foldl (fun (s : VRun) i => if s.dead then s else elem s (r * e + i) y) s) s

/-- A run's end: NUM_STATUS, and the stop of a command that ran out of escape slots (R90). -/
def VRun.finish (s : VRun) (q : Issue) (done : Dev → Dev) : Dev :=
  let d := s.d.onTile q.p (fun t => (t.orBits tNUM_STATUS s.ns).bump tSAT_I8_COUNT s.satI8)
  if s.dead then d.refuse q ⟨0x10, 0x15, 0, true⟩ else done d

/-- The arithmetic settings of a tile for a format (R55, R56). -/
def Tile.fpu (t : Tile) (fmt : Nat) : Fp :=
  ⟨(ieeeFmt fmt).getD ieeeFP32, rmOfRnd (t.fld tNUM_CTRL 4 3), t.fld tNUM_CTRL 2 2 == 1⟩

/-! ## VOP -/

/-- VOP's sources (R214): b where the operation has two operands. -/
def vopSrcs (e : Nat) : List VOpd :=
  let a : VOpd := ⟨vKa e, eH0 e, vVa e, vFmt e, vLen e⟩
  let b : VOpd := ⟨vKb e, eH1 e, vVb e, vFmt e, vLen e⟩
  if vSub e = 5 ∨ vSub e = 16 then [a] else [a, b]

/-- VOP's destination: comparisons write I32 (R214). -/
def vopDst (e : Nat) : VOpd := ⟨vKd e, eH2 e, vVd e, if 10 ≤ vSub e && vSub e ≤ 15 then fI32 else vFmt e, vLen e⟩

/-- VOP's checks. -/
def vopCheck (d : Dev) (q : Issue) : Option Bad :=
  let e := q.e
  vecCheck d q (vopSrcs e) (some (vopDst e)) (vSub e != 16)
    [need (vSub e ≤ 16) (skipR 0x02 0),
     (if vSub e = 16 then none else fp16Bad (vFmt e)),
     need (vFmt e == fFP32 || vFmt e == fFP64 || (vSub e == 16 && [fG16, fFP16, fI32].contains (vFmt e))) (skipR 0x02 5),
     need (vSub e != 3 || vKd e == 1) (skipR 0x02 29)]

/-- VOP's work. -/
def vopBody (d : Dev) (q : Issue) : Dev :=
  let e := q.e
  let t := d.tile q.p
  let f := t.fpu (vFmt e)
  let dst := vopDst e
  let tm := vopTime (vSub e) (vFmt e == fFP64)
  let lat := withDesc tm.lat (vopSrcs e) (some dst)
  let imm := eImm e 63 0
  let s := vecSweep q (vLen e) (perReg (vFmt e)) tm.iv (fun s k y =>
    let t := s.d.tile q.p
    let a := t.vElem ⟨vKa e, eH0 e, vVa e, vFmt e, vLen e⟩ imm k
    let r := if vSub e = 16 then (a, 0)
      else f.op (vSub e) a (t.vElem ⟨vKb e, eH1 e, vVb e, vFmt e, vLen e⟩ imm k) (t.vElem { dst with kind := 1 } imm k)
    ({ s with ns := s.ns ||| r.2 }).write q dst k (y + lat) r.1) ⟨d, 0, 0, false⟩
  let n := (vLen e + perReg (vFmt e) - 1) / perReg (vFmt e)
  let work := if vSub e = 3 then 2 * vLen e else vLen e
  s.finish q (fun d => d.vecDone q (vecUses d q (vopSrcs e) (some dst) lat) (doneFlags e) n (n * tm.iv)
    (q.x + (n - 1) * tm.iv + lat + 1) (if vFmt e = fFP64 then 5 else 4) work)

/-- VOP at its issue. -/
def vopEffect (d : Dev) (q : Issue) : Dev :=
  d.engineStart .vu (vecUses d q (vopSrcs q.e) (some (vopDst q.e)) (vopTime (vSub q.e) (vFmt q.e == fFP64)).lat)
    (fun d q => vopBody d q) q

/-- VOP (R214). -/
def execVop (p : Nat) (s : State) : Host.Outcome State Fault Refusal := issueCommand 0x30 vopCheck vopEffect p s

/-! ## VFUNC -/

/-- VFUNC's sources: b for pow (R206). -/
def vfuncSrcs (e : Nat) : List VOpd :=
  let a : VOpd := ⟨vKa e, eH0 e, vVa e, vFmt e, vLen e⟩
  if vSub e = 11 then [a, ⟨vKb e, eH1 e, vVb e, vFmt e, vLen e⟩] else [a]

/-- VFUNC's destination. -/
def vfuncDst (e : Nat) : VOpd := ⟨vKd e, eH2 e, vVd e, vFmt e, vLen e⟩

/-- VFUNC's checks. -/
def vfuncCheck (d : Dev) (q : Issue) : Option Bad :=
  let e := q.e
  vecCheck d q (vfuncSrcs e) (some (vfuncDst e)) true
    [need (vSub e ≤ 11) (skipR 0x02 0), fp16Bad (vFmt e), need (vFmt e == fFP32 || vFmt e == fFP64) (skipR 0x02 5)]

/-- A register-length of fast sin or cos in which a lane has |x| > 2^20 (R150). -/
def slowLane (f : Fp) (g : Fn) (cs : List Nat) : Bool :=
  (g == .sin || g == .cos) && cs.any (fun c => Val.lt (.fin false 1 20) (f.load c).1.abs)

/-- VFUNC's work (R66, R150): a slow register-length freezes the tile for the difference of the intervals. -/
def vfuncBody (d : Dev) (q : Issue) : Dev :=
  let e := q.e
  let t := d.tile q.p
  let f := t.fpu (vFmt e)
  let fast := t.fnFastMode
  let g := (fnOf (vSub e)).getD .exp
  let dst := vfuncDst e
  let double := vFmt e == fFP64
  let tm := fnTime g double fast
  let lat := withDesc tm.lat (vfuncSrcs e) (some dst)
  let imm := eImm e 63 0
  let a : VOpd := ⟨vKa e, eH0 e, vVa e, vFmt e, vLen e⟩
  let b : VOpd := ⟨vKb e, eH1 e, vVb e, vFmt e, vLen e⟩
  let pe := perReg (vFmt e)
  let n := (vLen e + pe - 1) / pe
  let slow := if fast then
      (List.range n).filter (fun r => slowLane f g ((List.range (min pe (vLen e - r * pe))).map (fun i =>
        t.vElem a imm (r * pe + i))))
    else []
  let s := vecSweep q (vLen e) pe tm.iv (fun s k y =>
    let t := s.d.tile q.p
    let r := f.fn fast g (t.vElem a imm k) (t.vElem b imm k)
    ({ s with ns := s.ns ||| r.2 }).write q dst k (y + lat) r.1) ⟨d, 0, 0, false⟩
  let extra := (fnTime g double false).iv - tm.iv
  s.finish q (fun d =>
    let d := d.onTile q.p (fun t =>
      let t := slow.foldl (fun (t : Tile) r => t.freeze tFN_SLOW_TC (q.x + r * tm.iv) extra) t
      if slow.isEmpty then t else t.orBits tENG_STATUS 4)
    d.vecDone q (vecUses d q (vfuncSrcs e) (some dst) lat) (doneFlags e) n (n * tm.iv)
      (q.x + (n - 1) * tm.iv + lat + 1) (if fast then 8 else 7) (vLen e))

/-- VFUNC at its issue. -/
def vfuncEffect (d : Dev) (q : Issue) : Dev :=
  d.engineStart .vu (vecUses d q (vfuncSrcs q.e) (some (vfuncDst q.e))
    (fnTime ((fnOf (vSub q.e)).getD .exp) (vFmt q.e == fFP64) (d.tile q.p).fnFastMode).lat)
    (fun d q => vfuncBody d q) q

/-- VFUNC (R150). -/
def execVfunc (p : Nat) (s : State) : Host.Outcome State Fault Refusal := issueCommand 0x31 vfuncCheck vfuncEffect p s

/-! ## VCVT -/

/-- VCVT's destination format. -/
def vcDst (e : Nat) : Nat := eArgs e 52 49
/-- VCVT's SR. -/
def vcSr (e : Nat) : Bool := eArgBit e 53
/-- VCVT's exponent e of R134, signed. -/
def vcExp (e : Nat) : Int := sext (eArgs e 61 54) 8

/-- VCVT's source. -/
def vcvtSrc (e : Nat) : VOpd := ⟨vKa e, eH0 e, vVa e, vFmt e, vLen e⟩
/-- VCVT's destination. -/
def vcvtDst (e : Nat) : VOpd := ⟨vKd e, eH2 e, vVd e, vcDst e, vLen e⟩

/-- VCVT's checks (R61, R125, R214). -/
def vcvtCheck (d : Dev) (q : Issue) : Option Bad :=
  let e := q.e
  let t := d.tile q.p
  vecCheck d q [vcvtSrc e] (some (vcvtDst e)) (ieeePipe (vFmt e) || ieeePipe (vcDst e))
    [need ([fG16, fFP16, fFP32, fFP64, fI32].contains (vFmt e)) (skipR 0x02 5),
     need (fmtOk (vcDst e)) (skipR 0x08 49),
     need (convOffered (vFmt e) (vcDst e)) (skipR 0x0A 49),
     need (!vcSr e || srDest (vcDst e)) (skipR 0x10 53),
     need (!(vcSr e && vKd e == 1 && vKa e == 2)) (skipR 0x02 53),
     need (!vcSr e || t.hasKey 0) (skipR 0x14 0),
     need (!vcSr e || vTid e != 0xFFFFFFFF) (skipR 0x13 80)]

/-- The source value of a conversion, flushed under FTZ on its FP32 or FP64 side (R55). -/
def convLoad (f : Fp) (fmt c : Nat) : Val × Nat :=
  if fmt = fFP32 ∨ fmt = fFP64 then f.load c else (elemVal fmt c 0, 0)

/-- A conversion on the vector unit (R62, R63, R134): to I8 by the scale 2^−e, to nearest even; else in the direction given. -/
def vecConv (t : Tile) (src dst : Nat) (rm : Rm) (exp s : Int) (c : Nat) : Conv :=
  let x := convLoad (t.fpu src) src c
  let sn := x.2 ||| flagIf x.1.isSnan nsINVALID
  if dst = fI8 then
    let r := convert fI8 .ne 0 (isFloat src) true (x.1.scale (-exp))
    ⟨r.code, r.flags ||| sn, r.satI8⟩
  else if isGBlock dst then
    let r := blockConv dst rm s x.1
    ⟨r.1, r.2 ||| sn, false⟩
  else
    let r := convert dst rm 0 (isFloat src) false x.1
    if dst = fFP32 ∨ dst = fFP64 then
      let y := (t.fpu dst).flush (r.code, r.flags)
      ⟨y.1, y.2 ||| sn, r.satI8⟩
    else ⟨r.code, r.flags ||| sn, r.satI8⟩

/-- The element index of a draw or of a stochastic rounding: of the descriptor, or IMM + k (R120, R214). -/
def drawIndex (t : Tile) (e k : Nat) : Nat :=
  if vKd e = 0 then
    let q := t.descr (eH2 e)
    q.index (q.nth k).1 (q.nth k).2
  else (eImm e 63 0 + k) % 2 ^ 64

/-- The blocks of a block-scaled destination after its elements are written (R46, R47, R110, R129): only a block the command
wrote whole is rewritten. -/
def vecBlock (q : Issue) (o : Desc) (len : Nat) (d : Dev) (r b : Nat) : Dev :=
  let e := q.e
  let t := d.tile q.p
  let cols := (List.range 32).filter (fun i => 32 * b + i < o.cols)
  let wrote := cols.all (fun i => r * o.cols + 32 * b + i < len)
  let any := cols.any (fun i => r * o.cols + 32 * b + i < len)
  let sc := rdScale t.loft o r (32 * b)
  let zero := wrote && cols.all (fun i => rdElem t.loft o r (32 * b + i) == 0) && scaleValid sc
  let d := if wrote then
      ((List.range 32).filter (fun i => o.cols ≤ 32 * b + i)).foldl (fun (d : Dev) i => d.putElem q.p o r (32 * b + i) 0) d
    else d
  let d := if zero then (d.putScale q.p o r (32 * b) (-128)).onTile q.p (fun t => t.orBits tSCOUT_STATUS 1) else d
  if vFpen e && any then
    d.onTile q.p (fun t => t.fpBlock (vFpacc e) (vTid e) (o.index r (32 * b)) (if zero then 0x80 else wrapN sc 8))
  else d

/-- VCVT's timing (R147). -/
def vcvtTime (e : Nat) : VTime := ⟨1, if isGBlock (vcDst e) then 6 else 4⟩

/-- VCVT's work. -/
def vcvtBody (d : Dev) (q : Issue) : Dev :=
  let e := q.e
  let dst := vcvtDst e
  let tm := vcvtTime e
  let lat := withDesc tm.lat [vcvtSrc e] (some dst)
  let imm := eImm e 63 0
  let pe := perReg (vFmt e)
  let s := vecSweep q (vLen e) pe tm.iv (fun s k y =>
    let t := s.d.tile q.p
    let c := t.vElem (vcvtSrc e) imm k
    if vcDst e = fStook ∨ vcDst e = fBushel then
      let x := convLoad (t.fpu (vFmt e)) (vFmt e) c
      ({ s with ns := s.ns ||| x.2 ||| flagIf x.1.isSnan nsINVALID }).writeExact q dst k (y + lat) x.1
    else
      let rm := if vcSr e then srMode t (vTid e) (drawIndex t e k) else (t.fpu (vFmt e)).rm
      let ds := t.descr (eH2 e)
      let sc := if isGBlock (vcDst e) then rdScale t.loft ds (ds.nth k).1 (ds.nth k).2 else 0
      let r := vecConv t (vFmt e) (vcDst e) rm (vcExp e) sc c
      let d := if vcSr e then s.d.onTile q.p (fun t => t.bump tSR_COUNT 1) else s.d
      ({ s with d := d, ns := s.ns ||| r.flags, satI8 := s.satI8 + b2n r.satI8 }).write q dst k (y + lat) r.code)
    ⟨d, 0, 0, false⟩
  let o := (d.tile q.p).descr (eH2 e)
  let s := if isGBlock (vcDst e) then
      { s with d := (List.range ((vLen e + o.cols - 1) / o.cols)).foldl (fun (d : Dev) r =>
          (List.range o.blocks).foldl (fun (d : Dev) b => vecBlock q o (vLen e) d r b) d) s.d }
    else s
  let n := (vLen e + pe - 1) / pe
  let cls := if vFmt e = fFP64 ∨ vcDst e = fFP64 then 5 else 4
  s.finish q (fun d => d.vecDone q (vecUses d q [vcvtSrc e] (some dst) lat) (doneFlags e) n (n * tm.iv)
    (q.x + (n - 1) * tm.iv + lat + 1) cls (vLen e))

/-- VCVT at its issue. -/
def vcvtEffect (d : Dev) (q : Issue) : Dev :=
  d.engineStart .vu (vecUses d q [vcvtSrc q.e] (some (vcvtDst q.e)) (vcvtTime q.e).lat) (fun d q => vcvtBody d q) q

/-- VCVT (R214). -/
def execVcvt (p : Nat) (s : State) : Host.Outcome State Fault Refusal := issueCommand 0x32 vcvtCheck vcvtEffect p s

/-! ## VDRAW -/

/-- VDRAW's destination: UNIT draws FP32, RAW32 an I32 word (R117). -/
def vdrawDst (e : Nat) : VOpd := ⟨vKd e, eH2 e, vVd e, if eArgBit e 52 then fFP32 else fI32, vLen e⟩

/-- VDRAW's checks (R117, R119). -/
def vdrawCheck (d : Dev) (q : Issue) : Option Bad :=
  let e := q.e
  vecCheck d q [] (some (vdrawDst e)) false
    [need (eArgs e 51 49 ≤ 7 && (d.tile q.p).hasKey (eArgs e 51 49)) (skipR 0x14 49),
     need (vTid e != 0xFFFFFFFF) (skipR 0x13 80)]

/-- One draw (R117): bits [31:0] of T, or bits [23:0] × 2^−24 in FP32. -/
def drawCode (unit : Bool) (u : Nat) : Nat :=
  if unit then (ieeeFP32.encode .ne (.fin false (u % 2 ^ 24) (-24))).1 else u % 2 ^ 32

/-- VDRAW's work. -/
def vdrawBody (d : Dev) (q : Issue) : Dev :=
  let e := q.e
  let dst := vdrawDst e
  let lat := withDesc 16 [] (some dst)
  let s := vecSweep q (vLen e) 128 2 (fun s k y =>
    let t := s.d.tile q.p
    let u := threshing (t.key (eArgs e 51 49)) (vTid e) (t.rd tTHR_STEP) (drawIndex t e k)
    s.write q dst k (y + lat) (drawCode (eArgBit e 52) u)) ⟨d, 0, 0, false⟩
  let n := (vLen e + 127) / 128
  s.finish q (fun d => d.vecDone q (vecUses d q [] (some dst) lat) (doneFlags e) n (n * 2)
    (q.x + (n - 1) * 2 + lat + 1) 4 0)

/-- VDRAW at its issue. -/
def vdrawEffect (d : Dev) (q : Issue) : Dev :=
  d.engineStart .vu (vecUses d q [] (some (vdrawDst q.e)) 16) (fun d q => vdrawBody d q) q

/-- VDRAW (R117). -/
def execVdraw (p : Nat) (s : State) : Host.Outcome State Fault Refusal := issueCommand 0x33 vdrawCheck vdrawEffect p s

/-! ## VSORT -/

/-- VSORT's source. -/
def vsortSrc (e : Nat) : VOpd := ⟨vKa e, eH0 e, vVa e, vFmt e, vLen e⟩
/-- The elements VSORT writes: every key, or the k first (R214). -/
def vsortOut (e : Nat) : Nat := if eArgBit e 56 then min (eArgs e 55 49 + 1) (vLen e) else vLen e
/-- VSORT's key destination. -/
def vsortDst (e : Nat) : VOpd := ⟨vKd e, eH2 e, vVd e, vFmt e, vsortOut e⟩

/-- VSORT's checks (R147, R214): registers only, one register to sort. -/
def vsortCheck (d : Dev) (q : Issue) : Option Bad :=
  let e := q.e
  vecCheck d q [vsortSrc e] (some (vsortDst e)) true
    [fp16Bad (vFmt e), need (vFmt e == fFP32) (skipR 0x02 5),
     need (vKa e == 1 && vKd e == 1) (skipR 0x02 25),
     need (eArgBit e 56 || vLen e ≤ 128) (skipR 0x02 9),
     need (vVd e + 1 ≤ 63) (skipR 0x02 43)]

/-- The order of keys (R65): ascending, zeros equal, NaN after +∞, equal keys by index. -/
def keyBefore (a b : Val × Nat) : Bool :=
  if a.1.isNan && b.1.isNan then a.2 < b.2
  else if a.1.isNan then false
  else if b.1.isNan then true
  else a.1.lt b.1 || (a.1.eqv b.1 && a.2 < b.2)

/-- A key put in its place. -/
def insertKey (k : Val × Nat) : List (Val × Nat) → List (Val × Nat)
  | [] => [k]
  | a :: r => if keyBefore k a then k :: a :: r else a :: insertKey k r

/-- Keys in order, with their element indices. -/
def sortKeys (ks : List (Val × Nat)) : List (Val × Nat) := ks.foldr insertKey []

/-- VSORT's work: keys to VD, as the operation reads and writes FP32 values (R49, R55), indices to VD + 1. -/
def vsortBody (d : Dev) (q : Issue) : Dev :=
  let e := q.e
  let src := vsortSrc e
  let dst := vsortDst e
  let n := (vLen e + 127) / 128
  let y := q.x + (n - 1) * 16 + 48
  let d := d.onTile q.p (fun t => t.settleV q.x)
  let t := d.tile q.p
  let cs := (List.range (vLen e)).map (fun k => (t.fpu fFP32).load (t.vElem src 0 k))
  let ns := cs.foldl (fun n c => n ||| c.2) (snanFlag (cs.map (·.1)))
  let out := (sortKeys (cs.zipIdx.map (fun c => (c.1.1, c.2)))).take (vsortOut e)
  let d := out.zipIdx.foldl (fun (d : Dev) (k : (Val × Nat) × Nat) =>
    d.onTile q.p (fun t =>
      (t.pushV dst k.2 y (ieeeFP32.encode .ne k.1.1).1).pushV { dst with v := vVd e + 1, fmt := fI32 } k.2 y k.1.2)) d
  let d := d.onTile q.p (fun t => t.orBits tNUM_STATUS ns)
  d.vecDone q [] (doneFlags e) n (n * 16) (y + 1) 4 (vLen e)

/-- VSORT at its issue. -/
def vsortEffect (d : Dev) (q : Issue) : Dev := d.engineStart .vu [] (fun d q => vsortBody d q) q

/-- VSORT (R214). -/
def execVsort (p : Nat) (s : State) : Host.Outcome State Fault Refusal := issueCommand 0x34 vsortCheck vsortEffect p s

/-! ## VDOT -/

/-- VDOT's kind: dot product, sum, sum of squares. -/
def vdKind (e : Nat) : Nat := eArgs e 56 55
/-- VDOT's sources. -/
def vdotSrcs (e : Nat) : List VOpd :=
  let a : VOpd := ⟨vKa e, eH0 e, vVa e, vFmt e, vLen e⟩
  if vdKind e = 0 then [a, ⟨vKb e, eH1 e, vVb e, vFmt e, vLen e⟩] else [a]

/-- VDOT's checks (R147, R214). -/
def vdotCheck (d : Dev) (q : Issue) : Option Bad :=
  let e := q.e
  vecCheck d q (vdotSrcs e) none true
    [fp16Bad (vFmt e), need (vFmt e == fFP32) (skipR 0x02 5), need (vdKind e != 3) (skipR 0x02 55)]

/-- The terms of a VDOT, with their flags, each at full value (R95). -/
def vdotTerm (t : Tile) (e imm k : Nat) : Val × Nat :=
  let a := ieeeFP32.decode (t.vElem ⟨vKa e, eH0 e, vVa e, vFmt e, vLen e⟩ imm k)
  match vdKind e with
  | 0 =>
    let b := ieeeFP32.decode (t.vElem ⟨vKb e, eH1 e, vVb e, vFmt e, vLen e⟩ imm k)
    (a.mul b, prodFlags a b)
  | 1 => (a, flagIf a.isSnan nsINVALID)
  | _ => (a.mul a, prodFlags a a)

/-- VDOT's work (R95, R148): 16 lane partials, added into VPn at the end; holds and slot fetches freeze the tile (R92). -/
def vdotBody (d : Dev) (q : Issue) : Dev :=
  let e := q.e
  let imm := eImm e 63 0
  let n := (vLen e + 127) / 128
  let lat := withDesc 10 (vdotSrcs e) none
  let done := q.x + (n - 1) * 8 + lat + 1
  let d := d.onTile q.p (fun t => t.settleV q.x)
  let t := d.tile q.p
  let terms := (List.range (vLen e)).map (fun k => vdotTerm t e imm k)
  let lanes := (List.range (min 16 (vLen e))).map (fun l =>
    (terms.zipIdx.filter (fun v => v.2 % 16 == l)).foldl (fun (a : Val) v => a.add v.1.1) Val.zero)
  let j := 12288 + eArgs e 54 49
  let grn := d.grnSlots t
  let old := t.hist.filter (fun h => q.x ≤ h.tc)
  let k := lanes.zipIdx.foldl (fun (k : Pk) (v : Val × Nat) =>
    k.promote grn (t.logical.getD 0) j (done - 1) (eArgBit e 57 && v.2 == 0) v.1) { Pk.ofTile t with hist := old }
  let t := t.orBits tNUM_STATUS (terms.foldl (fun f v => f ||| v.2) 0)
  let t := { t with fetch := t.fetch ++ groupMisses (k.miss.length + 1) (k.miss.take 1) }
  let t := t.freeze tRUN_EXTRA_TC done (4 * k.holds)
  ((d.setTile q.p t).putPk q.p k).vecDone q (vecUses d q (vdotSrcs e) none lat) (doneFlags e) n (n * 8) done 6 (vLen e)

/-- VDOT at its issue. -/
def vdotEffect (d : Dev) (q : Issue) : Dev :=
  d.engineStart .vu (vecUses d q (vdotSrcs q.e) none 10) (fun d q => vdotBody d q) q

/-- VDOT (R148). -/
def execVdot (p : Nat) (s : State) : Host.Outcome State Fault Refusal := issueCommand 0x35 vdotCheck vdotEffect p s

/-! ## VRED64 -/

/-- VRED64's m. -/
def vrM (e : Nat) : Nat := eArgs e 53 51 + 1
/-- VRED64's n. -/
def vrN (e : Nat) : Nat := eArgs e 56 54 + 1
/-- VRED64's sources: a holds m rows of K elements, b n rows (log entry 13). -/
def vredSrcs (e : Nat) : List VOpd :=
  [⟨vKa e, eH0 e, vVa e, vFmt e, vrM e * vLen e⟩, ⟨vKb e, eH1 e, vVb e, vFmt e, vrN e * vLen e⟩]
/-- VRED64's destination: m rows of n elements. -/
def vredDst (e : Nat) : VOpd := ⟨vKd e, eH2 e, vVd e, vFmt e, vrM e * vrN e⟩

/-- VRED64's checks (R149, R214). -/
def vred64Check (d : Dev) (q : Issue) : Option Bad :=
  let e := q.e
  vecCheck d q (vredSrcs e) (some (vredDst e)) true
    [fp16Bad (vFmt e), need (vFmt e == fFP64) (skipR 0x02 5), need (eArgs e 50 49 != 3) (skipR 0x0D 49)]

/-- VRED64's work (R99, R100, R149). -/
def vred64Body (d : Dev) (q : Issue) : Dev :=
  let e := q.e
  let imm := eImm e 63 0
  let d := d.onTile q.p (fun t => t.settleV q.x)
  let t := d.tile q.p
  let f := t.fpu fFP64
  let kk := vLen e
  let occ := vrM e * vrN e * ((kk + 63) / 64)
  let lat := withDesc 48 (vredSrcs e) (some (vredDst e))
  let s := (List.range (vrM e)).foldl (fun (s : VRun) i =>
    (List.range (vrN e)).foldl (fun (s : VRun) j =>
      let ts := (List.range kk).map (fun k =>
        (t.vElem ⟨vKa e, eH0 e, vVa e, vFmt e, vrM e * kk⟩ imm (i * kk + k),
         t.vElem ⟨vKb e, eH1 e, vVb e, vFmt e, vrN e * kk⟩ imm (j * kk + k)))
      let o := i * vrN e + j
      let init := if eArgBit e 57 then t.vElem (vredDst e) imm o else 0
      let r := reduce64 f (t.fld tNUM_CTRL 0 0 == 1) (eArgs e 50 49) init ts
      ({ s with ns := s.ns ||| r.2 }).write q (vredDst e) o (q.x + occ - 1 + lat) r.1) s) ⟨d, 0, 0, false⟩
  s.finish q (fun d => d.vecDone q (vecUses d q (vredSrcs e) (some (vredDst e)) lat) (doneFlags e) occ occ
    (q.x + occ - 1 + lat + 1) 5 (2 * vrM e * vrN e * kk))

/-- VRED64 at its issue. -/
def vred64Effect (d : Dev) (q : Issue) : Dev :=
  d.engineStart .vu (vecUses d q (vredSrcs q.e) (some (vredDst q.e)) 48) (fun d q => vred64Body d q) q

/-- VRED64 (R149). -/
def execVred64 (p : Nat) (s : State) : Host.Outcome State Fault Refusal := issueCommand 0x36 vred64Check vred64Effect p s

/-! ## VTEST -/

/-- VTEST's source. -/
def vtestSrc (e : Nat) : VOpd := ⟨vKa e, eH0 e, vVa e, vFmt e, vLen e⟩

/-- VTEST's checks: its flag is a program flag that no ring holds (R228, R245). -/
def vtestCheck (d : Dev) (q : Issue) : Option Bad :=
  let e := q.e
  vecCheck d q [vtestSrc e] none true
    [fp16Bad (vFmt e), need (vFmt e == fFP32 || vFmt e == fFP64) (skipR 0x02 5),
     need (eArgs e 54 49 ≤ 39) (skipR 0x40 (eArgs e 54 49)),
     need (!d.bound (d.tile q.p) (eArgs e 54 49)) (skipR 0x41 (eArgs e 54 49))]

/-- VTEST's work: the named flag is set at completion when every element is finite (R206); a flush and a signalling NaN show
in NUM_STATUS as in every FP32 and FP64 operation (R49, R55). -/
def vtestBody (d : Dev) (q : Issue) : Dev :=
  let e := q.e
  let d := d.onTile q.p (fun t => t.settleV q.x)
  let t := d.tile q.p
  let f := t.fpu (vFmt e)
  let pe := perReg (vFmt e)
  let n := (vLen e + pe - 1) / pe
  let lat := withDesc 4 [vtestSrc e] none
  let xs := (List.range (vLen e)).map (fun k => f.load (t.vElem (vtestSrc e) (eImm e 63 0) k))
  let ns := xs.foldl (fun n x => n ||| x.2) (snanFlag (xs.map (·.1)))
  let fin_ := xs.all (fun x => x.1.isFin)
  let d := d.onTile q.p (fun t => t.orBits tNUM_STATUS ns)
  d.vecDone q (vecUses d q [vtestSrc e] none lat) ((if fin_ then [eArgs e 54 49] else []) ++ doneFlags e) n n
    (q.x + (n - 1) + lat + 1) (if vFmt e = fFP64 then 5 else 4) (vLen e)

/-- VTEST at its issue. -/
def vtestEffect (d : Dev) (q : Issue) : Dev :=
  d.engineStart .vu (vecUses d q [vtestSrc q.e] none 4) (fun d q => vtestBody d q) q

/-- VTEST (R206). -/
def execVtest (p : Nat) (s : State) : Host.Outcome State Fault Refusal := issueCommand 0x37 vtestCheck vtestEffect p s

/-! ## VPOUT -/

/-- VPOUT's destination format. -/
def vpFmt (e : Nat) : Nat := eArgs e 58 55
/-- VPOUT's destination. -/
def vpoutDst (e : Nat) : VOpd := ⟨vKd e, eH2 e, vVd e, vpFmt e, 1⟩

/-- VPOUT's checks (R214). -/
def vpoutCheck (d : Dev) (q : Issue) : Option Bad :=
  let e := q.e
  vecCheck d q [] (some (vpoutDst e)) (ieeePipe (vpFmt e))
    [need ([fG16, fFP32, fFP64, fStook, fBushel].contains (vpFmt e)) (skipR 0x02 55)]

/-- VPOUT's work (R62, R86, R89): one element, rounded once; FTZ does not act (R55). Its latency is that of a conversion
(log entry 14). -/
def vpoutBody (d : Dev) (q : Issue) : Dev :=
  let e := q.e
  let dst := vpoutDst e
  let lat := withDesc 4 [] (some dst)
  let j := 12288 + eArgs e 54 49
  let r := (OutRun.start (d.onTile q.p (fun t => t.settleV q.x)) q).read q.p (eArgBit e 59) j q.x
  let d := (r.1.d.putPk q.p r.1.k).onTile q.p (fun t =>
    { t with fetch := t.fetch ++ groupMisses (r.1.k.miss.length + 1) r.1.k.miss })
  let s : VRun := ⟨d, 0, 0, false⟩
  let s := if vpFmt e = fStook ∨ vpFmt e = fBushel then s.writeExact q dst 0 (q.x + lat) r.2
    else
      let c := convert (vpFmt e) (rmOfRnd ((d.tile q.p).fld tNUM_CTRL 4 3)) 0 false false r.2
      ({ s with ns := c.flags }).write q dst 0 (q.x + lat) c.code
  s.finish q (fun d => d.vecDone q (vecUses d q [] (some dst) lat) (doneFlags e) 1 1 (q.x + lat + 1)
    (if vpFmt e = fFP64 then 5 else 4) 1)

/-- VPOUT at its issue. -/
def vpoutEffect (d : Dev) (q : Issue) : Dev :=
  d.engineStart .vu (vecUses d q [] (some (vpoutDst q.e)) 4) (fun d q => vpoutBody d q) q

/-- VPOUT (R214). -/
def execVpout (p : Nat) (s : State) : Host.Outcome State Fault Refusal := issueCommand 0x38 vpoutCheck vpoutEffect p s

end Sys2Proof.Machine
end

