-- ==== Sys2Proof/Machine/Loft.lean ====
section
/-! DEFINITION. Lofts: ownership and handovers (R162 to R166), waits for banks (R167 to R169), atomics that reach a bank
(R171, R172), march runs and soft repair (R175 to R180), the enabling of a tile (R181). -/

namespace Sys2Proof.Machine

/-! ## Masters (R161) -/

/-- VU. -/
def mVU : Nat := 3
/-- DI. -/
def mDI : Nat := 4
/-- DO. -/
def mDO : Nat := 5
/-- BN. -/
def mBN : Nat := 6
/-- XT. -/
def mXT : Nat := 7

/-- LOFT_STATUS bits (R182). -/
def lsENGINE_WAIT : Nat := 1
/-- TIMEOUT. -/
def lsTIMEOUT : Nat := 2
/-- HANDOVER_DEFERRED. -/
def lsDEFERRED : Nat := 4
/-- MARCH_FAIL. -/
def lsMARCH_FAIL : Nat := 32
/-- MARCH_REFUSED. -/
def lsMARCH_REFUSED : Nat := 64
/-- REPAIR_EXHAUST. -/
def lsEXHAUST : Nat := 128

/-! ## Waiting accesses -/

/-- The effect of an engine opcode, for a command that was held. -/
def engineEffect (op : Nat) : Dev → Issue → Dev :=
  if op = 0x10 then mmaEffect
  else if op = 0x11 then pocketLoadEffect
  else if op = 0x20 then storeEffect
  else if op = 0x21 then scoutEffect
  else if op = 0x22 then scoreEffect
  else if op = 0x30 then vopEffect
  else if op = 0x31 then vfuncEffect
  else if op = 0x32 then vcvtEffect
  else if op = 0x33 then vdrawEffect
  else if op = 0x34 then vsortEffect
  else if op = 0x35 then vdotEffect
  else if op = 0x36 then vred64Effect
  else if op = 0x37 then vtestEffect
  else if op = 0x38 then vpoutEffect
  else fun d _ => d

/-- The tc by which a command's accesses through a master are over: the array's reads at its acceptance, the others at its
completion. -/
def EngCmd.accessEnd (c : EngCmd) (m : Nat) : Nat := if m ≤ 1 then c.accept else c.done

/-- A command in an engine still needs a bank of a master that is not `m`. -/
def EngCmd.loses (c : EngCmd) (b m x : Nat) : Bool :=
  c.uses.any (fun u => u.1 != m && u.2.testBit b && x < c.accessEnd u.1)

/-- The wait of a command that lost a bank at local tc `x` (R164, R167). -/
def Tile.lostWait (t : Tile) (b m x : Nat) (c : EngCmd) : LoftWait :=
  let u := (c.uses.find? (fun u => u.1 != m && u.2.testBit b)).getD (0, 0)
  let pos := c.entry % 8192
  ⟨c.eng, BitVec.ofNat 256 (t.entry (pos / 4096) (pos % 4096)), pos, x, x, u.1, u.2, [], some c, none⟩

/-- A bank passes to a master at local tc `x`: commands that still need it wait (R164, R167). -/
def Tile.giveBank (t : Tile) (b m x : Nat) : Tile :=
  if t.owner b = m then t
  else
    let ws := (t.eng.filter (fun c => c.loses b m x)).map (fun c => t.lostWait b m x c)
    let t := t.hand b m x
    { t with eng := t.eng.filter (fun c => !c.loses b m x), loftWait := t.loftWait ++ ws }

/-- The latest handover of the banks of a mask. -/
def Tile.grantTc (t : Tile) (banks : Nat) : Nat := (banksOf banks).foldl (fun g b => max g (sget 0 t.handTc b)) 0

/-- A wait of `n` tc counted for a master (R167, R168). -/
def Tile.countWait (t : Tile) (m n : Nat) : Tile :=
  if n = 0 then t
  else
    let t := (t.bump (tLOFT_CONFLICT + 4 * m) 1).bump (tLOFT_WAIT_TC + 4 * m) n
    if m ≤ 3 then t.orBits tLOFT_STATUS lsENGINE_WAIT else t

/-- A command whose work is done takes its place in its engine again, later. -/
def EngCmd.later (c : EngCmd) (n : Nat) : EngCmd := { c with accept := c.accept + n, done := c.done + n }

/-- The wait of an access ends as its banks pass to its master (R167). A command that had not begun runs now, with the
descriptors of its issue. -/
def Dev.grant (d : Dev) (p : Nat) (w : LoftWait) : Dev :=
  let t := d.tile p
  let n := t.grantTc w.banks - w.since
  let t := { t with loftWait := t.loftWait.erase w }
  match w.rest with
  | some c => d.setTile p ((t.countWait w.master (n + 4)).engage (c.later (n + 4)))
  | none =>
    let d := d.setTile p (t.countWait w.master n)
    match w.cross with
    | some _ => d
    | none =>
      let now := t.desc
      let d := d.onTile p (fun t => { t with desc := w.desc })
      let d := engineEffect (eOpcode w.entry.toNat) d ⟨p, w.issued + n, w.index, w.entry.toNat⟩
      d.onTile p (fun t => { t with desc := now })

/-- Every wait of a tile that its masters' banks now end. -/
def Dev.runHeld (d : Dev) (p : Nat) : Dev :=
  ((d.tile p).loftWait).foldl (fun (d : Dev) w =>
    if (d.tile p).owns w.master w.banks then d.grant p w else d) d

/-! ## Handovers -/

/-- The latest transfer in progress that names a bank (R166). -/
def Tile.holder (t : Tile) (b : Nat) : Option Xfer := (t.xfers.filter (fun x => x.running && x.banks.testBit b)).getLast?

/-- A transfer replaced. -/
def Tile.setXfer (t : Tile) (f g : Xfer) : Tile := { t with xfers := t.xfers.map (fun x => if x = f then g else x) }

/-- A handover of one bank by a table command (R163, R166). -/
def Tile.handover (t : Tile) (b m x : Nat) : Tile :=
  match t.holder b with
  | some f =>
    (t.setXfer f { f with deferred := (b, m) :: f.deferred.filter (fun y => y.1 != b) }).orBits tLOFT_STATUS lsDEFERRED
  | none => t.giveBank b m x

/-- A transfer has all its banks: what it sends to other devices leaves now (R246, R272). -/
def Dev.xferStart (d : Dev) (p : Nat) (f : Xfer) : Dev :=
  let t := d.tile p
  let q := Desc.ofNat f.src.toNat
  match f.kind with
  | .push =>
    let r := f.aux % 16
    let job := d.ringReg r dRING_JOB
    if d.ringConsHere r then d.innerMsg job (.slotHere r (f.aux / 16) p)
    else d.message job (bits (d.ringReg r dRING_PEERS) 30 16) 1 (t.logical.getD 0x1FF)
      (.slotData r (f.aux / 16) (wireElems d t t.loft q ++ wireScales t.loft q))
  | .dmaOut =>
    if (Desc.ofNat f.dst.toNat).space = 2 ∧ f.status = none then
      d.message t.job (eArgs f.entry.toNat 31 17) (eArgs f.entry.toNat 16 15) (t.logical.getD 0x1FF)
        (.data ((q.count * fmtWidth q.fmt + 127) / 128))
    else d
  | .coll => d.collStart p f
  | .dmaIn => d

/-- A transfer that has all its banks, and no fence holds, starts. -/
def Dev.startIfReady (d : Dev) (p : Nat) (f : Xfer) : Dev := if f.waits = 0 ∧ f.held = false then d.xferStart p f else d

/-- A fence holds new class-1 and class-2 work of a job and epoch (R333). -/
def Dev.fenced (d : Dev) (job epoch : Nat) : Bool :=
  d.fences.any (fun f => f.job == job && (match f.epoch with | some e => e == epoch | none => true))

/-- A transfer is one the Binder would start: a push, a collective, a transfer to or from a peer (R333). -/
def Xfer.viaBinder (f : Xfer) : Bool :=
  match f.kind with
  | .push => true
  | .coll => true
  | .dmaIn => (Desc.ofNat f.src.toNat).space == 2
  | .dmaOut => (Desc.ofNat f.dst.toNat).space == 2

/-- The banks a transfer takes at its issue: one that another transfer holds is taken later (R165, R166). -/
def Tile.takeBanks (t : Tile) (f : Xfer) (x : Nat) : Tile :=
  let held := (banksOf f.banks).filter (fun b => (t.holder b).isSome)
  let free := (banksOf f.banks).filter (fun b => (t.holder b).isNone)
  let t := free.foldl (fun (t : Tile) b => t.giveBank b f.master x) t
  let t := if held = [] then t else t.orBits tLOFT_STATUS lsDEFERRED
  { t with xfers := t.xfers ++ [{ f with waits := held.foldl (fun m b => m + 2 ^ b) 0 }] }

/-- A transfer issues at local tc `x`: its banks, and what it sends (R165, R166). -/
def Dev.startXfer (d : Dev) (p x : Nat) (f : Xfer) : Dev :=
  let t := d.tile p
  let f := { f with held := f.viaBinder && d.fenced t.job (t.fld tJOB_IDS 15 0) }
  let d := (d.onTile p (fun t => t.takeBanks f x)).runHeld p
  match (d.tile p).xfers.getLast? with
  | some g => d.startIfReady p g
  | none => d

/-- A bank of a transfer that ended passes on at local tc `x`: to the next transfer that waits for it, else as a deferred
handover says, else to the return owner (R165, R166). -/
def Tile.passBank (t : Tile) (f : Xfer) (x b : Nat) : Tile :=
  match t.xfers.find? (fun y => y.running && y.waits.testBit b) with
  | some y =>
    let ws := y.waits - 2 ^ b
    let t := (t.setXfer y { y with waits := ws }).giveBank b y.master x
    if ws = 0 then t.bump (tLOFT_WAIT_TC + 4 * y.master) (x - y.issued) else t
  | none =>
    match f.deferred.find? (fun y => y.1 == b) with
    | some y => t.giveBank b y.2 x
    | none => t.giveBank b f.ret x

/-- A crossing transfer ends at local tc `x`: its banks pass on (R165, R166). -/
def Dev.endXfer (d : Dev) (p x : Nat) (f : Xfer) : Dev :=
  let t := d.tile p
  let t := t.setXfer f { f with running := false }
  let t := { t with xfers := t.xfers.filter (fun y => y.running || y.out) }
  let late (ys : List Xfer) := ys.filter (fun y => y.running && y.waits != 0)
  let t' := ((banksOf f.banks).filter (fun b => !f.waits.testBit b)).foldl (fun (t : Tile) b => t.passBank f x b) t
  let d := (d.setTile p t').runHeld p
  ((late t.xfers).filter (fun y => !(late t'.xfers).any (fun z => z.index == y.index && z.issued == y.issued))).foldl
    (fun (d : Dev) y => d.startIfReady p { y with waits := 0 }) d

/-- Flags set at local tc `x`, which the tile's clock has not reached: set now where no entry issues before it, else on its
way (R165, R230). -/
def Dev.flagLater (d : Dev) (p x mark : Nat) (fs : List Nat) : Dev :=
  let t := d.tile p
  match t.due with
  | some u => if u < x then d.setTile p (t.engage ⟨.dma, 0, x, fs, mark, []⟩) else d.setFlagsAt p x mark fs
  | none => d.setFlagsAt p x mark fs

/-- A completion record. -/
def Dev.xferRecord (d : Dev) (p : Nat) (f : Xfer) (status : Nat) : Dev :=
  { d with xferRecs := d.xferRecs ++ [⟨p, f.index, f.flag, status⟩] }

/-- The flags a transfer's completion sets: its own, and flag 42 for a DMA transfer (R227). -/
def Xfer.flags (f : Xfer) : List Nat :=
  f.flag.toList ++ (if f.kind = .dmaIn ∨ f.kind = .dmaOut then [42] else [])

/-- A transfer completes at local tc `x`: its record, its banks, its flags 4 tc later (R165). -/
def Dev.finishXfer (d : Dev) (p x : Nat) (f : Xfer) (status : Nat) : Dev :=
  ((d.xferRecord p f status).endXfer p x f).flagLater p (x + 4) (markOf f.index (eOpcode f.entry.toNat)) f.flags

/-- LOFT_HAND's checks (R161, R170, R207): reserved master codes, ring banks. -/
def loftHandCheck (d : Dev) (q : Issue) : Option Bad :=
  let t := d.tile q.p
  let bs := banksOf (eArgs q.e 7 0)
  let code (b : Nat) : Nat := eImm q.e (4 * b + 3) (4 * b)
  firstBad (bs.map (fun b => need (code b < 8) (skipR 0x02 b)) ++
    bs.map (fun b => need (!t.isRing b || [0, 1, 3].contains (code b)) (skipR 0x18 b)))

/-- LOFT_HAND's effect (R163, R164, R166). -/
def loftHandEffect (d : Dev) (q : Issue) : Dev :=
  let d := d.onTile q.p (fun t => (banksOf (eArgs q.e 7 0)).foldl
    (fun (t : Tile) b => t.handover b (eImm q.e (4 * b + 3) (4 * b)) q.x) t)
  (d.runHeld q.p).setOwnFlag q

/-- LOFT_HAND (R163). -/
def execLoftHand (p : Nat) (s : State) : Host.Outcome State Fault Refusal :=
  issueCommand 0x08 loftHandCheck loftHandEffect p s

/-! ## The timeout of a wait (R167, R169) -/

/-- The tc at which a wait times out. -/
def Tile.waitEnds (t : Tile) (w : LoftWait) : Nat := w.since + t.fld tLOFT_CTRL 7 0 * 1024

/-- A wait abandoned (R169): a tile master's table stops at the entry, a crossing master's transfer ends. -/
def Dev.loftTimeout (d : Dev) (p : Nat) (w : LoftWait) : Dev :=
  let t := d.tile p
  let x := t.waitEnds w
  let d := d.advanceTo (t.toGlobal x)
  let d := d.setTile p ((({ t with loftWait := t.loftWait.erase w }).countWait w.master (x - w.since)).orBits
    tLOFT_STATUS lsTIMEOUT)
  match w.cross with
  | none => d.refuse ⟨p, x, w.index, w.entry.toNat⟩ ⟨0x40, 0x17, 0, true⟩
  | some (p', f) =>
    match (d.tile p').xfers.find? (fun y => y.running && y.flag == some f) with
    | some y => d.finishXfer p' ((d.tile p').toLocal d.clock.now) y 0x40
    | none => d

/-- The access of a master that has waited longest, the one its timeout ends first. -/
def Tile.firstWait (t : Tile) (master : Nat) : Option LoftWait :=
  t.loftWait.find? (fun w => w.master == master && t.loftWait.all (fun w' => w'.master != master || w.since ≤ w'.since))

/-- LOFT_WAIT_TIMEOUT (R169): the first access of a master that waits reaches its timeout, and nothing of the tile comes
before. -/
def execLoftWaitTimeout (p master : Nat) (s : State) : Host.Outcome State Fault Refusal :=
  if p < 272 then
    let t := s.dev.tile p
    match t.firstWait master with
    | some w =>
      let x := t.waitEnds w
      if t.clearTo x && (match t.due with | some u => x ≤ u | none => true) then
        .next { s with dev := s.dev.loftTimeout p w }
      else .fault .notNextEntry
    | none => .fault .nothingInFlight
  else .fault .noSuchUnit

/-! ## Atomics at a bank -/

/-- The width in bytes of an atomic, and its alignment: 0 ADD_I32, 1 ADD_I64, 2 ADD_STOOK, 3 ADD_BUSHEL, 4 SWAP (R171). -/
def atomWidth (op : Nat) : Nat × Nat := ([(4, 4), (8, 8), (16, 16), (80, 16), (16, 16)] : List (Nat × Nat)).getD op (0, 1)

/-- The master may issue the atomic, and its target keeps the rules of R171. -/
def atomOk (master op a : Nat) : Bool :=
  op ≤ 4 && [2, mVU, mDI, mBN].contains master && a % (atomWidth op).2 == 0 && a + (atomWidth op).1 ≤ 2 ^ 22 &&
  bankOf a == bankOf (a + (atomWidth op).1 - 1)

/-- An atomic applied at its bank (R171 to R174). -/
def Dev.atomApply (d : Dev) (p op a v : Nat) : Dev :=
  if op = 0 then d.atomAddInt p a 4 (v % 2 ^ 32)
  else if op = 1 then d.atomAddInt p a 8 (v % 2 ^ 64)
  else if op = 2 then
    let r := stookValue d (d.tile p) (v % 2 ^ 128)
    (d.onTile p (fun t => t.orBits tNUM_STATUS r.2)).atomAddStook p a r.1
  else if op = 3 then d.atomAddBushel p a (bushelVal (v % 2 ^ 640))
  else
    let r := d.atomSwap p a (v % 2 ^ 128)
    r.1.send (.swapped p a r.2)

/-- The Binder's refusal of an atomic on a ring bank (R170, R341). -/
def Dev.ringAccess (d : Dev) (p b : Nat) : Dev :=
  let t := d.tile p
  d.binderLog (t.rd tTHR_STEP) t.job 0x70 0x10 1 (t.logical.getD 0x1FF) 0xFFFF b

/-- The atomic's outcome at the bank: refused, skipped or applied. -/
def Dev.loftAtomic (d : Dev) (p master op a v : Nat) : Dev :=
  let t := d.tile p
  let x := d.arriveTc t
  if !atomOk master op a then
    d.refuse ⟨p, x, t.pcMark % 65536, t.pcMark / 65536⟩ ⟨0x10, 0x19, 0, false⟩
  else if t.isRing (bankOf a) && master == mBN then d.ringAccess p (bankOf a)
  else d.atomApply p op a v

/-- LOFT_ATOMIC (R172): an atomic of a master reaches its bank. Only the owner's does; a non-owner's still waits (R167). -/
def execLoftAtomic (p master op a v : Nat) (s : State) : Host.Outcome State Fault Refusal :=
  if p < 272 then
    let t := s.dev.tile p
    if !atomOk master op a || t.owner (bankOf a) == master || (t.isRing (bankOf a) && master == mBN) then
      .next { s with dev := s.dev.loftAtomic p master op a v }
    else .fault .conditionNotMet
  else .fault .noSuchUnit

/-! ## March runs (R175 to R180) -/

/-- A run's length (R175, R176). -/
def marchTc (preserving : Bool) : Nat := if preserving then 11440 else 42640

/-- MARCH_STATUS.BUSY written. -/
def Tile.setBusy (t : Tile) (v : Bool) : Tile := t.setFld tMARCH_STATUS 0 0 (b2n v)

/-- A write of MARCH_CTRL with START (R178, R182). -/
def Dev.marchStart (d : Dev) (p w : Nat) : Dev :=
  let t := (d.tile p).wr tMARCH_CTRL (w &&& 0xFF06)
  let bs := bits w 15 8
  if t.march.isSome || !t.owns mXT bs then d.setTile p (t.orBits tLOFT_STATUS lsMARCH_REFUSED)
  else
    d.setTile p { t.setBusy true with march := some ⟨bs, bit w 1, bit w 2, d.clock.now + marchTc (bit w 1)⟩ }

/-- MARCH_START (R178); a march needs TCLK (R521). -/
def execMarchStart (p w : Nat) (s : State) : Host.Outcome State Fault Refusal :=
  if p < 272 then .next { s with dev := s.dev.leaveIdle.marchStart p w } else .fault .noSuchUnit

/-- The bank of a word number, and of a faulty row: bank × 2,048 + row. -/
def bankOfWord (w : Nat) : Nat := w / 32768
/-- The row a word lies in, named as a faulty row is. -/
def rowOfWord (w : Nat) : Nat := w / 32768 * 2048 + w % 32768 / 32

/-- Destructive mode leaves zeros in its banks (R175). -/
def Tile.marchZero (t : Tile) (banks : Nat) : Tile :=
  { t with loft := t.loft.filter (fun c => !banks.testBit (bankOf c.1)),
           loftErr := t.loftErr.filter (fun c => !banks.testBit (bankOfWord c.1)) }

/-- Preserving mode at a word with flipped bits (R176, R179, R371): corrected content is written back; an uncorrectable
word reads zero in a repaired row, and is stored poisoned elsewhere. -/
def Dev.marchWord (d : Dev) (p : Nat) (repaired : List Nat) (w : Nat) : Dev :=
  let f := (sget 0 (d.tile p).loftErr w).toNat
  let o := (sheafRead 0 f).2
  let t := d.tile p
  let d := d.codeReport o f { type := 0, cls := 2, die := dieOfTile p, unit := p, sub := bankOfWord w, job := t.job,
                              step := t.rd tTHR_STEP, op := 0xE5, addr := 16 * w, tile := t.logical.getD 0x1FF }
  match o with
  | .uncorrectable =>
    if repaired.contains (rowOfWord w) then d.loftWrite p (16 * w) (leBytes 16 0)
    else d.onTile p (fun t => { t with loftErr := sput t.loftErr w (BitVec.ofNat 144 poisonFlips) })
  | _ => d.onTile p (fun t => { t with loftErr := sdel t.loftErr w })

/-- The first free spare row of a bank. -/
def Tile.freeSpare (t : Tile) (b : Nat) : Option Nat :=
  (List.range 16).find? (fun i => t.fld (tLOFT_REPAIR + 64 * b + 4 * i) 15 15 == 0)

/-- An error record of a bank's repair (R180, R183, R390). -/
def Dev.repairRecord (d : Dev) (p b status row : Nat) : Dev :=
  let t := d.tile p
  d.errRecord { type := 11, status := status, cls := 2, die := dieOfTile p, unit := p, sub := b, job := t.job,
                step := t.rd tTHR_STEP, op := 0xE5, addr := (b * 1024 + row) * 512, tile := t.logical.getD 0x1FF }

/-- One faulty row at the end of a run with REPAIR = 1 (R179, R180): the device, and the rows repaired so far. -/
def Dev.marchRepair (p : Nat) (acc : Dev × List Nat) (r : Nat) : Dev × List Nat :=
  let b := r / 2048 % 8
  let row := r % 2048
  if row ≥ 1024 then acc
  else
    match (acc.1.tile p).freeSpare b with
    | some i =>
      ((acc.1.onTile p (fun t => t.wr (tLOFT_REPAIR + 64 * b + 4 * i) (row + 2 ^ 15))).repairRecord p b 0 row, r :: acc.2)
    | none =>
      ((acc.1.onTile p (fun t => { t.orBits tLOFT_STATUS lsEXHAUST with failed := true, loftFailed := true })).repairRecord
        p b 0x32 row, acc.2)

/-- The end of a march run that found these faulty rows (R175, R176, R179, R180). -/
def Dev.marchDone (d : Dev) (p : Nat) (m : March) (faulty : List Nat) : Dev :=
  let d := d.advanceTo m.ends
  let d := d.onTile p (fun t =>
    let t := { t.setBusy false with march := none }
    let t := t.setFld tMARCH_STATUS 15 8 (min 255 faulty.length)
    if faulty = [] then t else t.orBits tLOFT_STATUS lsMARCH_FAIL)
  let r := if m.repair then faulty.foldl (Dev.marchRepair p) (d, [])
    else (faulty.foldl (fun (d : Dev) r => d.repairRecord p (r / 2048 % 8) 0 (r % 2048)) d, [])
  if m.preserving then
    (((d.tile p).loftErr.map (·.1)).filter (fun w => m.banks.testBit (bankOfWord w))).foldl
      (fun (d : Dev) w => d.marchWord p r.2 w) r.1
  else r.1.onTile p (fun t => t.marchZero m.banks)

/-- The faulty rows name rows of the banks under test. -/
def March.rowsOk (m : March) (faulty : List Nat) : Bool :=
  faulty.all (fun r => r / 2048 < 8 && m.banks.testBit (r / 2048) && r % 2048 < 1040)

/-- MARCH_DONE (R179): the run ends with the rows that failed, bank × 2,048 + row each. -/
def execMarchDone (p : Nat) (faulty : List Nat) (s : State) : Host.Outcome State Fault Refusal :=
  if p < 272 then
    match (s.dev.tile p).march with
    | some m =>
      if m.rowsOk faulty then .next { s with dev := s.dev.marchDone p m faulty } else .fault .conditionNotMet
    | none => .fault .nothingInFlight
  else .fault .noSuchUnit

/-! ## Enabling a tile -/

/-- The owners of LOFT_OWN take the banks (R181). -/
def Tile.ownersFromOwn (t : Tile) (x : Nat) : Tile :=
  (List.range 8).foldl (fun (t : Tile) b => t.giveBank b (t.fld tLOFT_OWN (4 * b + 3) (4 * b)) x) t

/-- ENABLE set to 1; a tile that is enabled already stays as it is. -/
def Dev.tileEnable (d : Dev) (p : Nat) : Dev :=
  let t := d.tile p
  if t.enabled then d else d.setTile p ((t.ownersFromOwn (t.toLocal d.clock.now)).setFld tTILE_CTRL 0 0 1)

/-- TILE_ENABLE (R181, R495): a fused-off tile has no block. -/
def execTileEnable (p : Nat) (s : State) : Host.Outcome State Fault Refusal :=
  if p < 272 ∧ p ∉ s.dev.fuses.fusedOff then .next { s with dev := s.dev.tileEnable p } else .fault .noSuchUnit

end Sys2Proof.Machine
end

