-- ==== Sys2Proof/Machine/TileCtl.lean ====
section
/-! DEFINITION. Work messages (R155, R156, R469), the halting and the reset of a tile (R153, R181, R195, R200). -/

namespace Sys2Proof.Machine

/-! ## Work messages -/

/-- The work message of one class (R156). -/
def Tile.workMsg (t : Tile) (cls : Nat) : WorkMsg :=
  { tenant := t.fld tJOB_IDS 31 16, tile := t.logical.getD 0x1FF, verify := t.verify, rep := t.rep, job := t.job,
    step := t.rd tTHR_STEP, cls := cls, count := sget 0 t.unsent cls, seq := t.workSeq }

/-- One class sent: the first copy goes out, the second is due 256 tc later (R156, R469). -/
def Dev.sendWork (p : Nat) (d : Dev) (cls : Nat) : Dev :=
  let t := d.tile p
  let m := t.workMsg cls
  let t := { t with unsent := sdel t.unsent cls, workSeq := (t.workSeq + 1) % 2 ^ 64,
                    second := t.second ++ [(d.clock.now + 256, m)] }
  (d.setTile p (t.wr tWORK_SEQ (t.workSeq % 2 ^ 32))).send (.work false m)

/-- Every class whose unsent count is nonzero sent (R156). -/
def Dev.sendWorks (d : Dev) (p : Nat) : Dev := ((d.tile p).unsent.map (·.1)).foldl (Dev.sendWork p) d

/-- The second copies still due sent, the clock brought to the last (R153, R469). -/
def Dev.flushSecond (d : Dev) (p : Nat) : Dev :=
  let ms := (d.tile p).second
  let d := ms.foldl (fun (d : Dev) m => (d.advanceTo m.1).send (.work true m.2)) d
  if ms = [] then d else d.onTile p (fun t => { t with second := [] })

/-- WORK_MSG_SEND (R156). -/
def execWorkMsgSend (p : Nat) (s : State) : Host.Outcome State Fault Refusal :=
  if p < 272 then .next { s with dev := s.dev.sendWorks p } else .fault .noSuchUnit

/-- The oldest second copy goes out at its tc. -/
def Dev.secondCopy (d : Dev) (p g : Nat) (m : WorkMsg) : Dev :=
  ((d.advanceTo g).onTile p (fun t => { t with second := t.second.drop 1 })).send (.work true m)

/-- WORK_MSG_SECOND_COPY (R469). -/
def execWorkMsgSecondCopy (p : Nat) (s : State) : Host.Outcome State Fault Refusal :=
  if p < 272 then
    match (s.dev.tile p).second with
    | (g, m) :: _ => .next { s with dev := s.dev.secondCopy p g m }
    | [] => .fault .nothingInFlight
  else .fault .noSuchUnit

/-! ## Halting -/

/-- Waits of a tile's transfers at other tiles' Lofts given up. -/
def Dev.dropCross (d : Dev) (p : Nat) : Dev :=
  { d with tiles := d.tiles.map (fun e => (e.1, { e.2 with loftWait := e.2.loftWait.filter (fun w =>
      match w.cross with
      | some c => c.1 != p
      | none => true) })) }

/-- The wait of one transfer of a tile at another tile's Loft given up. -/
def Dev.dropCrossOf (d : Dev) (p : Nat) (flag : Option Nat) : Dev :=
  { d with tiles := d.tiles.map (fun e => (e.1, { e.2 with loftWait := e.2.loftWait.filter (fun w =>
      match w.cross with
      | some c => !(c.1 == p && flag == some c.2)
      | none => true) })) }

/-- The tile's DMA transfers in flight are abandoned with ST_TIMEOUT in their records (R195). -/
def Dev.abandonDma (d : Dev) (p : Nat) : Dev :=
  let dma (x : Xfer) : Bool := x.running && (x.kind == .dmaIn || x.kind == .dmaOut)
  let xs := (d.tile p).xfers.filter dma
  let d := xs.foldl (fun (d : Dev) x => d.xferRecord p x 0x40) d
  let d := d.onTile p (fun t => { t with
    xfers := (t.xfers.map (fun x => if dma x then { x with running := false } else x)).filter (fun x => x.running || x.out) })
  if xs = [] then d else d.dropCross p

/-- A class-0 halt reaches the tile (R195). -/
def Dev.haltTile (d : Dev) (p : Nat) : Dev :=
  let d := d.onTile p (fun t =>
    let t := { t with eng := [], loftWait := t.loftWait.filter (fun w => w.cross.isSome), fetch := [], woken := none }
    t.setState stHALTED)
  d.abandonDma p

/-! ## Tile reset -/

/-- The tile registers a tile reset keeps (R153): configuration of the numeric settings, escape area, Threshing, Lofts,
sequencer and job, WORK_SEQ, repairs, and TILE_CTRL. -/
def keptReg (off : Nat) : Bool :=
  [0x0, tNUM_CTRL, tESC_BASE, tESC_SLOTS, tESC_NEXT, tTHR_KEYS, tTHR_STEP, tLOFT_OWN, tLOFT_CTRL, tMARCH_CTRL, tSEQ_CTRL,
    tJOB_IDS, tWORK_SEQ].contains off ||
  (tTHR_KCV ≤ off && off < tTHR_KCV + 0x20) || (0x400 ≤ off && off < 0x600)

/-- What a tile reset leaves of a tile (R153, R181, R200). The contents of the table banks become undefined; ENTRIES 0 keeps
them from being read. -/
def Tile.afterReset (t : Tile) : Tile :=
  { Tile.reset with
    regs := t.regs.filter (fun r => keptReg r.1)
    logical := t.logical, job := t.job, loft := t.loft, loftErr := t.loftErr, loftCe := t.loftCe, desc := t.desc,
    descErr := t.descErr, keys := t.keys, workSeq := t.workSeq, verify := t.verify, rep := t.rep, ieeeOk := t.ieeeOk,
    failed := t.failed, loftFailed := t.loftFailed, shadow := t.shadow, freezes := t.freezes, last := t.last, t0 := t.t0 }

/-- A tile reset (R153): its unsent counts go out first, both copies. -/
def Dev.tileReset (d : Dev) (p : Nat) : Dev :=
  (((d.sendWorks p).flushSecond p).abandonDma p).onTile p Tile.afterReset

/-- TILE_RESET (R153, R495): a fused-off tile has no block. -/
def execTileReset (p : Nat) (s : State) : Host.Outcome State Fault Refusal :=
  if p < 272 ∧ p ∉ s.dev.fuses.fusedOff then .next { s with dev := s.dev.tileReset p } else .fault .noSuchUnit

end Sys2Proof.Machine
end

