-- ==== Sys2Proof/Machine/Reply.lean ====
section
/-! DEFINITION. Commands taken and their replies (R499 to R505), the trust-core log (R463), jobs and their halt (R195, R335,
R505). -/

namespace Sys2Proof.Machine

/-! ## Packets (R499) -/

/-- A field of a packet: `n` bytes at offset `o`. -/
def Cmd.field (c : Cmd) (o n : Nat) : Nat := leNat ((c.bytes.drop o).take n)
/-- The opcode. -/
def Cmd.op (c : Cmd) : Nat := c.field 0 2
/-- The space. -/
def Cmd.space (c : Cmd) : Nat := c.field 1 1
/-- ORDERED. -/
def Cmd.ordered (c : Cmd) : Bool := bit (c.field 2 2) 0
/-- NO_INTERIM. -/
def Cmd.noInterim (c : Cmd) : Bool := bit (c.field 2 2) 1
/-- The sequence number. -/
def Cmd.seq (c : Cmd) : Nat := c.field 4 4
/-- The job identifier. -/
def Cmd.job (c : Cmd) : Nat := c.field 8 4
/-- The tenant. -/
def Cmd.tenant (c : Cmd) : Nat := c.field 12 2
/-- The length of the body. -/
def Cmd.len (c : Cmd) : Nat := c.field 14 2
/-- A field of the body: `n` bytes at body byte `o`. -/
def Cmd.body (c : Cmd) (o n : Nat) : Nat := c.field (16 + o) n
/-- A field of the plain buffer. -/
def Cmd.bufAt (c : Cmd) (o n : Nat) : Nat := leNat ((c.buf.drop o).take n)

/-- A tenant's session. -/
def Dev.session (d : Dev) (tenant : Nat) : Option Session := d.trust.sessions.find? (fun s => s.tenant == tenant)

/-! ## Replies (R500, R502, R504) -/

/-- A reply's first 16 bytes. -/
def replyBytes (seq status : Nat) (phase final urgent : Bool) (head result : Nat) : List Byte :=
  leBytes 4 seq ++ leBytes 1 status ++ leBytes 1 (b2n phase + 2 * b2n final + 4 * b2n urgent) ++ leBytes 2 head ++ leBytes 8 result

/-- A reply's tag (R446): zero to tenant 0 and to a packet that failed its tag. -/
def replyTag (kr : Option (List Nat)) (seq : Nat) (bs : List Byte) : List Byte :=
  match kr with
  | some k => toBytes (cmac k (toNats bs ++ natBytes 4 seq))
  | none => leBytes 16 0

/-- A queue's register. -/
def Dev.qReg (d : Dev) (q off : Nat) : Nat := d.rd (off + 0x80 * q)

/-- The entry after `i` of a ring of `n`, and whether the ring wraps. -/
def ringNext (i n : Nat) : Nat × Bool := if i + 1 ≥ n then (0, true) else (i + 1, false)

/-- A reply written to a queue's reply ring, and its interrupt raised. -/
def Dev.queueReply (d : Dev) (q seq status : Nat) (final : Bool) (head result : Nat) (kr : Option (List Nat)) : Dev :=
  let w := d.qReg q dRQ_TAIL
  let n := 2 ^ bits (d.qReg q dQ_CTRL) 13 9
  let bs := replyBytes seq status (bit w 16) final false head result
  let base := d.qReg q dRQ_BASE_LO + d.qReg q dRQ_BASE_HI * 2 ^ 32
  let d := d.hostWrite (base + 32 * (bits w 15 0)) (bs ++ replyTag kr seq bs)
  let t := ringNext (bits w 15 0) n
  let d := d.wr (dRQ_TAIL + 0x80 * q) (t.1 + b2n (bit w 16 != t.2) * 2 ^ 16)
  d.raise (bits (d.qReg q dQ_CTRL) 18 14)

/-- A reply written to an urgent slot, and to the urgent reply ring while it is active and has room (R504). -/
def Dev.urgentReply (d : Dev) (k seq status : Nat) (final : Bool) (result : Nat) (kr : Option (List Nat)) : Dev :=
  let w := d.rd dURG_RQ_TAIL
  let bs := replyBytes seq status (bit w 16) final true 0 result
  let all := bs ++ replyTag kr seq bs
  let d := (List.range 8).foldl (fun (d : Dev) i => d.wr (dURG_REPLY + 0x20 * k + 4 * i) (leNat ((all.drop (4 * i)).take 4))) d
  let d := if d.fld dURG_RQ_CTRL 0 0 = 0 then d
    else
      let t := ringNext (bits w 15 0) (2 ^ d.fld dURG_RQ_CTRL 5 1)
      if t.1 = d.fld dURG_RQ_HEAD 15 0 then d.orBits dURG_STATUS 32
      else
        (d.hostWrite (d.rd dURG_RQ_BASE_LO + d.rd dURG_RQ_BASE_HI * 2 ^ 32 + 32 * (bits w 15 0)) all).wr dURG_RQ_TAIL
          (t.1 + b2n (bit w 16 != t.2) * 2 ^ 16)
  d.raise 16

/-- A reply to where a command came from. -/
def Dev.putReply (d : Dev) (src seq status : Nat) (final : Bool) (head result : Nat) (kr : Option (List Nat)) : Dev :=
  if src < 16 then d.queueReply src seq status final head result kr else d.urgentReply (src - 16) seq status final result kr

/-- The key a command's replies are tagged with. -/
def Dev.replyKey (d : Dev) (c : Cmd) : Option (List Nat) := if c.tenant = 0 then none else (d.session c.tenant).map (·.kr)

/-- The source of a command has its final reply: the queue's count of outstanding commands falls, an urgent slot is free. -/
def Dev.freeSource (d : Dev) (src : Nat) : Dev :=
  if src < 16 then d.wr (dQ_OUTSTANDING + 0x80 * src) (d.qReg src dQ_OUTSTANDING - 1)
  else d.setFld dURG_STATUS (src - 16) (src - 16) 0

/-- The final reply of command `k` (R500). -/
def Dev.final (d : Dev) (k status result : Nat) : Dev :=
  match sget? d.cmds k with
  | some c =>
    let d := (d.putReply c.src c.seq status true c.head result (d.replyKey c)).freeSource c.src
    { d with cmds := sdel d.cmds k }
  | none => d

/-- The interim reply ST_QUEUED of command `k`, unless it asked for none or has had it (R499, R500). -/
def Dev.interim (d : Dev) (k : Nat) : Dev :=
  match sget? d.cmds k with
  | some c =>
    if c.noInterim || c.interim then d
    else
      let d := d.putReply c.src c.seq 0x01 false c.head 0 (d.replyKey c)
      { d with cmds := sput d.cmds k { c with interim := true } }
  | none => d

/-- Command `k` has started. -/
def Dev.begin (d : Dev) (k : Nat) : Dev :=
  match sget? d.cmds k with
  | some c => { d with cmds := sput d.cmds k { c with started := true } }
  | none => d

/-- A command that starts and is answered later: its interim reply. -/
def Dev.accept (d : Dev) (k : Nat) : Dev := (d.begin k).interim k

/-! ## The trust-core log -/

/-- Which events also write an error record (R463), and the status they carry. -/
def tcErrEvent (e : Nat) : Bool := [4, 5, 7, 8, 9, 15, 16].contains e

/-- The type of a trust-core event's error record: PAGE_TAG and SEAL_MISMATCH are named (R422, R451); the others are not. -/
def tcErrType (e : Nat) : Nat := if e = 5 then 2 else if e = 15 then 4 else Config.errType e

/-- An entry written to the trust-core log (R463). -/
def Dev.tcLog (d : Dev) (event status tenant job detail : Nat) : Dev :=
  let h := d.fld dTC_LOG_HEAD 7 0
  let bs := leBytes 8 d.stamp ++ leBytes 4 d.trust.logSeq ++ leBytes 2 event ++ leBytes 1 status ++ leBytes 1 0 ++
    leBytes 2 tenant ++ leBytes 4 job ++ leBytes 8 detail ++ leBytes 2 0
  let d := (List.range 8).foldl (fun (d : Dev) w => d.wr (dTC_LOG + 32 * h + 4 * w) (leNat ((bs.drop (4 * w)).take 4))) d
  let d := { d.setFld dTC_LOG_HEAD 7 0 ((h + 1) % 256) with trust := { d.trust with logSeq := d.trust.logSeq + 1 } }
  if tcErrEvent event then
    d.errRecord { type := tcErrType event, status := status, cls := 9, die := 4, job := job, step := d.stepOf job, detail := detail }
  else d

/-- An authentication that failed: counted, flagged and logged (R446, R463, R464). -/
def Dev.authFail (d : Dev) (event tenant job detail : Nat) : Dev :=
  ((d.orBits dTC_FLAGS 1).bump dTC_AUTH_FAILS 1).tcLog event 0x20 tenant job detail

/-! ## Jobs -/

/-- A job changed. -/
def Dev.onJob (d : Dev) (id : Nat) (f : Job → Job) : Dev :=
  { d with jobs := d.jobs.map (fun e => if e.2.id = id ∧ id ≠ 0 then (e.1, f e.2) else e) }

/-- The physical tiles of a job. -/
def Dev.jobTiles (d : Dev) (id : Nat) : List Nat :=
  if id = 0 then [] else (d.tiles.filter (fun e => e.2.job == id)).map (·.1)

/-- The step or generate command of a job answered: the run ends. -/
def Dev.answerStep (d : Dev) (id status result : Nat) : Dev :=
  match d.jobById id with
  | some j =>
    let d := d.onJob id (fun j => { j with cmd := none })
    match j.cmd with
    | some k => d.final k status result
    | none => d
  | none => d

/-- A class-0 halt of every tile of a job (R195). -/
def Dev.haltJob (d : Dev) (id : Nat) : Dev :=
  ((d.jobTiles id).foldl (fun (d : Dev) p => d.haltTile p) d).onJob id (fun j => { j with halted := true })

/-- A tile of the job waits at a barrier that spans devices. -/
def Dev.waitsAcross (d : Dev) (id : Nat) : Bool :=
  (d.jobTiles id).any (fun p =>
    let t := d.tile p
    t.fld tBAR_TILE 0 0 == 1 && 1 < bits (d.rd (dBAR_HOME + 0x40 * t.fld tBAR_TILE 7 2)) 31 16)

/-- A rank of the job's table is lost. -/
def Dev.peerLost (d : Dev) (id : Nat) : Bool :=
  match d.rankSlot id with
  | some u => (List.range (bits (d.rd (dJOB_RANKS_HI + 8 * u)) 30 15)).any (fun r => d.rankLost id r)
  | none => false

/-- The Reeve halts a job that has lost a peer once a tile of it waits at a barrier across devices, and answers its step
(R335). -/
def Dev.lostHalt (d : Dev) (id : Nat) : Dev :=
  match d.jobById id with
  | some j => if d.peerLost id && !j.halted && d.waitsAcross id then (d.haltJob id).answerStep id 0x41 0 else d
  | none => d

end Sys2Proof.Machine
end

