-- ==== Sys2Proof/Machine/BinderPort.lean ====
section
/-! DEFINITION. Flag sets between tiles (R233 to R236), barriers (R238 to R243), rings (R244 to R247). -/

namespace Sys2Proof.Machine

/-! ## Flag sets -/

/-- FLAG_SEND's target is on this device (R219). -/
def fsHere (d : Dev) (t : Tile) (e : Nat) : Bool := eArgBit e 30 || d.rankIsSelf t.job (eArgs e 23 9)

/-- A tile on this device that a Binder command names, beyond the grade (R222). -/
def targetFused (d : Dev) (l : Nat) : Option Bad := need (l < d.gradeTiles) (stopR 0x12 0x1D l)

/-- A flag of a logical tile is bound to a ring (R245). -/
def Dev.boundAt (d : Dev) (l f : Nat) : Bool :=
  match d.physOf l with
  | some p => d.bound (d.tile p) f
  | none => false

/-- FLAG_SEND's checks (R219, R222, R228, R245). -/
def flagSendCheck (d : Dev) (q : Issue) : Option Bad :=
  let t := d.tile q.p
  let here := fsHere d t q.e
  firstBad [
    need (!here) (targetFused d (eArgs q.e 8 0)),
    need (eArgs q.e 29 24 < 40) (skipR 0x40 (eArgs q.e 29 24)),
    need (!(here && d.boundAt (eArgs q.e 8 0) (eArgs q.e 29 24))) (skipR 0x41 (eArgs q.e 29 24)),
    busyBad t .bn q.x]

/-- The Binder port takes a command, which is done in 2 tc (R206). -/
def Tile.portCmd (t : Tile) (q : Issue) (fs : List Nat) : Tile := t.engage ⟨.bn, q.x + 2, q.x + 2, fs, q.mark, []⟩

/-- FLAG_SEND's effect (R233): the set goes out in class 0. -/
def flagSendEffect (d : Dev) (q : Issue) : Dev :=
  let t := d.tile q.p
  let l := t.logical.getD 0x1FF
  let m : Msg := .set l (eArgs q.e 8 0) (eArgs q.e 29 24)
  let d := d.onTile q.p (fun t => t.portCmd q (doneFlags q.e))
  if fsHere d t q.e then d.innerMsg t.job m else d.message t.job (eArgs q.e 23 9) 0 l m

/-- FLAG_SEND (R233). -/
def execFlagSend (p : Nat) (s : State) : Host.Outcome State Fault Refusal :=
  issueCommand 0x50 flagSendCheck flagSendEffect p s

/-- A set dropped (R235). -/
def Dev.dropSet (d : Dev) (l f job status : Nat) : Dev :=
  let d := d.binderLog (d.stepOf job) job 0x71 status 0 l 0xFFFF f
  match (if l < d.gradeTiles then d.physOf l else none) with
  | some p => d.onTile p (fun t => (t.orBits tFLAG_STATUS 8).bump tSETS_DROPPED 1)
  | none => d

/-- A set reaches its target tile, or is dropped (R231, R235, R236). -/
def Dev.setArrives (d : Dev) (l f job : Nat) : Dev :=
  if d.gradeTiles ≤ l then d.dropSet l f job 0x12
  else
    match d.physOf l with
    | none => d.dropSet l f job 0x10
    | some p =>
      let t := d.tile p
      if t.job ≠ job ∨ d.bound t f = true then d.dropSet l f job 0x10
      else d.setFlagsAt p (d.arriveTc t) t.pcMark [f]

/-- The first set on its way from one tile to another (R234). -/
def Dev.nextSet (d : Dev) (src dst : Nat) : Option (Nat × Msg) :=
  d.inner.find? (fun m => match m.2 with | .set a b _ => a == src && b == dst | _ => false)

/-- FLAG_SET_ARRIVE (R235): a set for logical tile `l` arrives, from a tile of this device in the order of R234, or from
another device. -/
def execFlagSetArrive (l f job : Nat) (src : Option Nat) (s : State) : Host.Outcome State Fault Refusal :=
  if f < 40 then
    match src with
    | none => .next { s with dev := s.dev.setArrives l f job }
    | some a =>
      if s.dev.nextSet a l = some (job, .set a l f) then
        .next { s with dev := (s.dev.dropInner job (.set a l f)).setArrives l f job }
      else .fault .nothingInFlight
  else .fault .conditionNotMet

/-! ## Barriers -/

/-- A barrier slot's register. -/
def Dev.barReg (d : Dev) (b off : Nat) : Nat := d.rd (off + 0x40 * b)
/-- A slot is configured (R250). -/
def Dev.barValid (d : Dev) (b : Nat) : Bool := bit (d.barReg b dBAR_CFG) 10
/-- A logical tile is a member of a slot. -/
def Dev.barMember (d : Dev) (b l : Nat) : Bool := l < 256 && bit (d.rd (dBAR_MASK + 0x40 * b + 4 * (l / 32))) (l % 32)
/-- The members of a slot. -/
def Dev.barMembers (d : Dev) (b : Nat) : List Nat := (List.range 256).filter (d.barMember b)
/-- ROUND. -/
def Dev.barRound (d : Dev) (b : Nat) : Nat := bits (d.barReg b dBAR_STATE) 15 0
/-- ARRIVED. -/
def Dev.barArrived (d : Dev) (b : Nat) : Nat := bits (d.barReg b dBAR_STATE) 24 16
/-- ROUND and ARRIVED written. -/
def Dev.setBarState (d : Dev) (b round arrived : Nat) : Dev :=
  d.wr (dBAR_STATE + 0x40 * b) (round % 2 ^ 16 + arrived * 2 ^ 16)

/-- A release at one member tile (R240, R243): flag 40, and the alignment of an aligning slot; a release that does not match
the tile's pending arrival is discarded. A halted tile is not released (R242). -/
def Dev.releaseTile (d : Dev) (b round l : Nat) : Dev :=
  match d.physOf l with
  | none => d
  | some p =>
    let t := d.tile p
    let x := d.arriveTc t
    if t.state = stHALTED then d
    else if t.fld tBAR_TILE 0 0 = 1 ∧ t.fld tBAR_TILE 7 2 = b ∧ t.fld tBAR_TILE 31 16 = round then
      let d := d.onTile p (fun t => t.setFld tBAR_TILE 1 0 2)
      let st := d.stampOf p x
      let fs := (List.range 40).filter (fun f => bit (d.barReg b dBAR_CFG) 9 && !d.bound t f)
      d.onTile p (fun t => fs.foldl (fun (t : Tile) f => t.realign st x f) (t.setFlag st 40 x t.pcMark))
    else
      (d.onTile p (fun t => t.orBits tFLAG_STATUS 4)).binderLog (d.stepOf t.job) (d.barReg b dBAR_JOB) 0x72 0 0 l 0xFFFF b

/-- The Binder releases a round (R240). -/
def Dev.releaseRound (d : Dev) (b : Nat) : Dev :=
  let r := d.barRound b
  let d := (d.barMembers b).foldl (fun (d : Dev) l => d.releaseTile b r l) d
  let d := d.setBarState b ((r + 1) % 2 ^ 16) 0
  { d with barSent := sdel d.barSent b }

/-- BARRIER's checks (R222, R238, R239). -/
def barrierCheck (d : Dev) (q : Issue) : Option Bad :=
  let t := d.tile q.p
  let b := eArgs q.e 14 9
  firstBad [
    targetFused d (eArgs q.e 8 0),
    need (d.barValid b && bits (d.barReg b dBAR_CFG) 8 0 == eArgs q.e 8 0) (stopR 0x10 0x47 b),
    need (d.barMember b (t.logical.getD 256) && d.barReg b dBAR_JOB == t.job) (stopR 0x10 0x46 b),
    need (t.fld tBAR_TILE 1 0 == 0) (stopR 0x18 0x44 b),
    busyBad t .bn q.x]

/-- The last member on the device has arrived (R240 steps 2 and 3). -/
def Dev.allArrived (d : Dev) (b : Nat) : Dev :=
  if bits (d.barReg b dBAR_HOME) 31 16 ≤ 1 then d.releaseRound b
  else
    let d := { d with barSent := sput d.barSent b true }
    d.message (d.barReg b dBAR_JOB) (bits (d.barReg b dBAR_HOME) 14 0) 0 (bits (d.barReg b dBAR_CFG) 8 0)
      (.barArrive b (d.barRound b))

/-- BARRIER's effect (R239, R240). -/
def barrierEffect (d : Dev) (q : Issue) : Dev :=
  let b := eArgs q.e 14 9
  let r := d.barRound b
  let d := d.onTile q.p (fun t => (t.wr tBAR_TILE (1 + b * 4 + r * 2 ^ 16)).portCmd q (doneFlags q.e))
  let n := d.barArrived b + 1
  let d := d.setBarState b r n
  (if n = (d.barMembers b).length then d.allArrived b else d).lostHalt (d.tile q.p).job

/-- BARRIER (R239). -/
def execBarrier (p : Nat) (s : State) : Host.Outcome State Fault Refusal := issueCommand 0x51 barrierCheck barrierEffect p s

/-- A refused round stops the tiles of this device that wait in a slot (R241). -/
def Dev.barRefused (d : Dev) (b : Nat) : Dev :=
  let d := d.binderLog (d.stepOf (d.barReg b dBAR_JOB)) (d.barReg b dBAR_JOB) 0x45 0x18 0 0x1FF (bits (d.barReg b dBAR_HOME) 14 0) b
  ((d.barMembers b).filterMap d.physOf).foldl (fun (d : Dev) p =>
    let t := d.tile p
    if t.fld tBAR_TILE 0 0 = 1 ∧ t.fld tBAR_TILE 7 2 = b ∧ (t.state = stRUN ∨ t.state = stWAIT) then
      (d.onTile p (fun t => { t with barStop := true })).roundStop p
    else d) d

/-- A device arrival counted at its home, or refused (R240, R241). -/
def Dev.barArrive (d : Dev) (b rank round job : Nat) : Dev :=
  let ranks := sget [] d.barRanks b
  if d.barValid b && d.barReg b dBAR_JOB == job && d.barRound b == round && !ranks.contains rank then
    let ranks := ranks ++ [rank]
    let d := { d with barRanks := sput d.barRanks b ranks }
    let d := d.wr (dBAR_HOME_ARRIVED + 0x40 * b) ranks.length
    if ranks.length = bits (d.barReg b dBAR_HOME) 31 16 then
      let d := ({ d with barRanks := sdel d.barRanks b } : Dev).wr (dBAR_HOME_ARRIVED + 0x40 * b) 0
      let others := ranks.filter (fun r => !d.rankIsSelf job r)
      let d := others.foldl (fun (d : Dev) r => d.message job r 0 0x1FF (.barRelease b round)) d
      if others.length < ranks.length then d.releaseRound b
      else d.setBarState b ((round + 1) % 2 ^ 16) (d.barArrived b)
    else d
  else
    let d := d.binderLog (d.stepOf job) job 0x45 0x18 0 0x1FF rank b
    if d.rankIsSelf job rank then d.barRefused b else d.message job rank 0 0x1FF (.barRefuse b round)

/-- BAR_ARRIVE (R241): a device arrival of a rank reaches the home device. This device's own arrives once it has been
sent. -/
def execBarArrive (slot rank round job : Nat) (s : State) : Host.Outcome State Fault Refusal :=
  if slot < 64 then
    if s.dev.rankIsSelf job rank then
      if s.dev.inner.contains (job, .barArrive slot round) then
        .next { s with dev := (s.dev.dropInner job (.barArrive slot round)).barArrive slot rank round job }
      else .fault .nothingInFlight
    else .next { s with dev := s.dev.barArrive slot rank round job }
  else .fault .noSuchUnit

/-- A device release at a member device (R240). -/
def Dev.barReleaseRx (d : Dev) (b round : Nat) : Dev :=
  if d.barRound b = round ∧ sget false d.barSent b = true then d.releaseRound b
  else d.binderLog (d.stepOf (d.barReg b dBAR_JOB)) (d.barReg b dBAR_JOB) 0x72 0 0 0x1FF (bits (d.barReg b dBAR_HOME) 14 0) b

/-- BAR_RELEASE (R240): a device release reaches this device from the home. -/
def execBarRelease (slot round : Nat) (s : State) : Host.Outcome State Fault Refusal :=
  if slot < 64 then .next { s with dev := s.dev.barReleaseRx slot round } else .fault .noSuchUnit

/-! ## Rings -/

/-- Slots of a ring, rows per slot, bank, first row (R250). -/
def Dev.ringN (d : Dev) (r : Nat) : Nat := bits (d.ringReg r dRING_GEOM) 7 0 + 1
/-- SLOT_ROWS. -/
def Dev.ringRows (d : Dev) (r : Nat) : Nat := bits (d.ringReg r dRING_GEOM) 17 8
/-- BANK. -/
def Dev.ringBank (d : Dev) (r : Nat) : Nat := bits (d.ringReg r dRING_GEOM) 20 18
/-- BASE_ROW. -/
def Dev.ringBase (d : Dev) (r : Nat) : Nat := bits (d.ringReg r dRING_GEOM) 30 21

/-- The place of the data lies in slot 0 of the ring (R246). -/
def Dev.inSlot0 (d : Dev) (r : Nat) (q : Desc) : Bool :=
  let first := (d.ringBank r * 1024 + d.ringBase r) * 512
  let last := first + d.ringRows r * 512
  first ≤ q.base && q.base < first + 512 && q.endAddr ≤ last &&
  (!isGBlock q.fmt || (first ≤ q.scaleBase && q.scaleEnd ≤ last))

/-- RING_PUSH's checks (R220, R222, R246). -/
def ringPushCheck (d : Dev) (q : Issue) : Option Bad :=
  let t := d.tile q.p
  let r := eArgs q.e 12 9
  let a := t.descr (eH0 q.e)
  let b := t.descr (eH1 q.e)
  let cfg := d.ringReg r dRING_CFG
  firstBad [
    fusedBad d t [eH0 q.e, eH1 q.e],
    need (!(d.ringValid r && d.ringConsHere r)) (targetFused d (eArgs q.e 8 0)),
    ownBad d t [eH0 q.e],
    descBad d t ⟨eH1 q.e, 1, false⟩,
    need (eArgs q.e 24 21 < 8) (skipR 0x02 21),
    need (d.ringValid r && d.ringReg r dRING_JOB == t.job && d.ringProdHere r && t.logical == some (bits cfg 8 0) &&
      bits cfg 17 9 == eArgs q.e 8 0 && b.owner == eArgs q.e 8 0 && d.inSlot0 r b && a.fmt == b.fmt &&
      a.count == b.count && a.banks ||| eArgs q.e 20 13 == eArgs q.e 20 13) (stopR 0x10 0x49 r),
    need ((banksOf (eArgs q.e 20 13)).all (fun k => !t.isRing k)) (skipR 0x18 0),
    need (d.ringCredit r != 0) (stopR 0x10 0x48 r),
    busyBad t .bn q.x]

/-- RING_PUSH's effect (R246). -/
def ringPushEffect (d : Dev) (q : Issue) : Dev :=
  let t := d.tile q.p
  let r := eArgs q.e 12 9
  let k := sget 0 d.ringK r
  let f : Xfer := { kind := .push, flag := if eSen q.e then some (eSflag q.e) else none, running := true, out := false,
                    banks := eArgs q.e 20 13, ret := eArgs q.e 24 21, master := mBN, entry := BitVec.ofNat 256 q.e,
                    index := q.i, src := sget 0 t.desc (eH0 q.e), dst := sget 0 t.desc (eH1 q.e), issued := q.x, waits := 0,
                    deferred := [], held := false, aux := r + 16 * (k % d.ringN r), status := none, note := 0 }
  let d := d.setRing r (d.ringFree r) (d.ringFull r) (d.ringCredit r - 1) (d.ringHeld r)
  let d := ({ d with ringK := sput d.ringK r (k + 1) } : Dev).bump (dRING_PUSHES + 0x40 * r) 1
  (d.onTile q.p (fun t => t.portCmd q [])).startXfer q.p q.x f

/-- RING_PUSH (R246). -/
def execRingPush (p : Nat) (s : State) : Host.Outcome State Fault Refusal :=
  issueCommand 0x52 ringPushCheck ringPushEffect p s

/-- One element that the Binder carries, written: a value goes to a new escape of the receiving tile when it needs one (R91,
R246, R549). -/
def Dev.putWire (p : Nat) (q : Desc) (d : Dev) (e : Nat × Nat) : Dev :=
  let r := e.2 / q.cols
  let c := e.2 % q.cols
  let res := if 2 ^ 640 ≤ e.1 then d.stookFor p (bushelVal (e.1 - 2 ^ 640)) else (d, e.1)
  res.1.onTile p (fun t => { t with
    loft := wrElem t.loft q r c res.2, loftErr := clearFlips t.loftErr (q.rowAddr r) q.rowBytes })

/-- A slot's data written at a view (R246). -/
def Dev.putSlot (d : Dev) (p : Nat) (q : Desc) (es : List Nat) : Dev :=
  let d := ((es.take q.count).zipIdx).foldl (Dev.putWire p q) d
  let ss := es.drop q.count
  if isGBlock q.fmt then
    d.loftWrite p q.scaleBase ((ss.take (q.rows * q.blocks)).map (fun s => BitVec.ofNat 8 s))
  else d

/-- The place of slot k (R246). -/
def Desc.slot (q : Desc) (rows k : Nat) : Desc :=
  { q with base := q.base + k * rows * 512, scaleBase := q.scaleBase + k * rows * 512 }

/-- Slot data at the consumer (R244, R246). -/
def Dev.slotArrives (d : Dev) (r slot : Nat) (q : Desc) (es : List Nat) : Dev :=
  let job := d.ringReg r dRING_JOB
  let l := bits (d.ringReg r dRING_CFG) 17 9
  match d.physOf l with
  | none => d
  | some p =>
    if (d.tile p).isRing (d.ringBank r) then
      let d := d.putSlot p (q.slot (d.ringRows r) slot) es
      d.setRing r (d.ringFree r) (d.ringFull r + 1) (d.ringCredit r) (d.ringHeld r)
    else
      let d := d.binderLog (d.stepOf job) job 0x70 0x10 1 l (bits (d.ringReg r dRING_PEERS) 14 0) r
      if d.ringProdHere r then d
      else d.message job (bits (d.ringReg r dRING_PEERS) 14 0) 0 l (.refuse 0x10)

/-- The push of a tile that fills a slot. -/
def Tile.pushOf (t : Tile) (r slot : Nat) : Option Xfer :=
  t.xfers.find? (fun x => x.running && x.kind == .push && x.aux == r + 16 * slot)

/-- RING_SLOT_ARRIVE (R244): slot data reach the consumer, from a producer on this device (`data` none) or from another
device, with the view they name in slot 0 and their elements and scale codes. -/
def execRingSlotArrive (ring slot desc : Nat) (data : Option (List Nat)) (s : State) : Host.Outcome State Fault Refusal :=
  let d := s.dev
  if ring < 16 ∧ d.ringValid ring = true ∧ d.ringConsHere ring = true then
    match data with
    | some es =>
      if d.ringProdHere ring then .fault .nothingInFlight
      else if d.inSlot0 ring (Desc.ofNat desc) && slot < d.ringN ring then
        .next { s with dev := d.slotArrives ring slot (Desc.ofNat desc) es }
      else .fault .conditionNotMet
    | none =>
      match d.inner.find? (fun m => match m.2 with | .slotHere r _ _ => r == ring | _ => false) with
      | some (job, .slotHere r k p) =>
        match (d.tile p).pushOf r k with
        | some x =>
          let t := d.tile p
          let q := Desc.ofNat x.src.toNat
          let es := wireElems d t t.loft q ++ wireScales t.loft q
          .next { s with dev := (d.dropInner job (.slotHere r k p)).slotArrives r k (Desc.ofNat x.dst.toNat) es }
        | none => .fault .nothingInFlight
      | _ => .fault .nothingInFlight
  else .fault .noSuchUnit

/-- A ring's data are still on their way from a tile of this device. -/
def Dev.slotOnWay (d : Dev) (r slot p : Nat) : Bool :=
  d.inner.any (fun m => m.2 == .slotHere r slot p)

/-- RING_PUSH_COMPLETE (R246): the write of the oldest push of a tile on a ring is acknowledged or refused; or its peer is
lost. -/
def execRingPushComplete (p ring status : Nat) (s : State) : Host.Outcome State Fault Refusal :=
  if p < 272 then
    let t := s.dev.tile p
    match t.xfers.find? (fun x => x.running && x.kind == .push && x.aux % 16 == ring) with
    | some x =>
      if x.waits = 0 ∧ x.held = false ∧ s.dev.slotOnWay ring (x.aux / 16) p = false then
        .next { s with dev := s.dev.finishXfer p (s.dev.arriveTc t) x status }
      else .fault .conditionNotMet
    | none => .fault .nothingInFlight
  else .fault .noSuchUnit

/-- A slot returned counts as free again (R245). -/
def Dev.slotReturned (d : Dev) (r : Nat) : Dev :=
  d.setRing r (min (d.ringN r) (d.ringFree r + 1)) (d.ringFull r) (d.ringCredit r) (d.ringHeld r)

/-- RING_SLOT_RETURN (R245): a returned slot reaches the producer's side, which is this device. -/
def execRingSlotReturn (ring : Nat) (s : State) : Host.Outcome State Fault Refusal :=
  let d := s.dev
  if ring < 16 ∧ d.ringValid ring = true ∧ d.ringProdHere ring = true then
    let job := d.ringReg ring dRING_JOB
    if d.ringConsHere ring then
      if d.inner.contains (job, .slotReturn ring) then
        .next { s with dev := (d.dropInner job (.slotReturn ring)).slotReturned ring }
      else .fault .nothingInFlight
    else .next { s with dev := d.slotReturned ring }
  else .fault .noSuchUnit

end Sys2Proof.Machine
end

