-- ==== Sys2Proof/Machine/Ports.lean ====
section
/-! DEFINITION. Optical engines, lanes, laser modules and the PTP clock (R278 to R301). -/

namespace Sys2Proof.Machine

/-! ## Engines and ports -/

/-- A register of engine e. -/
def engOff (off e : Nat) : Nat := off + 0x10000 * e
/-- An engine runs 2 ports of 1.6 Tb/s (R279). -/
def Dev.wide (d : Dev) (e : Nat) : Bool := d.fld (engOff dENG_CTRL e) 1 1 == 1
/-- The ports of an engine that exist in its mode (R279), counted within the engine. -/
def Dev.enginePorts (d : Dev) (e : Nat) : List Nat := if d.wide e then [0, 2] else [0, 1, 2, 3]
/-- The port of a logical lane (R279), counted within the engine. -/
def Dev.laneSlot (d : Dev) (e lane : Nat) : Nat := if d.wide e then lane / 8 * 2 else lane / 4
/-- An engine is active (R303). -/
def Dev.engineOn (d : Dev) (e : Nat) : Bool := d.fld (engOff dENG_CTRL e) 0 0 == 1
/-- PORT_STATUS of port j of engine e. -/
def psOff (e j : Nat) : Nat := engOff dPORT_STATUS e + 4 * j
/-- A port runs in direct mode (R286). -/
def Dev.direct (d : Dev) (e j : Nat) : Bool := d.fld (engOff dPORT_CFG e + 4 * j) 1 1 == 0

/-- A port's link goes down. -/
def Dev.linkDown (d : Dev) (e j : Nat) : Dev :=
  let w := d.rd (psOff e j)
  if bit w 0 then d.wr (psOff e j) (setBits w 1 0 0 ||| 16) else d

/-- A port goes down for good (R296): it comes up again only when the Reeve brings it up. -/
def Dev.portFails (d : Dev) (e j lane : Nat) (exhausted : Bool) : Dev :=
  let d := (d.linkDown e j).setFld (psOff e j) 3 3 0
  let d := { d with training := d.training.erase (4 * e + j) }
  let d := d.orBits (engOff dENG_STATUS e) (32 + if exhausted then 8 else 0)
  d.errRecord { type := 13, cls := 5, die := 5 + e / 4, unit := e, sub := lane }

/-- A port trains: it is down until it comes up again. -/
def Dev.train (d : Dev) (e j : Nat) : Dev :=
  let d := d.linkDown e j
  if d.training.contains (4 * e + j) then d else { d with training := d.training ++ [4 * e + j] }

/-- The lowest free spare optical lane of an engine (R278, R295). -/
def Dev.freeSpareLane (d : Dev) (e : Nat) : Option Nat := [16, 17].find? (fun s => !(sget [] d.spares e).contains s)

/-- A lane is failing (R295, R296): `peerSpare` says whether the other end has a spare free. -/
def Dev.laneFailing (d : Dev) (e lane : Nat) (peerSpare : Bool) : Dev :=
  let j := d.laneSlot e lane
  if d.direct e j && d.fld (engOff dENG_CTRL e) 2 2 == 1 then
    if (d.freeSpareLane e).isSome && peerSpare then
      let d := { d with laneMoves := d.laneMoves ++ [LaneMove.mk e lane (d.clock.ps + 10000000) true] }
      (d.send (.link (4 * e + j) (.laneSwap e lane))).setFld (psOff e j) 3 3 1
    else d.portFails e j lane true
  else d.portFails e j lane false

/-- LANE_FAILING (R295): a logical lane of an active engine. -/
def execLaneFailing (e lane : Nat) (peerSpare : Bool) (s : State) : Host.Outcome State Fault Refusal :=
  if e < 8 ∧ lane < 16 then
    if !s.dev.engineOn e then .fault .unpowered
    else if s.dev.laneMoves.any (fun m => m.eng == e && m.lane == lane) then .fault .conditionNotMet
    else .next { s with dev := s.dev.laneFailing e lane peerSpare }
  else .fault .noSuchUnit

/-- LANE_SWAP (R295): the partner names a lane and the time of the move, in ns from now. -/
def execLaneSwap (e lane ns : Nat) (s : State) : Host.Outcome State Fault Refusal :=
  if e < 8 ∧ lane < 16 then
    if !s.dev.engineOn e then .fault .unpowered
    else
      let d := { s.dev with laneMoves := s.dev.laneMoves ++ [LaneMove.mk e lane (s.dev.clock.ps + 1000 * ns) false] }
      .next { s with dev := d.setFld (psOff e (d.laneSlot e lane)) 3 3 1 }
  else .fault .noSuchUnit

/-- The optical lane of a logical lane written (R303). -/
def Dev.mapLane (d : Dev) (e lane opt : Nat) : Dev :=
  d.setFld (engOff dENG_LANE_MAP_0 e + 4 * (lane / 6)) (5 * (lane % 6) + 4) (5 * (lane % 6)) opt

/-- Both ends move a lane to their lowest free spare (R295 step 2). -/
def Dev.laneMove (d : Dev) (m : LaneMove) : Dev :=
  let d := d.advancePs m.ps
  let j := d.laneSlot m.eng m.lane
  match d.freeSpareLane m.eng with
  | some o =>
    let used := sget [] d.spares m.eng ++ [o]
    let d := ({ d with spares := sput d.spares m.eng used } : Dev).mapLane m.eng m.lane o
    (d.setFld (engOff dENG_STATUS m.eng) 7 6 used.length).train m.eng j
  | none => ({ d with laneMoves := d.laneMoves.erase m } : Dev).portFails m.eng j m.lane true

/-- LANE_SWAP_APPLY (R295): the time of a move has come. -/
def execLaneSwapApply (e lane : Nat) (s : State) : Host.Outcome State Fault Refusal :=
  match s.dev.laneMoves.find? (fun m => m.eng == e && m.lane == lane && !s.dev.training.contains (4 * e + s.dev.laneSlot e lane)) with
  | some m => .next { s with dev := s.dev.laneMove m }
  | none => .fault .nothingInFlight

/-- A switched port has a static key for each direction (R455). -/
def Dev.sakReady (d : Dev) (port : Nat) : Bool :=
  !d.direct (port / 4) (port % 4) &&
  [0, 1].all (fun dir => d.persist.saks.any (fun k => k.headD 0 == port && (k.drop 1).headD 0 == dir))

/-- A port comes up again (R295 steps 3 and 4): the end that was asked acknowledges. -/
def Dev.portUpAgain (d : Dev) (e j : Nat) : Dev :=
  let ms := d.laneMoves.filter (fun m => m.eng == e && d.laneSlot e m.lane == j)
  let d := { d with training := d.training.erase (4 * e + j), laneMoves := d.laneMoves.filter (fun m => !ms.contains m) }
  let d := d.wr (psOff e j) (setBits (setBits (d.rd (psOff e j)) 1 0 3) 3 3 0)
  let d := if d.sakReady (4 * e + j) then d.orBits (psOff e j) 4 else d
  ms.foldl (fun (d : Dev) m =>
    let d := if m.asked then d else d.send (.link (4 * e + j) (.laneAck e m.lane))
    (d.orBits (engOff dENG_STATUS e) 4).errRecord { type := 13, cls := 5, die := 5 + e / 4, unit := e, sub := m.lane }) d

/-- PORT_RETRAINED (R295): a port that trains, on an engine with light. -/
def execPortRetrained (e j : Nat) (s : State) : Host.Outcome State Fault Refusal :=
  if e < 8 ∧ j < 4 then
    if s.dev.training.contains (4 * e + j) then
      if s.dev.fld (engOff dENG_STATUS e) 1 1 = 1 then .next { s with dev := s.dev.portUpAgain e j }
      else .fault .conditionNotMet
    else .fault .nothingInFlight
  else .fault .noSuchUnit

/-! ## Laser modules (R25, R297 to R299) -/

/-- The module an engine's feed comes from: the primary, or the alternate (R297). -/
def feedModule (e : Nat) (alt : Bool) : Nat := if alt then (e / 2 + 1) % 4 else e / 2
/-- A module is present. -/
def Dev.laserPresent (d : Dev) (m : Nat) : Bool := d.fld dLASER_STATUS m m == 1
/-- A module is lit. -/
def Dev.laserLit (d : Dev) (m : Nat) : Bool := d.fld dLASER_STATUS (4 + m) (4 + m) == 1
/-- LASER_EN[m] driven. -/
def Dev.driveLaser (d : Dev) (m : Nat) (v : Bool) : Dev := d.setFld dLASER_CTRL m m (b2n v)
/-- LASER_CTRL.SWAP of a module. -/
def Dev.laserSwapping (d : Dev) (m : Nat) : Bool := d.fld dLASER_CTRL (4 + m) (4 + m) == 1

/-- An error record of a laser module. -/
def Dev.laserRecord (d : Dev) (m status : Nat) : Dev := d.errRecord { type := 14, status := status, cls := 6, unit := m }

/-- Every port of an engine goes down, dark (R298, R299). -/
def Dev.engineDark (d : Dev) (e : Nat) : Dev :=
  (d.enginePorts e).foldl (fun (d : Dev) j => d.portFails e j 0 false) (d.setFld (engOff dENG_STATUS e) 1 1 0)

/-- A feed falls below threshold (R298): the coupler moves to the other module if it is lit; the ports that lost lock
train. -/
def Dev.feedLoss (d : Dev) (e : Nat) (lost : List Nat) : Dev :=
  let alt := d.fld (engOff dENG_STATUS e) 0 0 == 1
  let m := feedModule e alt
  let d := if d.laserPresent m then d.orBits dLASER_STATUS (2 ^ (12 + m)) else d
  let d := d.setFld dLASER_STATUS (4 + m) (4 + m) 0
  let d := d.laserRecord m 0
  if d.laserLit (feedModule e (!alt)) then
    let d := { d with couplers := d.couplers.filter (fun (c : Nat × Bool) => c.1 != e) ++ [(e, !alt)] }
    lost.foldl (fun (d : Dev) j => d.train e j) (d.orBits (engOff dENG_STATUS e) 16)
  else d.engineDark e

/-- FEED_LOSS (R298): an engine whose light was above threshold loses it; `lost` are its ports that lost lock. -/
def execFeedLoss (e : Nat) (lost : List Nat) (s : State) : Host.Outcome State Fault Refusal :=
  if e < 8 ∧ lost.all (fun j => (s.dev.enginePorts e).contains j) then
    if s.dev.fld (engOff dENG_STATUS e) 1 1 = 1 then .next { s with dev := s.dev.feedLoss e lost }
    else .fault .conditionNotMet
  else .fault .noSuchUnit

/-- The presence signal of a module changes (R298). -/
def Dev.laserPresence (d : Dev) (m : Nat) (present : Bool) : Dev :=
  let d := d.setFld dLASER_STATUS m m (b2n present)
  if present then { d with laserPs := sput d.laserPs m d.clock.ps }
  else
    let d := { d with laserPs := sdel d.laserPs m }
    (d.driveLaser m false).setFld dLASER_STATUS (4 + m) (4 + m) 0

/-- LASER_PRESENT_CHANGE (R298). -/
def execLaserPresentChange (m : Nat) (present : Bool) (s : State) : Host.Outcome State Fault Refusal :=
  if m < 4 then
    if s.dev.laserPresent m = present then .fault .conditionNotMet
    else .next { s with dev := s.dev.laserPresence m present }
  else .fault .noSuchUnit

/-- A module reports its output stable (R297 step 5): after a swap the couplers of its engines return to it. -/
def Dev.laserStable (d : Dev) (m : Nat) : Dev :=
  let d := d.setFld dLASER_STATUS (4 + m) (4 + m) 1
  let es := [2 * m, 2 * m + 1]
  let d := if d.laserSwapping m then
      { d with couplers := d.couplers ++ (es.filter (fun e => d.fld (engOff dENG_STATUS e) 0 0 == 1)).map (fun e => (e, false)) }
    else d
  es.foldl (fun (d : Dev) e =>
    if d.fld (engOff dENG_STATUS e) 0 0 = 0 then d.setFld (engOff dENG_STATUS e) 1 1 1 else d) d

/-- LASER_STABLE (R297): a module that is present and driven. -/
def execLaserStable (m : Nat) (s : State) : Host.Outcome State Fault Refusal :=
  if m < 4 then
    if s.dev.laserPresent m && s.dev.fld dLASER_CTRL m m == 1 && !s.dev.laserLit m then
      .next { s with dev := s.dev.laserStable m }
    else .fault .conditionNotMet
  else .fault .noSuchUnit

/-- A coupler reaches its module (R297 steps 2, 3 and 5): when a swapped module feeds nothing it goes dark, and when its
engines are back on it the swap is over. -/
def Dev.couplerDone (d : Dev) (e : Nat) (alt : Bool) : Dev :=
  let d := { d with couplers := d.couplers.filter (fun c => c.1 != e) }
  let d := (d.setFld (engOff dENG_STATUS e) 0 0 (b2n alt)).setFld (engOff dENG_STATUS e) 1 1 1
  let m := e / 2
  let moving := d.couplers.any (fun c => c.1 / 2 == m)
  let feeds (k : Nat) : Bool := d.fld (engOff dENG_STATUS k) 0 0 == 0
  if !d.laserSwapping m || moving then d
  else if !feeds (2 * m) && !feeds (2 * m + 1) && d.fld dLASER_CTRL m m == 1 then
    ((d.driveLaser m false).setFld dLASER_STATUS (4 + m) (4 + m) 0).setFld dLASER_STATUS (8 + m) (8 + m) 1
  else if feeds (2 * m) && feeds (2 * m + 1) then d.setFld dLASER_CTRL (4 + m) (4 + m) 0
  else d

/-- COUPLER_MOVE_DONE (R297): the coupler of engine e. -/
def execCouplerMoveDone (e : Nat) (s : State) : Host.Outcome State Fault Refusal :=
  if e < 8 then
    match s.dev.couplers.find? (fun c => c.1 == e) with
    | some c => .next { s with dev := s.dev.couplerDone e c.2 }
    | none => .fault .nothingInFlight
  else .fault .noSuchUnit

/-- A swap of module m ordered (R297 steps 1 and 2): the status. A refusal is logged. -/
def Dev.laserSwapStart (d : Dev) (m : Nat) : Dev × Nat :=
  let n := (m + 1) % 4
  let prev := (m + 3) % 4
  let asAlt := [2 * prev, 2 * prev + 1].any (fun e => d.fld (engOff dENG_STATUS e) 0 0 == 1)
  if !(d.laserPresent n && d.laserLit n) || asAlt || d.laserSwapping m then (d.laserRecord m 0x02, 0x02)
  else
    let d := d.setFld dLASER_CTRL (4 + m) (4 + m) 1
    ({ d with couplers := d.couplers ++ [(2 * m, true), (2 * m + 1, true)] }, 0x00)

/-- The replaced module enabled (R297 step 4): only while it has been present for a second. -/
def Dev.laserSwapEnable (d : Dev) (m : Nat) : Dev × Nat :=
  let ready := match sget? d.laserPs m with
    | some ps => ps + 1000000000000 ≤ d.clock.ps
    | none => false
  if d.laserSwapping m && d.laserPresent m && ready then
    ((d.driveLaser m true).setFld dLASER_STATUS (8 + m) (8 + m) 0, 0x00)
  else (d, 0x02)

/-! ## The PTP clock (R301) -/

/-- The PTP clock set to a time in ns. -/
def Dev.setPtp (d : Dev) (ns : Nat) : Dev :=
  { d with clock := { d.clock with ptpBase := ns, ptpPs := d.clock.ps } }

/-- A TIME record of the Daybook: the old time and the new (R301). -/
def Dev.timeRecord (d : Dev) (old new : Nat) : Dev := d.errRecord { type := 19, cls := 9, addr := old, detail := new }

/-- A PTP message brings the clock to `ns` (R301): the first one locks it. -/
def Dev.ptpMessage (d : Dev) (ns : Nat) : Dev :=
  let old := d.ptpNs
  let off := ((ns : Int) - old).natAbs
  let was := d.fld dPTP_STATUS 0 0 == 1
  let d := d.setPtp ns
  let d := { d with clock := { d.clock with ptpRun := true } }
  let d := d.setFld dPTP_STATUS 1 0 1
  let d := if 1000000 < off then d.orBits dPTP_STATUS 8 else d
  if 1000000 < off ∨ was = false then d.timeRecord old ns else d

/-- PTP_MESSAGE_RX (R301): a time transmitter's message on the port of PTP_PORT, by which the time is `ns`. -/
def execPtpMessageRx (port ns : Nat) (s : State) : Host.Outcome State Fault Refusal :=
  if port = s.dev.fld dPTP_PORT 4 0 ∧ s.dev.portUp port = true ∧ ns < 2 ^ 63 then
    .next { s with dev := s.dev.ptpMessage ns }
  else .fault .conditionNotMet

/-- PTP_LOCK_LOST (R301): the clock holds over on REFCLK. -/
def execPtpLockLost (s : State) : Host.Outcome State Fault Refusal :=
  if s.dev.fld dPTP_STATUS 0 0 = 1 then
    .next { s with dev := (s.dev.setFld dPTP_STATUS 1 0 2).timeRecord s.dev.ptpNs s.dev.ptpNs }
  else .fault .conditionNotMet

/-- A PPS edge timestamped against the clock's second, signed (R301). -/
def Dev.ppsEdge (d : Dev) : Dev :=
  let f := d.ptpNs % 1000000000
  let off : Int := if f < 500000000 then f else (f : Int) - 1000000000
  (d.wr dPTP_OFFSET (wrapN off 32)).setFld dPTP_STATUS 2 2 1

/-- PPS_EDGE (R301). -/
def execPpsEdge (s : State) : Host.Outcome State Fault Refusal := .next { s with dev := s.dev.ppsEdge }

end Sys2Proof.Machine
end

