-- ==== Sys2Proof/Machine/Wake.lean ====
section
/-! DEFINITION. Shared resources (R387, R388), power states and their wake (R521 to R529): what registers and commands act
on. -/

namespace Sys2Proof.Machine

/-! ## Shared resources -/

/-- The instances of a resource: the eight hub timers, or one index of its own (R387). -/
def resourceIds (r : Nat) : List Nat := if r < 8 then List.range 8 else [r]
/-- A holder as RES_HOLDER shows it. -/
def holderWord (block inst : Nat) : Nat := block + inst * 2 ^ 16 + 2 ^ 31
/-- RES_HOLDER of an instance. -/
def Dev.holder (d : Dev) (r : Nat) : Nat := d.rd (dRES_HOLDER + 4 * r)
/-- The block holds an instance of the resource. -/
def Dev.holds (d : Dev) (r block inst : Nat) : Bool := (resourceIds r).any (fun i => d.holder i == holderWord block inst)

/-- A claim of a resource (R388): whether it was granted. -/
def Dev.claim (d : Dev) (r block inst : Nat) : Dev × Bool :=
  match (resourceIds r).find? (fun i => !bit (d.holder i) 31) with
  | some i => (d.wr (dRES_HOLDER + 4 * i) (holderWord block inst), true)
  | none =>
    let i := (resourceIds r).headD 0
    (d.errRecord { type := 17, status := 0x15, cls := 9, die := 4, unit := block, sub := inst, detail := i + d.holder i * 2 ^ 32 }, false)

/-- A resource released. -/
def Dev.unclaim (d : Dev) (r block inst : Nat) : Dev :=
  (resourceIds r).foldl (fun (d : Dev) i => if d.holder i = holderWord block inst then d.wr (dRES_HOLDER + 4 * i) 0 else d) d

/-! ## Power states -/

/-- HK_PSTATE.STATE (R521): 0 Run, 1 Idle, 2 Sleep, 3 Deep sleep, 4 Off, 5 to 7 their entries, 8 to 10 their exits. -/
def Dev.pstate (d : Dev) : Nat := d.fld dHK_PSTATE 3 0
/-- The power state changed. -/
def Dev.setPstate (d : Dev) (n : Nat) : Dev := d.setFld dHK_PSTATE 3 0 n

/-- A job slot is in use (R525). -/
def Dev.anyJob (d : Dev) : Bool := d.jobs != []
/-- A tile is enabled. -/
def Dev.anyTileOn (d : Dev) : Bool := d.tiles.any (fun e => e.2.regs != [] && bit (e.2.rd tTILE_CTRL) 0)

/-- Housekeeping drives WAKE_OUT_N low at a wake event while HK_WAKE_OUT.EN is 1, until PERST_N is high and the link is up
(R529). -/
def Dev.wakeOut (d : Dev) : Dev :=
  if d.fld dHK_WAKE_OUT 0 0 = 1 ∧ !(d.power.perst && d.power.link) then d.setFld dHK_WAKE_OUT 1 1 1 else d

/-- A wake source recorded (R527, R528): `n` is its code. -/
def Dev.noteWake (d : Dev) (n : Nat) : Dev :=
  let d := d.wr dHK_LAST_WAKE (n + 2 ^ (8 + n - 1))
  ((d.wr dHK_WAKE_TIME_LO (d.stbyNs % 2 ^ 32)).wr dHK_WAKE_TIME_HI (d.stbyNs / 2 ^ 32)).wakeOut

/-- The exit state of a power state. -/
def exitState (n : Nat) : Nat := n + 6

/-- The source acts in the state (R526, R527): WAKE_IN and management always, PCIe in Sleep alone, the thermal source in Off. -/
def Dev.wakeActs (d : Dev) (code : Nat) : Bool :=
  let s := d.pstate
  let t := if 5 ≤ s ∧ s ≤ 7 then s - 3 else s
  match code with
  | 1 => true
  | 2 => t == 2 && bit (d.fld dHK_WAKE 13 8) 1
  | 3 => true
  | 4 => bit (d.fld dHK_WAKE 13 8) 3
  | 5 => t == 4
  | 6 => bit (d.fld dHK_WAKE 13 8) 5
  | _ => false

/-- Wake events of one standby-oscillator period of 40 ns are recorded together (R528). -/
def Dev.samePeriod (d : Dev) : Bool :=
  d.stbyNs / 40 == (d.rd dHK_WAKE_TIME_LO + d.rd dHK_WAKE_TIME_HI * 2 ^ 32) / 40

/-- A wake event (R527, R528): it starts the exit, is latched while a state is entered, or joins the event that has started the
exit in the same period. -/
def Dev.wake (d : Dev) (code : Nat) : Dev :=
  let s := d.pstate
  if 2 ≤ s ∧ s ≤ 4 then
    if d.wakeActs code then (d.noteWake code).setPstate (exitState s) else d
  else if 5 ≤ s ∧ s ≤ 7 then
    if d.wakeActs code then
      { d with power := { d.power with wakes := d.power.wakes ||| 2 ^ (code - 1) } }
    else d
  else if 8 ≤ s ∧ s ≤ 10 ∧ d.samePeriod = true then
    (d.orBits dHK_LAST_WAKE (2 ^ (8 + code - 1))).setFld dHK_LAST_WAKE 2 0 (min code (d.fld dHK_LAST_WAKE 2 0))
  else d

/-- The lowest code in a set of wake bits. -/
def lowestWake (m : Nat) : Nat := match (List.range 6).find? (fun i => m.testBit i) with | some i => i + 1 | none => 0

/-! ## The wake timer -/

/-- HK_TIMER as it reads: the seconds left (R527). -/
def Dev.timerLeft (d : Dev) : Nat := d.rd dHK_TIMER - (d.clock.ps - d.power.timerPs) / 1000000000000

/-- HK_TIMER set: its wake holds a hub timer while it runs (R387; log entry 70). -/
def Dev.setTimer (d : Dev) (seconds : Nat) : Dev :=
  let d := { d.wr dHK_TIMER seconds with power := { d.power with timerPs := d.clock.ps } }
  if seconds = 0 then d.unclaim 0 0x002 0
  else if d.holds 0 0x002 0 || (resourceIds 0).all (fun i => bit (d.holder i) 31) then d
  else (d.claim 0 0x002 0).1

/-! ## Halts of the whole device -/

/-- Every job halted (R195, R505, R533, R541). -/
def Dev.haltAll (d : Dev) : Dev := (d.jobs.map (·.2.id)).foldl (fun (d : Dev) id => d.haltJob id) d

end Sys2Proof.Machine
end

