-- ==== Sys2Proof/Machine/WhRecords.lean ====
section
/-! DEFINITION. The Weighhouse's time, records, store, mirror and alarm (R473 to R478, R485, R486). -/

namespace Sys2Proof.Machine

/-! ## Time, flags, alarm -/

/-- Weighhouse time in ns (R473). -/
def Dev.whTime (d : Dev) : Nat := d.wh.base + (d.clock.ps - d.wh.basePs) / 1000

/-- The Weighhouse changed. -/
def Dev.onWh (d : Dev) (f : Wh → Wh) : Dev := { d with wh := f d.wh }

/-- The clock brought to a Weighhouse time. -/
def Dev.whReach (d : Dev) (ns : Nat) : Dev := d.advancePs (d.wh.basePs + (ns - d.wh.base) * 1000)

/-- The flags that every record carries (R475); `own` those of its own type. -/
def Wh.flags (w : Wh) (own : Nat) : Nat := b2n w.tamper + 8 * b2n w.timeInvalid + 32 * b2n w.sealChanged + own

/-- The alarm level (R486): a lane counts while its die is powered. -/
def Dev.whAlarm (d : Dev) : Bool :=
  let w := d.wh
  w.on && (w.tamper || w.timeInvalid || (d.power.hub && w.laneDown != 0) ||
    (match w.overPs with | some ps => ps + 1000000000000 ≤ d.clock.ps | none => false))

/-- A fall of the alarm level seen by housekeeping: its next rise is a new event. -/
def Dev.whFell (d : Dev) : Dev := if d.whAlarm then d else d.onWh (fun w => { w with seen := false })

/-! ## The store (R474) -/

/-- Slots of the interval area, and of the account area. -/
def ivSlots : Nat := 49152
/-- Slots of the account area. -/
def acSlots : Nat := 16384

/-- Slots that a record of `n` slots skips at the end of an area of `size` slots whose head is `h`. -/
def skipped (h n size : Nat) : Nat := if size < h + n then size - h else 0

/-- The slots of a record's bytes. -/
def slotsOf (n : Nat) (bs : List Nat) : List (BitVec 2048) :=
  (List.range n).map (fun i => BitVec.ofNat 2048 (bytesNat ((bs.drop (256 * i)).take 256)))

/-- Slots written from a head on; `base` is where the area starts in the store. -/
def putSlots (m : Sparse (BitVec 2048)) (base h : Nat) (vs : List (BitVec 2048)) : Sparse (BitVec 2048) :=
  (vs.zipIdx h).foldl (fun (m : Sparse (BitVec 2048)) (v : BitVec 2048 × Nat) => sset 0 m (base + v.2) v.1) m

/-- The bytes of a record (R475): header, fields, digest of the record before, signature. `n` is its slots. -/
def Wh.recordBytes (w : Wh) (time type own n : Nat) (fields : List Nat) : List Nat :=
  let head := natBytes 4 0x5A574852 ++ natBytes 1 1 ++ natBytes 1 type ++ natBytes 2 (w.flags own) ++ natBytes 8 w.seq ++
    natBytes 8 time ++ natBytes 4 w.seals ++ natBytes 2 w.fw ++ natBytes 2 0
  let room := 256 * n - 144
  let body := (fields ++ List.replicate room 0).take room
  let signed := head ++ body ++ w.last
  signed ++ natBytes 96 (Config.whSign (sha384 signed))

/-- A record written to the store (R474): `acct` in the account area. -/
def Wh.store_ (w : Wh) (acct : Bool) (n : Nat) (bs : List Nat) : Wh :=
  let size := if acct then acSlots else ivSlots
  let base := if acct then ivSlots else 0
  let h := if acct then w.acHead else w.ivHead
  let gone := skipped h n size
  let at_ := if gone = 0 then h else 0
  let m := putSlots (putSlots w.store base h (List.replicate gone 0)) base at_ (slotsOf n bs)
  let next := (at_ + n) % size
  { w with store := m, seq := w.seq + 1, last := (sha384 bs).take 16, sealChanged := false,
           ivHead := if acct then w.ivHead else next, acHead := if acct then next else w.acHead }

/-- Slots taken into a list of the latest `n`, oldest first (R486). -/
def latest (n : Nat) (old new : List (BitVec 2048)) : List (BitVec 2048) :=
  let all := List.replicate n 0 ++ old ++ new
  all.drop (all.length - n)

/-- A record written, and pushed to the mirror while the hub is up (R475, R485, R486). -/
def Dev.whRecord (d : Dev) (type own n : Nat) (acct : Bool) (fields : List Nat) : Dev :=
  let w := d.wh
  let bs := w.recordBytes d.whTime type own n fields
  let gone := skipped (if acct then w.acHead else w.ivHead) n (if acct then acSlots else ivSlots)
  let vs := List.replicate gone 0 ++ slotsOf n bs
  let d := d.onWh (fun w => w.store_ acct n bs)
  if !d.power.hub then d
  else if acct then { d with whAc := latest 64 d.whAc vs }
  else { d with whIv := latest 96 d.whIv vs }

/-- An EVENT record (R476, R485). -/
def Dev.whEvent (d : Dev) (code fact : Nat) : Dev :=
  d.whRecord 4 0 1 true (natBytes 2 code ++ natBytes 30 (Config.whDetail code fact))

/-! ## Accounts (R472) -/

/-- The key of an account's segments. -/
def accountKey (tenant job : Nat) : Nat := tenant * 2 ^ 32 + job

/-- An account closed with its JOB record. -/
def Dev.whClose (d : Dev) (a : WhAccount) : Dev :=
  let d := d.onWh (fun w => { w with accounts := w.accounts.erase a
                                     segments := sput w.segments (accountKey a.tenant a.job) (a.segment + 1) })
  d.whRecord 3 (16 * b2n a.lost) 4 true
    (natBytes 2 a.tenant ++ natBytes 2 a.segment ++ natBytes 4 a.job ++ natBytes 8 a.start ++ natBytes 8 a.last ++
     natBytes 8 (a.mj1 - a.mj0) ++ a.counts.flatMap (natBytes 16))

/-- The account that has been idle longest. -/
def Wh.idlest (w : Wh) : Option WhAccount :=
  w.accounts.foldl (fun (o : Option WhAccount) a =>
    match o with
    | some b => if a.last < b.last then some a else some b
    | none => some a) none

/-! ## Registers (R486, R488) -/

/-- The Weighhouse ID (R477). -/
def whId : List Nat := (sha384 (natBytes 97 Config.whPublic)).take 16

/-- The 32-bit words of bytes. -/
def wordsOf (bs : List Nat) (n : Nat) : List Nat := (List.range n).map (fun i => bytesNat ((bs.drop (4 * i)).take 4))

/-- The register block by offset; `flags` are bits 7:0 of WH_STATUS. -/
def Dev.whBlock (d : Dev) (flags : Nat) : List (Nat × Nat) :=
  let w := d.wh
  let t := d.whTime
  let half (o v : Nat) : List (Nat × Nat) := [(o, v % 2 ^ 32), (o + 4, v / 2 ^ 32 % 2 ^ 32)]
  ((wordsOf whId 4).zipIdx.map (fun x => (4 * x.2, x.1))) ++
  [(0x10, w.fw)] ++ ((wordsOf w.fwDigest 2).zipIdx.map (fun x => (0x14 + 4 * x.2, x.1))) ++
  [(0x1C, w.seals + (128 - w.seals) * 2 ^ 8), (0x20, flags + w.laneDown * 2 ^ 8)] ++
  half 0x24 t ++ half 0x2C w.main ++ half 0x34 w.stby ++ [(0x3C, w.power), (0x40, w.volt)] ++ half 0x44 (w.seq - 1) ++
  [(0x4C, w.ivHead + w.acHead * 2 ^ 16), (0x50, w.accounts.length), (0x54, w.gap % 2 ^ 32), (0x58, w.corr % 2 ^ 32),
   (0x5C, w.bad % 2 ^ 32), (0x60, w.rated + w.idle * 2 ^ 16)] ++
  (w.cum.zipIdx.flatMap (fun c => (List.range 4).map (fun i => (0x80 + 16 * c.2 + 4 * i, c.1 / 2 ^ (32 * i) % 2 ^ 32))))

/-- The register block pushed to the mirror, while the hub is up. -/
def Dev.whPush (d : Dev) (flags : Nat) : Dev :=
  let d := d.onWh (fun w => { w with pushed := flags })
  if d.power.hub then (d.whBlock (flags + 64)).foldl (fun (d : Dev) r => d.wr (dWH_ID + r.1) r.2) d else d

/-- A word of the mirror's slots (R486). -/
def Dev.mirrorWord (d : Dev) (o : Nat) : Nat :=
  let w (vs : List (BitVec 2048)) (n o : Nat) : Nat := ((latest n vs []).getD (o / 256) 0).toNat / 2 ^ (8 * (o % 256)) % 2 ^ 32
  if 0x4000 ≤ o ∧ o < 0xA000 then w d.whIv 96 (o - 0x4000)
  else if 0xA000 ≤ o ∧ o < 0xE000 then w d.whAc 64 (o - 0xA000)
  else 0

end Sys2Proof.Machine
end

