-- ==== Sys2Proof/Machine/Host.lean ====
section
/-! DEFINITION. BAR0 (R494 to R498): reads with their latches, writes with their access codes and what single registers do
beside. -/

namespace Sys2Proof.Machine

/-! ## Where an offset lies -/

/-- BAR0's size (R490). -/
def barEnd : Nat := 0x4000000
/-- The blocks of the port domains (R494, R518). -/
def inPortDomain (off : Nat) : Bool := 0x300000 ≤ off && off < 0x600000
/-- The port domains are off or isolated (R518, R521): in Sleep, in Deep sleep and Off, and while they are entered or Sleep is
left. -/
def Dev.portsOff (d : Dev) : Bool := 2 ≤ d.pstate && d.pstate ≤ 8
/-- Blocks the host may only read (R494, R495): tiles, the trust core, the rank table. -/
def readOnlyBlock (off : Nat) : Bool :=
  (0x1000000 ≤ off && off < 0x2100000) || (0x30000 ≤ off && off < 0x40000) || (0x400000 ≤ off && off < 0x600000)
/-- The Daybook window and the Weighhouse mirror, which take no write (R494). -/
def ignoredBlock (off : Nat) : Bool := 0x60000 ≤ off && off < 0x80000

/-- The PCIe endpoint is present (R39, R438, R517): the hub runs, PERST_N is high, start-up row 2 is complete. -/
def Dev.endpoint (d : Dev) : Bool := d.power.hub && d.power.perst && 2 ≤ d.fld dGLB_START 4 1

/-- The host reaches the device: the endpoint is there and its link is up (R492). -/
def Dev.reach (d : Dev) : Bool := d.endpoint && d.power.link

/-! ## Reading -/

/-- A register of a tile block as the host reads it (R495): a fused-off tile's block reads 0, and SEQ_TC counts while the table
runs (R225). -/
def Dev.tileRead (d : Dev) (p o : Nat) : Nat :=
  if 272 ≤ p || d.fuses.fusedOff.contains p then 0
  else
    let t := d.tile p
    let live := t.state == stRUN || t.state == stWAIT
    let tc := t.toLocal d.clock.now - t.t0
    if live && o == tSEQ_TC_LO then tc % 2 ^ 32
    else if live && o == tSEQ_TC_HI then tc / 2 ^ 32 % 2 ^ 32
    else t.rd o

/-- Packets wait in a queue. -/
def Dev.qWaiting (d : Dev) (q : Nat) : Bool :=
  bit (d.qReg q dQ_CTRL) 0 && d.qReg q dSQ_HEAD != d.qReg q dSQ_TAIL

/-- Free entries of a queue's reply ring that are not reserved: each command outstanding reserves two
(R503; log entry 71). -/
def Dev.rqFree (d : Dev) (q : Nat) : Nat :=
  let n := 2 ^ bits (d.qReg q dQ_CTRL) 13 9
  let used := (bits (d.qReg q dRQ_TAIL) 15 0 + n - bits (d.qReg q dRQ_HEAD) 15 0 % n) % n
  let held := d.cmds.foldl (fun m e => if e.2.src = q then m + 2 - b2n e.2.interim else m) 0
  n - 1 - used - held

/-- A queue that would be taken from is passed over (R503). -/
def Dev.qPassed (d : Dev) (q : Nat) : Bool := d.qWaiting q && (d.rqFree q < 2 || 256 ≤ d.qReg q dQ_OUTSTANDING)

/-- A word of the Daybook window (R395). -/
def Dev.windowWord (d : Dev) (o : Nat) : Nat :=
  (sget 0 d.integ.daybook (1024 * d.fld dDBK_PAGE 9 0 + o / 64)).toNat / 2 ^ (8 * (o % 64)) % 2 ^ 32

/-- What a register outside the tile blocks reads (R301, R486, R503, R514, R532): the fused identity, the clocks, the timer, the
mirror's slots and RQ_WAIT are formed as they are read. -/
def Dev.blockRead (d : Dev) (off : Nat) : Nat :=
  if off = dGLB_ID then d.fuses.grade % 16 + d.fuses.refRev % 256 * 2 ^ 8 + d.fuses.stepping % 256 * 2 ^ 16
  else if off = dGLB_PCI_ID then 0x1F5A + (if d.fuses.grade = 2 then 0x5A25 else 0x5A24) * 2 ^ 16
  else if off = dPTP_TIME_LO then d.ptpNs % 2 ^ 32
  else if off = dPTP_TIME_HI then d.ptpNs / 2 ^ 32
  else if off = dHK_STBY_TIME_LO then d.stbyNs % 2 ^ 32
  else if off = dHK_STBY_TIME_HI then d.stbyNs / 2 ^ 32
  else if off = dHK_TIMER then d.timerLeft
  else if 0x60000 ≤ off ∧ off < 0x70000 then d.windowWord (off - 0x60000)
  else if 0x74000 ≤ off ∧ off < 0x7E000 then d.mirrorWord (off - 0x70000)
  else if 0x10000 ≤ off ∧ off < 0x10800 ∧ off % 0x80 = 4 then setBits (d.rd off) 2 2 (b2n (d.qPassed ((off - 0x10000) / 0x80)))
  else d.rd off

/-- The word at an offset, with no side effect. -/
def Dev.peek (d : Dev) (off : Nat) : Nat :=
  if inPortDomain off && d.portsOff then 0
  else if 0x1000000 ≤ off then d.tileRead ((off - 0x1000000) / 0x10000) (off % 0x10000)
  else d.blockRead off

/-- The high half that the read of a low half latches (R498): the pairs whose tables say so. -/
def highHalf (off : Nat) : Option Nat :=
  if 0x1000000 ≤ off then
    let o := off % 0x10000
    if o = tSEQ_TC_LO then some (off + 4)
    else if tWORK_LO ≤ o ∧ o < tWORK_LO + 0x50 ∧ o % 8 = 0 then some (off + 4)
    else none
  else if [dPTP_TIME_LO, dCFG_SEQ_LO, dTC_OWNER_CTR_LO, dHK_WAKE_TIME_LO, dHK_THROTTLE_NS_LO, dHK_STBY_TIME_LO].contains off then
    some (off + 4)
  else if dDATA_CURSOR_LO ≤ off ∧ off < dDATA_CURSOR_LO + 0x100 ∧ (off - dDATA_CURSOR_LO) % 0x40 = 0 then some (off + 4)
  else none

/-- The key of a latch. -/
def latchKey (who off : Nat) : Nat := who * 2 ^ 26 + off

/-- A register read by a requester (R496, R498): 0 the BAR path, 1 the Reeve relay, 2 to 7 the telemetry streams, 8 management. -/
def Dev.readReg (d : Dev) (who off : Nat) : Dev × Nat :=
  if inPortDomain off && d.portsOff then (d.orBits dGLB_STATUS 2, 0)
  else
    match highHalf off with
    | some h => ({ d with latches := sput d.latches (latchKey who h) (d.peek h) }, d.peek off)
    | none => (d, (sget? d.latches (latchKey who off)).getD (d.peek off))

/-- LATCHING_READ (R496, R498): the host reads the word at an offset of BAR0. -/
def execLatchingRead (off : Nat) (s : State) : Host.Outcome State Fault Refusal :=
  if off < barEnd then
    if s.dev.reach then
      let r := s.dev.readReg 0 (off / 4 * 4)
      .next { s with dev := r.1.send (.answer 0 (leBytes 4 r.2)) }
    else .fault .unpowered
  else .fault .noSuchUnit

/-! ## Writing -/

/-- The BAR0 block index of an offset (R497): a block of several 64 KiB ranges has the index of its base. -/
def blockIndex (off : Nat) : Nat := if 0x380000 ≤ off ∧ off < 0x400000 then 0x38 else off / 0x10000

/-- The ENABLE bit that gates an RWE field, for the index pair of its register (R13). -/
def RegDesc.enableOff (r : RegDesc) (i : Nat) : Option Nat := r.enable.map (fun e => e.1 + e.2 * i)

/-- The lock of the RWL fields: TC_LOCK.CFG guards the housekeeping block's (R461, R546). -/
def Dev.regLock (d : Dev) : Bool := d.fld dTC_LOCK 1 1 == 1

/-- R13's sticky bit of a block. -/
def Dev.whileEnabled (d : Dev) (off : Nat) : Dev :=
  let b := blockIndex off
  d.orBits (dGLB_WE_STICKY + 4 * (b / 32)) (2 ^ (b % 32))

/-- A write by its access codes alone (R11 to R17): the status. -/
def Dev.codedWrite (d : Dev) (off v : Nat) : Dev × Nat :=
  match findReg devRegs off with
  | none => (d, 0)
  | some (r, i, _) =>
    let en := match r.enableOff i with
      | some o => d.fld o 0 0 == 1
      | none => false
    let w := writeWord r.fields en d.regLock (d.rd off) v
    let we := (writeWord r.fields en false (d.rd off) v).2 = 0x14
    ((if we then d.whileEnabled off else d).wr off w.1, w.2)

/-- A queue's ENABLE written to 1 (R502): heads and tails 0, PHASE 1; refused with commands outstanding. `v` is the word. -/
def Dev.queueOn (d : Dev) (q v : Nat) : Dev × Nat :=
  let o := dQ_CTRL + 0x80 * q
  if d.qReg q dQ_OUTSTANDING = 0 then
    let r := d.codedWrite o v
    let d := (((r.1.wr (dSQ_TAIL + 0x80 * q) 0).wr (dSQ_HEAD + 0x80 * q) 0).wr (dRQ_HEAD + 0x80 * q) 0).wr (dRQ_TAIL + 0x80 * q) 0x10000
    (d, r.2)
  else
    let r := d.codedWrite o (setBits v 0 0 (b2n (bit (d.rd o) 0)))
    (r.1, max 0x02 r.2)

/-- SQ_TAIL written (R502). -/
def Dev.sqTail (d : Dev) (q v : Nat) : Dev :=
  if 2 ^ bits (d.qReg q dQ_CTRL) 8 4 ≤ v % 2 ^ 16 then d.orBits (dQ_STATUS + 0x80 * q) 1
  else d.wr (dSQ_TAIL + 0x80 * q) (v % 2 ^ 16)

/-- A stream's ENABLE written (R388, R512): a timer claimed or released; refused when none is free. -/
def Dev.streamCtrl (d : Dev) (k v : Nat) : Dev × Nat :=
  let o := dTS_CTRL + 0x200 * k
  let was := bit (d.rd o) 0
  if bit v 0 && !was then
    let c := d.claim 0 0x001 k
    let r := c.1.codedWrite o (setBits v 0 0 (b2n c.2))
    (r.1, if c.2 then r.2 else max r.2 0x15)
  else
    let r := d.codedWrite o v
    (if was && !bit v 0 then r.1.unclaim 0 0x001 k else r.1, r.2)

/-- INT_CTRL.ENABLE written (R387, R397): the Gleaner's pacing claims a timer, and its pass begins. -/
def Dev.gleanCtrl (d : Dev) (v : Nat) : Dev × Nat :=
  let was := d.fld dINT_CTRL 0 0 == 1
  if bit v 0 && !was then
    let c := d.claim 0 0x004 0
    if c.2 then ({ c.1.wr dINT_CTRL 1 with gleanPs := d.clock.ps }, 0) else (c.1, 0x15)
  else if was && !bit v 0 then ((d.unclaim 0 0x004 0).wr dINT_CTRL 0, 0)
  else (d, 0)

/-- HK_WAKE_OUT.EN written (R529): it claims WAKE_OUT_N. -/
def Dev.wakeOutCtrl (d : Dev) (v : Nat) : Dev × Nat :=
  let was := d.fld dHK_WAKE_OUT 0 0 == 1
  if bit v 0 && !was then
    let c := d.claim 9 0x002 0
    if c.2 then (c.1.setFld dHK_WAKE_OUT 0 0 1, 0) else (c.1, 0x15)
  else if was && !bit v 0 then ((d.unclaim 9 0x002 0).wr dHK_WAKE_OUT 0, 0)
  else (d, 0)

/-- HK_TIMER written (R387, R527; log entry 70). -/
def Dev.timerCtrl (d : Dev) (v : Nat) : Dev × Nat :=
  if v = 0 || d.holds 0 0x002 0 then (d.setTimer v, 0)
  else
    let c := d.claim 0 0x002 0
    if c.2 then (c.1.setTimer v, 0) else (c.1.setTimer 0, 0x15)

/-- The ports of an engine that are to be up train where the engine has light (R299, R303). -/
def Dev.lightEngine (d : Dev) (e : Nat) : Dev :=
  let m := feedModule e (d.fld (engOff dENG_STATUS e) 0 0 == 1)
  let d := d.setFld (engOff dENG_STATUS e) 1 1 (b2n (d.laserLit m))
  (d.enginePorts e).foldl (fun (d : Dev) j => if d.fld (engOff dPORT_CFG e + 4 * j) 0 0 = 1 then d.train e j else d) d

/-- A port taken down by software. -/
def Dev.portOff (d : Dev) (e j : Nat) : Dev :=
  let d := (d.linkDown e j).setFld (psOff e j) 2 2 0
  { d with training := d.training.erase (4 * e + j), laneMoves := d.laneMoves.filter (fun m => !(m.eng == e && d.laneSlot e m.lane == j)) }

/-- ENG_CTRL written (R299, R303). -/
def Dev.engineCtrl (d : Dev) (e v : Nat) : Dev × Nat :=
  let was := d.engineOn e
  let r := d.codedWrite (engOff dENG_CTRL e) v
  if bit v 0 && !was then (r.1.lightEngine e, r.2)
  else if was && !bit v 0 then ([0, 1, 2, 3].foldl (fun (d : Dev) j => d.portOff e j) r.1, r.2)
  else r

/-- PORT_CFG.UP written (R303). -/
def Dev.portCtrl (d : Dev) (e j v : Nat) : Dev × Nat :=
  let was := bit (d.rd (engOff dPORT_CFG e + 4 * j)) 0
  let r := d.codedWrite (engOff dPORT_CFG e + 4 * j) v
  if bit v 0 && !was && d.engineOn e && (d.enginePorts e).contains j then (r.1.train e j, r.2)
  else if was && !bit v 0 then (r.1.portOff e j, r.2)
  else r

/-- The urgent slot of an offset. -/
def urgSlotOf (off : Nat) : Nat := (off - dURG_SLOT) / 0x40

/-- A register write, whoever makes it: what it leaves, and the status (R17). The doorbell's commands are started by their own
row (URG_DOORBELL): here it only marks. -/
def Dev.writeReg (d : Dev) (off v : Nat) : Dev × Nat :=
  if inPortDomain off && d.portsOff then (d.orBits dGLB_STATUS 2, if readOnlyBlock off then 0x10 else 0x02)
  else if readOnlyBlock off then (d, 0x10)
  else if ignoredBlock off then (d, 0)
  else if 0x10000 ≤ off ∧ off < 0x10800 ∧ off % 0x80 = 0 ∧ bit v 0 = true then d.queueOn ((off - 0x10000) / 0x80) v
  else if 0x10000 ≤ off ∧ off < 0x10800 ∧ off % 0x80 = 0x18 then (d.sqTail ((off - 0x10000) / 0x80) v, 0)
  else if dURG_SLOT ≤ off ∧ off < dURG_SLOT + 0x100 ∧ bit (d.rd dURG_STATUS) (urgSlotOf off) = true then (d.orBits dURG_STATUS 16, 0)
  else if dTS_CTRL ≤ off ∧ off < dTS_CTRL + 0xC00 ∧ off % 0x200 = 0 then d.streamCtrl ((off - dTS_CTRL) / 0x200) v
  else if off = dINT_CTRL then d.gleanCtrl v
  else if off = dHK_WAKE_OUT then d.wakeOutCtrl v
  else if off = dHK_TIMER then d.timerCtrl v
  else if off = dHK_WAKE then (if bit v 0 && (d.pstate == 2 || d.pstate == 5) then d.wake 2 else d, 0)
  else if 0x300000 ≤ off ∧ off < 0x380000 ∧ off % 0x10000 = 0 then d.engineCtrl ((off - 0x300000) / 0x10000) v
  else if 0x300000 ≤ off ∧ off < 0x380000 ∧ 0x20 ≤ off % 0x10000 ∧ off % 0x10000 < 0x30 ∧ off % 4 = 0 then
    d.portCtrl ((off - 0x300000) / 0x10000) ((off % 0x10000 - 0x20) / 4) v
  else d.codedWrite off v

end Sys2Proof.Machine
end

