-- ==== Sys2Proof/Machine/Queue.lean ====
section
/-! DEFINITION. Vrelost packets taken and checked (R446, R499 to R508), the urgent mailbox (R504), and the host's writes to
BAR0 (R496, R497). -/

namespace Sys2Proof.Machine

/-! ## The opcode table (R508) -/

/-- Who may send an opcode (R507): T, H, S, O. -/
inductive OpTag where
  | tenant | any | setup | owner
  deriving DecidableEq, Repr

/-- A row of R508: the opcode, its tag, and whether the device reads a host buffer for it. -/
structure OpRow where
  code : Nat
  tag : OpTag
  buf : Bool
  deriving DecidableEq, Repr

/-- The opcodes of R508. TELEM_SAMPLE's buffer is only written. -/
def opRows : List OpRow := [
  ⟨0x0101, .tenant, true⟩, ⟨0x0102, .tenant, false⟩, ⟨0x0103, .tenant, false⟩, ⟨0x0104, .tenant, false⟩, ⟨0x0105, .tenant, false⟩,
  ⟨0x0201, .tenant, false⟩, ⟨0x0202, .tenant, false⟩, ⟨0x0203, .tenant, false⟩, ⟨0x0204, .tenant, false⟩,
  ⟨0x0301, .any, false⟩, ⟨0x0302, .any, false⟩, ⟨0x0303, .tenant, true⟩, ⟨0x0304, .any, false⟩, ⟨0x0305, .any, false⟩,
  ⟨0x0306, .owner, true⟩, ⟨0x0307, .owner, true⟩,
  ⟨0x0401, .tenant, true⟩, ⟨0x0402, .tenant, true⟩, ⟨0x0403, .tenant, false⟩, ⟨0x0404, .tenant, true⟩, ⟨0x0405, .tenant, true⟩,
  ⟨0x0406, .tenant, true⟩, ⟨0x0407, .tenant, true⟩,
  ⟨0x0501, .any, false⟩, ⟨0x0502, .any, false⟩, ⟨0x0503, .owner, true⟩, ⟨0x0504, .owner, true⟩,
  ⟨0x0601, .tenant, false⟩, ⟨0x0602, .tenant, false⟩, ⟨0x0603, .tenant, false⟩, ⟨0x0604, .tenant, true⟩, ⟨0x0605, .tenant, false⟩,
  ⟨0x0606, .tenant, false⟩, ⟨0x0607, .tenant, false⟩, ⟨0x0608, .tenant, false⟩,
  ⟨0x0701, .setup, true⟩, ⟨0x0702, .setup, true⟩, ⟨0x0703, .tenant, false⟩, ⟨0x0704, .tenant, false⟩, ⟨0x0705, .tenant, false⟩,
  ⟨0x0706, .owner, true⟩, ⟨0x0707, .owner, true⟩, ⟨0x0708, .setup, true⟩, ⟨0x0709, .owner, true⟩, ⟨0x070A, .owner, true⟩,
  ⟨0x0801, .any, false⟩, ⟨0x0802, .any, false⟩, ⟨0x0803, .any, false⟩, ⟨0x0804, .any, false⟩,
  ⟨0x0901, .any, false⟩,
  ⟨0x0F01, .any, false⟩, ⟨0x0F02, .any, false⟩, ⟨0x0F03, .any, false⟩, ⟨0x0F04, .any, false⟩]

/-- The row of an opcode. -/
def opRow (op : Nat) : Option OpRow := opRows.find? (fun r => r.code == op)

/-! ## The checks of R506 -/

/-- The replay window (R446; log entry 72): the number lies at most 1,024 above the lowest unseen and has not been seen. -/
def Session.fresh (s : Session) (seq : Nat) : Bool := (seq + 2 ^ 32 - s.low) % 2 ^ 32 ≤ 1024 && !s.seen.contains seq

/-- The lowest unseen number after numbers have been seen. -/
def lowestUnseen : Nat → Nat → List Nat → Nat
  | 0, low, _ => low
  | n + 1, low, seen => if seen.contains low then lowestUnseen n ((low + 1) % 2 ^ 32) seen else low

/-- A number seen. -/
def Session.see (s : Session) (seq : Nat) : Session :=
  let seen := s.seen ++ [seq]
  let low := lowestUnseen seen.length s.low seen
  { s with low := low, seen := seen.filter (fun x => (x + 2 ^ 32 - low) % 2 ^ 32 ≤ 1024) }

/-- A session replaced. -/
def Dev.putSession (d : Dev) (s : Session) : Dev :=
  { d with trust := { d.trust with sessions := d.trust.sessions.map (fun x => if x.tenant = s.tenant then s else x) } }

/-- The packet's tag is right under its session's Kc (R446). -/
def Dev.tagOk (d : Dev) (c : Cmd) : Bool :=
  match d.session c.tenant with
  | some s => cmac s.kc (toNats (c.bytes.take 48)) == toNats ((c.bytes.drop 48).take 16)
  | none => false

/-- The opcodes that tenant 0 may send although they name a job (R446). -/
def haltOps : List Nat := [0x0F01, 0x0F02, 0x0F03]

/-- The command names a job of another tenant (R446): every job where the identifier is all ones in the mailbox (R505). -/
def Dev.othersJob (d : Dev) (c : Cmd) : Bool :=
  d.jobs.any (fun e => (e.2.id == c.job || (c.space == 0x0F && c.job == 0xFFFFFFFF)) && e.2.tenant != c.tenant)

/-- An opcode's body names a job's objects or steers its traffic, so that the job's tenant has to send it. -/
def namesJob (op : Nat) : Bool := op != 0x0101 && op != 0x0301 && op != 0x0302 && op / 256 != 0x08 && op / 256 != 0x09

/-- Tenant acceptance (R446; log entry 73). -/
def Dev.accepts (d : Dev) (c : Cmd) (tag : OpTag) : Bool :=
  match tag with
  | .tenant => c.tenant != 0 && !(namesJob c.op && d.othersJob c)
  | .setup => c.tenant == 0
  | .owner => c.tenant == 0
  | .any =>
    if c.tenant = 0 then haltOps.contains c.op || (c.op != 0x0F04 || d.jobs.all (fun e => !(e.2.id == c.job || c.job == 0xFFFFFFFF)))
    else !(namesJob c.op && d.othersJob c)

/-- The raw bytes of a command's host buffer (R501). -/
def Dev.rawBuf (d : Dev) (c : Cmd) : List Byte := d.hostRead (c.body 0 8) (c.body 8 4)

/-- The bytes that an owner signs and the place of the payload behind the signature block (R444, R457; log entry 74). -/
def ownerHead : Nat := 72
/-- Where a command's own payload starts in an owner-authenticated buffer. -/
def ownerArea : Nat := 8192

/-- Bytes 0 to 15 of SHA-384 over the DIK's public keys (R436). -/
def deviceId : List Nat := (sha384 Config.dikPublic).take 16

/-- The owner counter. -/
def Dev.ownerCounter (d : Dev) : Nat := match d.persist.owner with | some o => o.counter | none => 0

/-- A signature block of a form verifies under keys over a digest (R457). -/
def signedBy (form : Nat) (keys digest sig : List Nat) : Bool :=
  leNat (toBytes (sig.take 2)) == form && (sig.drop 4).take 48 == sha384 keys && Config.verify keys digest sig

/-- Owner authentication (R444). -/
def Dev.ownerAuth (d : Dev) (c : Cmd) : Bool :=
  match d.persist.owner with
  | none => false
  | some o =>
    let b := toNats (d.rawBuf c)
    b.take 48 == toNats (c.bytes.take 48) && (b.drop 48).take 16 == deviceId &&
    leNat (toBytes ((b.drop 64).take 8)) == o.counter + 1 &&
    signedBy 2 o.keys (sha384 (b.take ownerHead)) ((b.drop ownerHead).take (ownerArea - ownerHead))

/-- The owner counter stored, before an owner-authenticated command acts (R444). -/
def Dev.countOwner (d : Dev) : Dev :=
  let n := d.ownerCounter + 1
  let d := { d with persist := { d.persist with owner := d.persist.owner.map (fun (o : Owner) => Owner.mk o.keys n) } }
  (d.wr dTC_OWNER_CTR_LO (n % 2 ^ 32)).wr dTC_OWNER_CTR_HI (n / 2 ^ 32 % 2 ^ 32)

/-- The device is ready (R30). -/
def Dev.ready (d : Dev) : Bool := d.fld dGLB_START 0 0 == 1
/-- Recovery firmware runs (R439). -/
def Dev.recovery (d : Dev) : Bool := d.fld dGLB_START 5 5 == 1
/-- Firmware staging and owner commands, all that space 0x07 keeps under recovery firmware (R439). -/
def recoveryOps : List Nat := [0x0706, 0x0707, 0x0708, 0x0709, 0x070A]

/-- The spaces accepted before the device is ready (R30). -/
def earlySpace (sp : Nat) : Bool := [0x05, 0x07, 0x08, 0x09, 0x0F].contains sp

/-- A command is refused for want of readiness (R30, R439, R522). -/
def Dev.notReady (d : Dev) (c : Cmd) : Bool :=
  (!d.ready && !earlySpace c.space) || (d.recovery && c.space == 0x07 && !recoveryOps.contains c.op)

/-- Bad flags, length or padding (R499, R506 step 6), or a buffer beyond 16 MiB (R501). -/
def Cmd.malformed (c : Cmd) (buf : Bool) : Bool :=
  3 < c.field 2 2 || 32 < c.len || ((c.bytes.drop (16 + c.len)).take (32 - c.len)).any (fun b => b != 0) ||
  (buf && 2 ^ 24 < c.body 8 4)

/-- The nonce of a buffer (R501): 1 where the device reads it, 2 where it writes it. -/
def Cmd.bufNonce (c : Cmd) (dir : Nat) : List Nat := natBytes 4 c.seq ++ natBytes 4 dir ++ List.replicate 4 0

/-- A command's buffer as the device takes it (R501): a tenant's is decrypted; none where its tag fails. -/
def Dev.plainBuf (d : Dev) (c : Cmd) : Option (List Byte) :=
  let b := d.rawBuf c
  if c.tenant = 0 then some b
  else
    match d.session c.tenant with
    | none => none
    | some s =>
      let n := b.length - 16
      let ct := toNats (b.take n)
      if 16 ≤ b.length && gcmTag s.kt (c.bufNonce 1) (toNats (c.bytes.take 48)) ct == toNats (b.drop n) then
        some (toBytes (gcmCrypt s.kt (c.bufNonce 1) ct))
      else none

/-- An output buffer written (R501): a tenant's is encrypted, its tag behind it; what does not fit is not written. -/
def Dev.putBuf (d : Dev) (c : Cmd) (bs : List Byte) : Dev :=
  let room := c.body 8 4
  if c.tenant = 0 then d.hostWrite (c.body 0 8) (bs.take room)
  else
    match d.session c.tenant with
    | none => d
    | some s =>
      let bs := bs.take (room - 16)
      let ct := gcmCrypt s.kt (c.bufNonce 2) (toNats bs)
      d.hostWrite (c.body 0 8) (toBytes (ct ++ gcmTag s.kt (c.bufNonce 2) (toNats (c.bytes.take 48)) ct))

/-- What the checks of a packet come to: dropped or refused with a status, or accepted with its plain buffer. -/
inductive Check where
  | refused (d : Dev) (status : Nat) (tagged : Bool)
  | taken (d : Dev) (buf : List Byte)

/-- Steps 3 to 7 of R506, for a packet whose tag is right. -/
def Dev.checkOp (d : Dev) (c : Cmd) (bufOk : Bool) : Check :=
  match opRow c.op with
  | none => .refused d 0x10 true
  | some r =>
    if !d.accepts c r.tag then .refused (d.authFail 1 c.tenant c.job c.seq) 0x20 true
    else if r.tag = .owner && bufOk && !d.ownerAuth c then .refused ((d.orBits dTC_FLAGS 1).tcLog 7 0x20 0 c.job c.seq) 0x20 true
    else
      let d := if r.tag = .owner && bufOk then d.countOwner else d
      if d.notReady c then .refused d 0x02 true
      else if c.malformed r.buf then .refused d 0x11 true
      else if !r.buf then .taken d []
      else if !bufOk then .refused d 0x40 true
      else
        match d.plainBuf c with
        | some b => .taken d b
        | none => .refused d 0x20 true

/-- The checks of R506 on a packet: `urgent` for one of the mailbox. -/
def Dev.check (d : Dev) (c : Cmd) (urgent bufOk : Bool) : Check :=
  if (c.space == 0x0F) != urgent then .refused d 0x10 true
  else if c.tenant = 0 then d.checkOp c bufOk
  else if !d.tagOk c then .refused (d.authFail 1 c.tenant c.job c.seq) 0x20 false
  else
    match d.session c.tenant with
    | none => .refused d 0x20 false
    | some s =>
      if s.fresh c.seq then (d.putSession (s.see c.seq)).checkOp c bufOk
      else .refused (d.authFail 2 c.tenant c.job c.seq) 0x20 true

/-! ## Starting -/

/-- A command waits behind earlier ones (R499, R503): ORDERED behind every earlier command of its queue, and any command of a
queue behind those of the same job that have not started. -/
def Dev.mustWait (d : Dev) (k : Nat) (c : Cmd) : Bool :=
  d.cmds.any (fun e => e.1 < k && e.2.src < 16 && c.src < 16 &&
    ((c.ordered && e.2.src == c.src) || (c.job != 0 && e.2.job == c.job && !e.2.started)))

/-- A packet is taken into the device's hands: refused at once, or waiting for its row; one that must wait has its interim
reply (R500). -/
def Dev.takePacket (d : Dev) (c : Cmd) (urgent bufOk : Bool) : Dev :=
  match d.check c urgent bufOk with
  | .refused d st tagged => (d.putReply c.src c.seq st true c.head 0 (if tagged then d.replyKey c else none)).freeSource c.src
  | .taken d buf =>
    let k := d.cmdNext
    let d := { d with cmds := sput d.cmds k { c with buf := buf }, cmdNext := k + 1 }
    if d.mustWait k c then d.interim k else d

/-- The next queue to be taken from, in turn (R503). -/
def Dev.nextQueue (d : Dev) : Option Nat :=
  ((List.range 16).map (fun i => (d.turn + i) % 16)).find? (fun q => d.qWaiting q && !d.qPassed q)

/-- The entry of a queue's submission ring at its head. -/
def Dev.sqEntry (d : Dev) (q : Nat) : List Byte :=
  d.hostRead (d.qReg q dSQ_BASE_LO + d.qReg q dSQ_BASE_HI * 2 ^ 32 + 64 * d.qReg q dSQ_HEAD) 64

/-- A packet taken from a queue (R502, R503, R516): `ok` that its fetch succeeds. -/
def Dev.packetTake (d : Dev) (q : Nat) (ok bufOk : Bool) : Dev :=
  let d := { d with turn := (q + 1) % 16 }
  if !ok then (d.setFld (dQ_CTRL + 0x80 * q) 0 0 0).orBits (dQ_STATUS + 0x80 * q) 2
  else
    let bs := d.sqEntry q
    let h := (ringNext (d.qReg q dSQ_HEAD) (2 ^ bits (d.qReg q dQ_CTRL) 8 4)).1
    let d := (d.wr (dSQ_HEAD + 0x80 * q) h).bump (dQ_TAKEN + 0x80 * q) 1
    let d := d.wr (dQ_OUTSTANDING + 0x80 * q) (d.qReg q dQ_OUTSTANDING + 1)
    d.takePacket ⟨q, h, bs, [], false, false⟩ false bufOk

/-- PACKET_TAKE (R503): the queue whose turn it is. Nothing is taken while the Reeve's firmware does not run. -/
def execPacketTake (q : Nat) (ok bufOk : Bool) (s : State) : Host.Outcome State Fault Refusal :=
  if q < 16 then
    if !(s.dev.reach && 3 ≤ s.dev.fld dGLB_START 4 1) then .fault .unpowered
    else if s.dev.nextQueue = some q then .next { s with dev := s.dev.packetTake q ok bufOk }
    else .fault .conditionNotMet
  else .fault .noSuchUnit

/-! ## The urgent mailbox -/

/-- The 64 bytes of an urgent slot. -/
def Dev.urgBytes (d : Dev) (k : Nat) : List Byte :=
  (List.range 16).flatMap (fun w => leBytes 4 (d.rd (dURG_SLOT + 0x40 * k + 4 * w)))

/-- A doorbell bit (R504, R505): hub hardware parses the slot's packet at once. -/
def Dev.doorbell (d : Dev) (k : Nat) : Dev :=
  if bit (d.rd dURG_STATUS) k then d.orBits dURG_STATUS 16
  else (d.orBits dURG_STATUS (2 ^ k)).takePacket ⟨16 + k, 0, d.urgBytes k, [], false, false⟩ true true

/-! ## Writes from the host and the Reeve's relay -/

/-- A register write, the doorbell among them. -/
def Dev.writeAny (d : Dev) (off v : Nat) : Dev × Nat :=
  if off = dURG_DOORBELL then
    ((List.range 4).foldl (fun (d : Dev) k => if bit v k then d.doorbell k else d) d, 0)
  else d.writeReg off v

/-- A refused BAR write recorded (R497): the refusals of a held resource are not among them (R388). -/
def Dev.writeRefused (d : Dev) (off status : Nat) : Dev :=
  if status = 0 ∨ status = 0x15 then d
  else ((d.orBits dGLB_STATUS 4).wr dGLB_WREFUSED off).wr dGLB_WREFUSED_ST status

/-- A posted write of a whole word from the host. -/
def Dev.barWrite (d : Dev) (off v : Nat) : Dev :=
  let r := d.writeAny off v
  r.1.writeRefused off r.2

/-- A write from the host, if the endpoint is there and the offset is a word of BAR0. -/
def hostWriteTo (off v : Nat) (s : State) : Host.Outcome State Fault Refusal :=
  if off < barEnd ∧ off % 4 = 0 then
    if s.dev.reach then .next { s with dev := s.dev.barWrite off (v % 2 ^ 32) } else .fault .unpowered
  else .fault .noSuchUnit

/-- REG_WRITE_PLAIN (R11, R496): `be` are the byte enables; a write that does not cover the word changes nothing. -/
def execRegWritePlain (off v be : Nat) (s : State) : Host.Outcome State Fault Refusal :=
  if be = 15 then hostWriteTo off v s
  else if off < barEnd ∧ off % 4 = 0 then
    if s.dev.reach then .next { s with dev := s.dev.orBits dGLB_STATUS 1 } else .fault .unpowered
  else .fault .noSuchUnit

/-- Bytes that the host has put into its own memory. -/
def Dev.hostPlaces (d : Dev) (mem : List (Nat × Nat)) : Dev :=
  mem.foldl (fun (d : Dev) e => d.hostWrite e.1 [BitVec.ofNat 8 e.2]) d

/-- SQ_TAIL_WRITE (R502): the host has placed packets and buffers in its memory and writes the new tail. -/
def execSqTailWrite (q v : Nat) (mem : List (Nat × Nat)) (s : State) : Host.Outcome State Fault Refusal :=
  if q < 16 then hostWriteTo (dSQ_TAIL + 0x80 * q) v { s with dev := s.dev.hostPlaces mem } else .fault .noSuchUnit

/-- Q_ENABLE (R502): ENABLE written to 1, the other fields as they are. -/
def execQEnable (q : Nat) (s : State) : Host.Outcome State Fault Refusal :=
  if q < 16 then hostWriteTo (dQ_CTRL + 0x80 * q) (s.dev.qReg q dQ_CTRL ||| 1) s else .fault .noSuchUnit

/-- Q_DISABLE (R502): ENABLE written to 0. -/
def execQDisable (q : Nat) (s : State) : Host.Outcome State Fault Refusal :=
  if q < 16 then hostWriteTo (dQ_CTRL + 0x80 * q) (setBits (s.dev.qReg q dQ_CTRL) 0 0 0) s else .fault .noSuchUnit

/-- TS_ENABLE (R512). -/
def execTsEnable (k : Nat) (s : State) : Host.Outcome State Fault Refusal :=
  if k < 6 then hostWriteTo (dTS_CTRL + 0x200 * k) (s.dev.rd (dTS_CTRL + 0x200 * k) ||| 1) s else .fault .noSuchUnit

/-- HK_WAKE_NOW (R527): the host writes 1 to HK_WAKE.NOW. -/
def execHkWakeNow (s : State) : Host.Outcome State Fault Refusal := hostWriteTo dHK_WAKE 1 s

/-- URG_DOORBELL (R504, R505): the host rings for slot `k`. -/
def execUrgDoorbell (k : Nat) (s : State) : Host.Outcome State Fault Refusal :=
  if k < 4 then hostWriteTo dURG_DOORBELL (2 ^ k) s else .fault .noSuchUnit

end Sys2Proof.Machine
end

