-- ==== Sys2Proof/Machine/Collectives.lean ====
section
/-! DEFINITION. Collectives: the COLLECTIVE command, the closing of buckets, completion (R307 to R327). -/

namespace Sys2Proof.Machine

/-! ## COLLECTIVE -/

/-- The exact widenings that a gather may make (R61, R311, R314). -/
def widens (src dst : Nat) : Bool :=
  src == dst ||
  (if isGBlock src then [fG16, fFP32, fFP64, fStook, fBushel].contains dst
   else if src = fI8 then [fG16, fFP16, fFP32, fFP64, fI32, fStook, fBushel].contains dst
   else if src = fG16 then [fFP32, fFP64, fStook, fBushel].contains dst
   else if src = fFP32 then [fFP64, fStook, fBushel].contains dst
   else if src = fStook then dst == fBushel
   else false)

/-- The formats of an operation (R311). -/
def collFmtOk (op src dst : Nat) : Bool :=
  if isSum op then src != fFP64 && (dst == fStook || dst == fBushel)
  else if op = 4 then (src == fFP32 || src == fG16) && dst == src
  else if op = 5 then dst == src
  else (isGBlock src || [fI8, fG16, fFP32, fStook].contains src) && widens src dst

/-- The element indices of a view. -/
def Desc.indices (q : Desc) : List Nat := (List.range q.count).map (fun k => q.index (k / q.cols) (k % q.cols))

/-- The ranges the layout table names for a tensor, kind, rank and tile (R315). -/
def Dev.layoutOf (d : Dev) (tid kind rank tile : Nat) : List Layout :=
  d.layoutCur.filter (fun y => y.tid == tid && y.kind == kind && y.rank == rank && y.tile == tile)

/-- A view covers exactly some ranges (R315). -/
def coversExactly (q : Desc) (ys : List Layout) : Bool :=
  let is := q.indices
  is.all (fun i => ys.any (fun y => y.first ≤ i && i < y.first + y.count)) &&
  ys.all (fun y => (List.range y.count).all (fun k => is.contains (y.first + k)))

/-- The commands of a bucket that this device's tiles have issued and that have not ended. -/
def Dev.bucketXfers (d : Dev) (g b : Nat) : List (Nat × Xfer) :=
  d.tiles.flatMap (fun e => (e.2.xfers.filter (fun x => x.running && x.kind == .coll && x.aux == g + 64 * b)).map (fun x => (e.1, x)))

/-- The bytes a bucket has at this device with one more destination (R320). -/
def Dev.bucketBytes (d : Dev) (g b : Nat) (q : Desc) : Nat :=
  16 * ((d.bucketXfers g b).foldl (fun n x => n + (Desc.ofNat x.2.dst.toNat).count) q.count)

/-- The staging bytes of the sums in flight with one more source (R318). -/
def Dev.stageBytes (d : Dev) (q : Desc) : Nat :=
  96 * d.tiles.foldl (fun n e => (e.2.xfers.filter (fun x => x.running && x.kind == .coll && isSum (clOp x.entry.toNat))).foldl
    (fun n x => n + (Desc.ofNat x.src.toNat).count) n) q.count

/-- The tile has issued a command for the bucket in this step already (R309). -/
def Dev.collTwice (d : Dev) (t : Tile) (g b : Nat) : Bool :=
  t.xfers.any (fun x => x.running && x.kind == .coll && x.aux == g + 64 * b) ||
  d.buckets.any (fun x => x.slot == g && x.bucket == b && x.step == t.rd tTHR_STEP && x.tiles.contains (t.logical.getD 256))

/-- COLLECTIVE's checks (R220, R222, R308, R309). -/
def collectiveCheck (d : Dev) (q : Issue) : Option Bad :=
  let t := d.tile q.p
  let e := q.e
  let g := clGroup e
  let a := t.descr (eH0 e)
  let b := t.descr (eH1 e)
  let out := t.xfers.filter (fun x => x.out && x.kind == .coll)
  firstBad [
    fusedBad d t [eH0 e, eH1 e, eH2 e],
    targetFused d (eArgs e 8 0),
    ownBad d t [eH0 e, eH1 e, eH2 e],
    need (eSen e) (skipR 0x02 0),
    need (bit (d.collReg g dCOLL_CFG) 9 && d.collReg g dCOLL_JOB == t.job && bits (d.collReg g dCOLL_CFG) 8 0 == eArgs e 8 0)
      (stopR 0x10 0x60 g),
    need (d.collMember g (t.logical.getD 256)) (stopR 0x10 0x61 g),
    need (clOp e < 6) (stopR 0x10 0x62 (clOp e)),
    need (collFmtOk (clOp e) a.fmt b.fmt) (stopR 0x10 0x63 b.fmt),
    need (!(clOp e == 1 || clOp e == 5) ||
      coversExactly b (d.layoutOf (clTid e) (clKind e) (d.selfRank t.job) (t.logical.getD 256))) (stopR 0x10 0x64 (clKind e)),
    need (d.bucketBytes g (clBucket e) b ≤ 64 * 2 ^ 20 &&
      (!isSum (clOp e) || d.stageBytes a ≤ d.fld dBND_STAGE_SIZE 15 0 * 2 ^ 20)) (stopR 0x10 0x65 (clBucket e)),
    need (out.length < 8 && out.all (fun x => x.flag != some (eSflag e))) (stopR 0x10 0x66 (eSflag e)),
    need (!d.collTwice t g (clBucket e)) (stopR 0x10 0x67 (clBucket e)),
    need ((banksOf (a.banks ||| b.banks ||| (t.descr (eH2 e)).banks)).all (fun k => !t.isRing k)) (skipR 0x18 0),
    busyBad t .bn q.x]

/-- COLL_OPEN kept equal to the buckets of a group with a command that has not ended (R342). -/
def Dev.showOpen (d : Dev) (g : Nat) : Dev :=
  let bs := (d.tiles.flatMap (fun e => (e.2.xfers.filter (fun x => x.running && x.kind == .coll && x.aux % 64 == g)).map
    (fun x => x.aux / 64))).eraseDups
  d.setFld (dCOLL_OPEN + 0x80 * g) 7 0 bs.length

/-- The 16 bytes of a collective's completion record (R310). -/
def collRecord (included folded status self ledger : Nat) : List Byte :=
  leBytes 2 included ++ leBytes 2 folded ++ leBytes 1 status ++ leBytes 1 self ++ leBytes 2 0 ++ leBytes 8 ledger

/-- A collective ends with a status in place of its result: its record is written and its flag set (R334, R335). -/
def Dev.endColl (d : Dev) (p : Nat) (f : Xfer) (status : Nat) : Dev :=
  let g := f.aux % 64
  let b := d.findBucket g (f.aux / 64) ((d.tile p).rd tTHR_STEP)
  let inc := match b with | some x => (match x.included with | some rs => rs.length | none => 0) | none => 0
  let d := d.loftWrite p (Desc.ofNat f.note.toNat).base
    (collRecord inc (match b with | some x => x.folded | none => 0) status (match b with | some x => x.self | none => 0)
      (match b with | some x => x.ledger | none => noLedger))
  (d.finishXfer p (d.arriveTc (d.tile p)) f status).showOpen g

/-- A member rank of a group is lost. -/
def Dev.groupLost (d : Dev) (g : Nat) : Bool := (d.collRanks g).any (fun r => d.rankLost (d.collReg g dCOLL_JOB) r)

/-- The transfer a collective issues: its banks go to BN, and back to their owners at issue (R310). -/
def collXfer (t : Tile) (q : Issue) : Xfer :=
  let m := (t.descr (eH0 q.e)).banks ||| (t.descr (eH1 q.e)).banks ||| (t.descr (eH2 q.e)).banks
  { kind := .coll, flag := some (eSflag q.e), running := true, out := true, banks := m, ret := mBN, master := mBN,
    entry := BitVec.ofNat 256 q.e, index := q.i, src := sget 0 t.desc (eH0 q.e), dst := sget 0 t.desc (eH1 q.e),
    issued := q.x, waits := 0, deferred := (banksOf m).map (fun b => (b, t.owner b)), held := false,
    aux := clGroup q.e + 64 * clBucket q.e, status := none, note := sget 0 t.desc (eH2 q.e) }

/-- COLLECTIVE's effect (R308, R310, R335). -/
def collectiveEffect (d : Dev) (q : Issue) : Dev :=
  let g := clGroup q.e
  let f := collXfer (d.tile q.p) q
  let d := d.onTile q.p (fun t => t.portCmd q [])
  if d.groupLost g then
    let d := d.onTile q.p (fun t => t.takeBanks f q.x)
    match (d.tile q.p).xfers.getLast? with
    | some x => d.endColl q.p x 0x41
    | none => d
  else (d.startXfer q.p q.x f).showOpen g

/-- COLLECTIVE (R308). -/
def execCollective (p : Nat) (s : State) : Host.Outcome State Fault Refusal :=
  issueCommand 0x53 collectiveCheck collectiveEffect p s

/-! ## The home rank (R321, R323, R327) -/

/-- A bucket at its home, with the same group, number and step. -/
def HomeBucket.same (x y : HomeBucket) : Bool := x.slot == y.slot && x.bucket == y.bucket && x.step == y.step

/-- A home bucket put in its place. -/
def Dev.putHome (d : Dev) (x : HomeBucket) : Dev :=
  if d.homes.any x.same then { d with homes := d.homes.map (fun y => if x.same y then x else y) }
  else { d with homes := d.homes ++ [x] }

/-- Deferrals in a row of a rank for a bucket. -/
def Dev.deferrals (d : Dev) (gid bucket rank : Nat) : Nat :=
  match d.deferred.find? (fun x => x.1 == gid && x.2.1 == bucket && x.2.2.1 == rank) with
  | some x => x.2.2.2
  | none => 0

/-- A rank is marked required (R323). -/
def Dev.required (d : Dev) (g bucket rank : Nat) : Bool :=
  bits (d.collReg g dCOLL_CFG) 15 13 ≤ d.deferrals (d.collGid g) bucket rank

/-- DEADLINE in ps; none where there is none (R321). -/
def Dev.deadlinePs (d : Dev) (g : Nat) : Option Nat :=
  let n := bits (d.collReg g dCOLL_DEADLINE) 15 0
  if n = 0 then none else some (n * 1000000)

/-- QUORUM (R342). -/
def Dev.quorum (d : Dev) (g : Nat) : Nat :=
  let q := bits (d.collReg g dCOLL_DEADLINE) 31 16
  if q = 0 then (d.collRanks g).length else q

/-- The home may close a bucket short by its own decision (R321, R323, R326, R327): a policy with a deadline that has passed, a
quorum that holds every required rank, room in the ledger, no replay. -/
def Dev.mayCloseShort (d : Dev) (x : HomeBucket) : Bool :=
  let g := x.slot
  let out := (d.collRanks g).filter (fun r => !x.ready.contains r)
  let late := match d.deadlinePs g with | some n => x.firstPs + n ≤ d.clock.ps | none => false
  (d.collPolicy g == 1 || d.collPolicy g == 2) && late && d.quorum g ≤ x.ready.length &&
  out.all (fun r => !d.required g x.bucket r) && !d.replays (d.collReg g dCOLL_JOB) && d.fld dBND_STATUS 2 2 == 0

/-- The set of included ranks, if the bucket closes now (R321, R327): a recorded decision is honoured; else every rank, or the
ready ones at the deadline. -/
def Dev.closing (d : Dev) (x : HomeBucket) : Option (List Nat) :=
  let all := d.collRanks x.slot
  let out := (d.honours x.slot x.bucket x.step).map (·.rank)
  let want := all.filter (fun r => !out.contains r)
  if want.all (fun r => x.ready.contains r) then some want
  else if out = [] ∧ d.mayCloseShort x = true then some (all.filter (fun r => x.ready.contains r))
  else none

/-- A bucket closes: COLL_LAST_WAIT and COLL_SHORT, and the set goes to every member (R321 step 3, R342). -/
def Dev.closeBucket (d : Dev) (x : HomeBucket) (set : List Nat) : Dev :=
  let g := x.slot
  let job := d.collReg g dCOLL_JOB
  let d := d.putHome { x with closed := true }
  let d := d.wr (dCOLL_LAST_WAIT + 0x80 * g) ((d.clock.ps - x.firstPs) / 1000 % 2 ^ 32)
  let d := if set.length < (d.collRanks g).length then d.bump (dCOLL_SHORT + 0x80 * g) 1 else d
  (d.collRanks g).foldl (fun (d : Dev) r =>
    d.message job r 0 (bits (d.collReg g dCOLL_CFG) 8 0) (.included (d.collGid g) x.bucket x.step set d.stamp)) d

/-- A bucket closes where its conditions hold; a decision that the ledger has no room for sets LEDGER_FULL (R326). -/
def Dev.tryClose (d : Dev) (x : HomeBucket) : Dev :=
  if x.closed then d
  else
    match d.closing x with
    | some set =>
      if set.length < (d.collRanks x.slot).length ∧ d.honours x.slot x.bucket x.step = [] ∧
          d.ledgerRoom < (d.collRanks x.slot).length - set.length then d.orBits dBND_STATUS 4
      else d.closeBucket x set
    | none => d

/-- A readiness notice at the home (R321 step 1). -/
def Dev.bucketNotice (d : Dev) (g rank bucket step : Nat) : Dev :=
  let x := (d.homes.find? (fun y => y.slot == g && y.bucket == bucket && y.step == step)).getD
    ⟨g, bucket, step, [], d.ptpNs, d.clock.ps, false⟩
  if x.ready.contains rank then d
  else
    let x := { x with ready := x.ready ++ [rank] }
    (d.putHome x).tryClose x

/-- A group slot is configured and homed on this device. -/
def Dev.homed (d : Dev) (g : Nat) : Bool :=
  bit (d.collReg g dCOLL_CFG) 9 && d.rankIsSelf (d.collReg g dCOLL_JOB) (d.collHome g)

/-- BUCKET_READY (R321): a readiness notice of a member rank reaches the home; this device's own once it has been sent. -/
def execBucketReady (g rank bucket step : Nat) (s : State) : Host.Outcome State Fault Refusal :=
  let d := s.dev
  if g < 64 ∧ d.homed g = true ∧ (d.collRanks g).contains rank = true then
    let job := d.collReg g dCOLL_JOB
    if d.rankIsSelf job rank then
      if d.inner.contains (job, .ready (d.collGid g) bucket step rank) then
        .next { s with dev := (d.dropInner job (.ready (d.collGid g) bucket step rank)).bucketNotice g rank bucket step }
      else .fault .nothingInFlight
    else .next { s with dev := d.bucketNotice g rank bucket step }
  else .fault .noSuchUnit

/-- BUCKET_DEADLINE (R321): DEADLINE after the first notice of a bucket that is still open; a group under WAIT has none. -/
def execBucketDeadline (g bucket step : Nat) (s : State) : Host.Outcome State Fault Refusal :=
  let d := s.dev
  match d.homes.find? (fun y => y.slot == g && y.bucket == bucket && y.step == step && !y.closed), d.deadlinePs g with
  | some x, some n =>
    if d.collPolicy g = 1 ∨ d.collPolicy g = 2 then
      .next { s with dev := (d.advancePs (x.firstPs + n)).tryClose x }
    else .fault .conditionNotMet
  | _, _ => .fault .nothingInFlight

/-! ## The set at a member (R321 to R325) -/

/-- Deferrals in a row counted anew for a bucket by a set (R323). -/
def Dev.countDeferral (d : Dev) (gid bucket rank : Nat) (out : Bool) : Dev :=
  let n := d.deferrals gid bucket rank
  let rest := d.deferred.filter (fun x => !(x.1 == gid && x.2.1 == bucket && x.2.2.1 == rank))
  { d with deferred := if out then rest ++ [(gid, bucket, rank, n + 1)] else rest }

/-- The action for an excluded rank: as recorded, else as the policy says (R322, R327). -/
def Dev.exclusion (d : Dev) (g bucket step rank : Nat) : Nat :=
  match (d.honours g bucket step).find? (fun e => e.rank == rank) with
  | some e => e.action
  | none => if d.collPolicy g = 1 then 1 else 2

/-- The BUCKET entry of an excluded rank, unless a recorded one is honoured (R325, R327). -/
def Dev.bucketEntry (d : Dev) (g bucket step ns : Nat) (set : List Nat) (action rank : Nat) : Dev :=
  d.ledgerAdd ⟨0, ns, step, 1, action, d.collGid g, bucket, 0, d.collReg g dCOLL_JOB, d.collHome g, rank, set.length,
    (d.collRanks g).length, 0⟩

/-- One excluded rank at a member: its entry, and its deferrals in a row; a rank of this device's own that has been deferred
DEFER_MAX times writes that it is required (R323, R325). -/
def Dev.excludeRank (g bucket step ns : Nat) (set : List Nat) (d : Dev) (rank : Nat) : Dev :=
  let a := d.exclusion g bucket step rank
  let fresh := d.honours g bucket step == []
  let d := if fresh then d.bucketEntry g bucket step ns set a rank else d
  let d := d.countDeferral (d.collGid g) bucket rank (a == 1)
  if fresh && a == 1 && d.selfRank (d.collReg g dCOLL_JOB) == rank && d.required g bucket rank then
    d.bucketEntry g bucket step ns set 3 rank
  else d

/-- The set reaches a member (R321 step 3, R322). -/
def Dev.bucketSet (d : Dev) (g bucket step ns : Nat) (set : List Nat) : Dev :=
  let job := d.collReg g dCOLL_JOB
  let me := d.selfRank job
  let outs := (d.collRanks g).filter (fun r => !set.contains r)
  let n0 := (d.ledger.filter (fun e => e.job == job)).length
  let d := outs.foldl (Dev.excludeRank g bucket step ns set) d
  let d := set.foldl (fun (d : Dev) r => d.countDeferral (d.collGid g) bucket r false) d
  let x := (d.findBucket g bucket step).getD (Bucket.fresh g bucket step 0 0)
  let mine := d.ledger.filter (fun e => e.job == job && n0 ≤ e.seq)
  let entry := match mine.find? (fun e => e.rank == me) with
    | some e => e.seq
    | none => (match mine.head? with | some e => e.seq | none => noLedger)
  let out := outs.contains me
  let x := { x with included := some set, ledger := entry,
                    self := if out then (if d.exclusion g bucket step me = 1 then 3 else 5) else 0 }
  let d := if out then d.bump (dCOLL_SELF_OUT + 0x80 * g) 1 else d
  let d := d.putBucket x
  if out ∧ x.ready = true then d.setAside x else d

/-- BUCKET_SET_RX (R321, R322): the home's set reaches this member with the time of the decision; from this device itself once it
has been sent. -/
def execBucketSetRx (g bucket step ns : Nat) (ranks : List Nat) (s : State) : Host.Outcome State Fault Refusal :=
  let d := s.dev
  if g < 64 ∧ bit (d.collReg g dCOLL_CFG) 9 = true ∧ ranks.all (fun r => (d.collRanks g).contains r) = true then
    let job := d.collReg g dCOLL_JOB
    let open_ := match d.findBucket g bucket step with | some x => x.included == none | none => true
    if !open_ then .fault .nothingInFlight
    else if d.homed g then
      if d.inner.contains (job, .included (d.collGid g) bucket step ranks ns) then
        .next { s with dev := (d.dropInner job (.included (d.collGid g) bucket step ranks ns)).bucketSet g bucket step ns ranks }
      else .fault .nothingInFlight
    else .next { s with dev := d.bucketSet g bucket step ns ranks }
  else .fault .noSuchUnit

/-! ## Completion (R310 to R316) -/

/-- What the other ranks bring for destination element `k`. -/
def otherAt (others : List (Nat × Nat)) (k : Nat) : Option Nat := (others.find? (fun e => e.1 == k)).map (·.2)

/-- A sum written at one destination element (R312, R316): the exact sum, into the element's own escape slot where ACC keeps it,
else as its canonical Stook. -/
def Dev.putSum (d : Dev) (p : Nat) (q : Desc) (acc : Bool) (k : Nat) (v : Val) : Dev :=
  let t := d.tile p
  let r := k / q.cols
  let c := k % q.cols
  let w := rdElem t.loft q r c
  let old := if acc then (if q.fmt = fStook then stookValue d t w else (bushelVal w, 0)) else (Val.zero, 0)
  let s := bushelAdd old.1 v
  let d := d.onTile p (fun t => (t.orBits tNUM_STATUS old.2).orBits tACC_STATUS (flagIf s.2 asOVF))
  let put (d : Dev) (code : Nat) : Dev := d.onTile p (fun t => { t with
    loft := wrElem t.loft q r c code, loftErr := clearFlips t.loftErr (q.rowAddr r) q.rowBytes })
  if q.fmt = fBushel then put d (bushelCode s.1).1
  else
    match (if acc then d.escSlot t w else none) with
    | some a => d.jobWrite a (leBytes 80 (bushelCode s.1).1)
    | none => let x := d.stookFor p s.1; put x.1 x.2

/-- A gathered element written at a destination (R311, R314): bit for bit in its own format, else widened exactly. -/
def Dev.putGather (d : Dev) (p : Nat) (src : Nat) (q : Desc) (k w : Nat) : Dev :=
  let code := w % 2 ^ 641
  let scale := w / 2 ^ 641
  let r := k / q.cols
  let c := k % q.cols
  if src = q.fmt then
    let d := Dev.putWire p q d (code, k)
    if isGBlock q.fmt ∧ c % 32 = 0 then d.loftWrite p (q.scaleAddr r c) [BitVec.ofNat 8 scale] else d
  else
    let v := if src = fStook then (if 2 ^ 640 ≤ code then bushelVal (code - 2 ^ 640) else (stookValue d (d.tile p) code).1)
      else elemVal src code (sext scale 8)
    if q.fmt = fStook then Dev.putWire p q d ((bushelCode v).1 + 2 ^ 640, k)
    else Dev.putWire p q d ((convert q.fmt .ne 0 (isFloat src) true v).code, k)

/-- The maximum of R313 over what is there: this device's, the others' and, with ACC, the old element. -/
def maxOf (fmt : Nat) (xs : List Nat) : Option Nat :=
  match xs with
  | [] => none
  | x :: r =>
    let v := r.foldl (fun a c => rowMax a (elemVal fmt c 0)) (rowMax (elemVal fmt x 0) (elemVal fmt x 0))
    some (convert fmt .ne 0 true true v).code

/-- One destination element of a collective (R311 to R315). -/
def Dev.putResult (p : Nat) (f : Xfer) (x : Bucket) (mine : Bool) (others : List (Nat × Nat)) (d : Dev) (k : Nat) : Dev :=
  let q := Desc.ofNat f.dst.toNat
  let e := f.entry.toNat
  let i := q.index (k / q.cols) (k % q.cols)
  let here := if mine then (x.contrib.find? (fun c => c.1 == i)).map (·.2) else none
  let there := otherAt others k
  if isSum (clOp e) then
    let v := ([here, there].filterMap id).foldl (fun v c => v.add (bushelVal (c % 2 ^ 640))) Val.zero
    d.putSum p q (clAcc e) k v
  else if clOp e = 4 then
    let t := d.tile p
    match maxOf q.fmt ([here, there].filterMap id ++ (if clAcc e then [rdElem t.loft q (k / q.cols) (k % q.cols)] else [])) with
    | some c => Dev.putWire p q d (c, k)
    | none => d
  else
    match (match there with | some c => some c | none => here) with
    | some c => d.putGather p (Desc.ofNat f.src.toNat).fmt q k c
    | none => d

/-- A collective's destination and record written (R310). -/
def Dev.collComplete (d : Dev) (p : Nat) (f : Xfer) (x : Bucket) (others : List (Nat × Nat)) : Dev :=
  let g := x.slot
  let me := d.selfRank (d.collReg g dCOLL_JOB)
  let mine := match x.included with | some rs => rs.contains me | none => clOp f.entry.toNat != 3 || clRoot f.entry.toNat == me
  let n := match x.included with | some rs => rs.length | none => (d.collRanks g).length
  let q := Desc.ofNat f.dst.toNat
  let d := (List.range q.count).foldl (Dev.putResult p f x mine others) d
  let d := d.loftWrite p (Desc.ofNat f.note.toNat).base (collRecord n x.folded 0 x.self x.ledger)
  (d.finishXfer p (d.arriveTc (d.tile p)) f 0).showOpen g

/-- The collective of a tile in progress under a flag. -/
def Tile.collOf (t : Tile) (flag : Nat) : Option Xfer :=
  t.xfers.find? (fun x => x.running && x.kind == .coll && x.flag == some flag)

/-- COLLECTIVE_COMPLETE (R310): the command of tile `p` with SFLAG `flag` ends. `others` is what the other included ranks bring,
by destination element: the exact sum as a Bushel code, or an element as the Binder carries it. A sum ends once its set is
known and this device, if included, is ready; the other operations once every local member is. -/
def execCollectiveComplete (p flag : Nat) (others : List (Nat × Nat)) (s : State) : Host.Outcome State Fault Refusal :=
  if p < 272 then
    let t := s.dev.tile p
    match t.collOf flag with
    | some f =>
      match s.dev.findBucket (f.aux % 64) (f.aux / 64) (t.rd tTHR_STEP) with
      | some x =>
        let decided := match x.included with
          | some rs => x.ready || !rs.contains (s.dev.selfRank t.job)
          | none => !isSum x.op && x.ready
        if f.waits = 0 ∧ f.held = false ∧ decided = true then
          .next { s with dev := s.dev.collComplete p f x others }
        else .fault .conditionNotMet
      | none => .fault .conditionNotMet
    | none => .fault .nothingInFlight
  else .fault .noSuchUnit

end Sys2Proof.Machine
end

