-- ==== Sys2Proof/Machine/Granary.lean ====
section
/-! DEFINITION. The Granary: address map (R254 to R256), the Sheaf decode of a word (R259, R368 to R371), refresh and row
hammer (R261, R262), calibration (R263, R264), page and stack retirement (R265 to R271), the Gleaner's scrub (R372). -/

namespace Sys2Proof.Machine

/-! ## The address map -/

/-- The first address beyond every stack (R255). -/
def grnEnd : Nat := 0x18000000000

/-- h of a local granule (R255). -/
def granuleTurn (l : Nat) : Nat := (bits l 4 0 + bits l 9 5 + bits l 14 10 + bits l 19 15 + bits l 24 20) % 24

/-- The stack and the stack address of a device address (R255). -/
def grnMap (a : Nat) : Nat × Nat :=
  let g := a / 2048
  let l := g / 24
  ((g % 24 + granuleTurn l) % 24, l * 2048 + a % 2048)

/-- The device address of a stack address: the map is a bijection (R255). -/
def grnUnmap (s x : Nat) : Nat :=
  let l := x / 2048
  (24 * l + (s + 24 - granuleTurn l) % 24) * 2048 + x % 2048

/-- The page of a stack address (R256). -/
def pageOfX (x : Nat) : Nat := x / 65536
/-- Its pseudo-channel, channel × 2 + PC (R256). -/
def pcOfX (x : Nat) : Nat := bits x 10 6 * 2 + bits x 5 5
/-- Its bank (R256). -/
def bankOfX (x : Nat) : Nat := bits x 21 16
/-- Its row (R256). -/
def rowOfX (x : Nat) : Nat := bits x 35 22
/-- The granule of a page, COL (R256). -/
def colOfX (x : Nat) : Nat := bits x 15 11

/-- A register of controller s. -/
def grnOff (off s : Nat) : Nat := off + 0x10000 * s

/-- The pages of a stack that programs use (R254). -/
def Dev.progPages (d : Dev) : Nat := (24 - d.fld dGRN_RESERVE 1 0) * 2 ^ 20 / 24

/-- A controller. -/
def Dev.stack (d : Dev) (s : Nat) : Stack := sget Stack.reset d.grnStacks s
/-- A controller replaced. -/
def Dev.setStack (d : Dev) (s : Nat) (k : Stack) : Dev := { d with grnStacks := sset Stack.reset d.grnStacks s k }

/-! ## Remap entries -/

/-- A valid remap entry: its number, SRC, COPYING, DST (R275). -/
structure Remap where
  n : Nat
  src : Nat
  copying : Bool
  dst : Nat
  deriving DecidableEq, Repr

/-- The valid remap entries of a stack. -/
def Dev.remaps (d : Dev) (s : Nat) : List Remap :=
  let b := grnOff dGRN_REMAP s
  d.regs.filterMap (fun e =>
    if b ≤ e.1 ∧ e.1 < b + 0x8000 ∧ (e.1 - b) % 8 = 0 ∧ e.2.toNat.testBit 31 then
      some ⟨(e.1 - b) / 8, bits e.2.toNat 19 0, bit e.2.toNat 30, d.fld (e.1 + 4) 19 0⟩
    else none)

/-- A remap entry written. -/
def Dev.putRemap (d : Dev) (s : Nat) (r : Remap) : Dev :=
  (d.wr (grnOff dGRN_REMAP s + 8 * r.n) (r.src + b2n r.copying * 2 ^ 30 + 2 ^ 31)).wr (grnOff dGRN_REMAP_DST s + 8 * r.n)
    r.dst

/-- The survivors' reserve pages a stack retirement needs (R269). -/
def Dev.need (d : Dev) (t : Nat) : Nat := (d.progPages - 1 - t) / 23 + 1

/-- Stack s as a survivor of d (R268). -/
def survivorIndex (d s : Nat) : Nat := if s < d then s else s - 1
/-- Survivor t of stack d. -/
def survivorStack (d t : Nat) : Nat := if t < d then t else t + 1

/-- The stack that has retired or is retiring. -/
def Dev.retiredStack (d : Dev) : Option Nat :=
  match d.stackRet with
  | some (.copying k _ _) => some k
  | some (.done k) => some k
  | _ => none

/-- The first reserve page of a stack that page retirements may take (R254, R270). -/
def Dev.reserveFloor (d : Dev) (s : Nat) : Nat :=
  match d.retiredStack with
  | some k => if s = k then d.progPages else d.progPages + d.need (survivorIndex k s)
  | none => d.progPages

/-- The highest free reserve page of a stack (R265). -/
def Dev.topReserve (d : Dev) (s : Nat) : Option Nat :=
  let used := (d.remaps s).map (·.dst)
  ((List.range (used.length + 1)).map (fun k => 2 ^ 20 - 1 - k)).find? (fun g => !used.contains g && d.reserveFloor s ≤ g)

/-- A free remap entry (R267). -/
def Dev.freeRemap (d : Dev) (s : Nat) : Option Nat :=
  let used := (d.remaps s).map (·.n)
  (List.range (min 4096 (used.length + 1))).find? (fun n => !used.contains n)

/-- Where granule `c` of page `g` of stack `s` lies now (R265, R268): the stack and the page. -/
def Dev.resolve (d : Dev) (s g c : Nat) : Nat × Nat :=
  let viaPage : Nat × Nat :=
    match (d.remaps s).find? (fun r => r.src == g) with
    | some r => if r.copying && d.fld (grnOff dGRN_RETIRE s) 24 20 ≤ c then (s, g) else (s, r.dst)
    | none => (s, g)
  let moved (k : Nat) : Nat × Nat := (survivorStack k (g % 23), d.progPages + g / 23)
  match d.stackRet with
  | some (.copying k p n) => if s = k && (g < p || (g == p && c < n)) then moved k else viaPage
  | some (.done k) => if s = k then moved k else viaPage
  | _ => viaPage

/-- An access to a granule that is being copied is held (R265). -/
def Dev.beingCopied (d : Dev) (s g c : Nat) : Bool :=
  (match (d.remaps s).find? (fun r => r.src == g && r.copying) with
   | some _ => d.fld (grnOff dGRN_RETIRE s) 24 20 == c
   | none => false) ||
  (match d.stackRet with
   | some (.copying k p n) => s == k && g == p && c == n
   | _ => false)

/-! ## Orders -/

/-- Stack d may retire (R269). -/
def Dev.stackMayRetire (d : Dev) (k : Nat) : Bool :=
  d.stackRet.isNone && (List.range 23).all (fun t =>
    (d.remaps (survivorStack k t)).all (fun r => d.progPages + d.need t ≤ r.dst))

/-- A stack's retirement ordered: the status (R269). -/
def Dev.orderStack (d : Dev) (k : Nat) : Dev × Nat :=
  if d.stackRet = some (.ordered k) ∨ d.retiredStack = some k then (d, 0x01)
  else if d.stackMayRetire k then ({ d with stackRet := some (.ordered k) }, 0x01)
  else
    let d := (d.orBits (grnOff dGRN_STATUS k) 0x20).errRecord { type := 10, status := 0x33, cls := 4, die := k / 6, unit := k }
    ({ d with failed := true }, 0x33)

/-- A page's retirement ordered: the status (R267). A page already retired, or ordered, is not ordered again. -/
def Dev.orderPage (d : Dev) (s g : Nat) : Dev × Nat :=
  let k := d.stack s
  let n := k.orders.length + (if k.copying.isSome then 1 else 0)
  if k.orders.contains g || (d.remaps s).any (fun r => r.src == g) then (d, 0x01)
  else if n ≥ 8 then (d, 0x02)
  else if (d.remaps s).length + k.orders.length ≥ 4096 ∨ d.fld (grnOff dGRN_RESERVE s) 19 2 ≤ k.orders.length then
    let d := (d.orBits (grnOff dGRN_STATUS s) 0x20).errRecord { type := 9, status := 0x33, cls := 4, die := s / 6, unit := s, addr := g }
    ((d.orderStack s).1, 0x33)
  else (d.setStack s { k with orders := k.orders ++ [g] }, 0x01)

/-! ## Reading a word -/

/-- The jobs of the tenant whose partition holds an address have their steps' runs abandoned (R266, R371). -/
def Dev.abandonAt (d : Dev) (a : Nat) : Dev :=
  match d.parts.find? (fun q => q.base ≤ a && a < q.base + q.size) with
  | some q => { d with jobs := d.jobs.map (fun j => if j.2.tenant = q.tenant then (j.1, j.2.abandon 0x30) else j) }
  | none => d

/-- A word of a running job found uncorrectable by the Gleaner: the job's state is rebuilt before the next release (R371). -/
def Dev.rebuildAt (d : Dev) (a : Nat) : Dev :=
  match d.parts.find? (fun q => q.base ≤ a && a < q.base + q.size) with
  | some q => { d with jobs := d.jobs.map (fun j => if j.2.tenant = q.tenant then (j.1, { j.2 with rebuild := true }) else j) }
  | none => d

/-- Flips that strike a stored word: the data as read from then on, and the pattern against its code word. -/
def strike (data flips new : Nat) : Nat × Nat :=
  let f := flips ^^^ new
  let r := sheafRead data f
  (r.1, f ^^^ ((data ^^^ r.1) <<< 16 + sheafCheck (data ^^^ r.1)))

/-- Bits of the stored Granary word at `a` flip. -/
def Dev.grnStrike (d : Dev) (a new : Nat) : Dev :=
  let w := a / 16
  let r := strike (leNat (d.grnRead (16 * w) 16)) (sget 0 d.grnErr w).toNat (new % 2 ^ 144)
  { d with grnMem := wrBytes d.grnMem (16 * w) (leBytes 16 r.1), grnErr := sset 0 d.grnErr w (BitVec.ofNat 144 r.2) }

/-- What a read of the word at `a` reports (R259, R275, R370, R371): `op` as error records name it, for a job's tile `p`. -/
def Dev.grnReport (d : Dev) (a op p : Nat) : Dev × SheafOutcome :=
  let w := a / 16
  let f := (sget 0 d.grnErr w).toNat
  let o := (sheafRead 0 f).2
  let m := grnMap (16 * w)
  let t := d.tile p
  let r : ErrIn := { type := 0, cls := 4, die := m.1 / 6, unit := m.1, sub := pcOfX m.2, job := t.job, step := t.rd tTHR_STEP, op := op,
                     addr := 16 * w, tile := t.logical.getD 0x1FF }
  let g := pageOfX m.2
  match o with
  | .clean => (d, o)
  | .corrected _ =>
    let d := (d.codeReport o f r).orBits (grnOff dGRN_STATUS m.1) 1
    let d := d.bump (grnOff dGRN_CE_COUNT m.1) 1
    let k := d.stack m.1
    let n := sget 0 k.pageCe g + 1
    let d := d.setStack m.1 { k with pageCe := sput k.pageCe g n }
    (if d.fld dGLN_LIMITS 7 0 ≤ n then (d.orderPage m.1 g).1 else d, o)
  | .uncorrectable =>
    let d := (d.codeReport o f r).orBits (grnOff dGRN_STATUS m.1) 2
    let d := d.bump (grnOff dGRN_UE_COUNT m.1) 1
    ((d.orderPage m.1 g).1, o)

/-! ## Row hammer -/

/-- The tracker of a bank of a pseudo-channel. -/
def hammerKey (bank pc : Nat) : Nat := bank * 64 + pc

/-- The entry with the lowest count. -/
def lowestEntry : List (Nat × Nat) → Nat × Nat → Nat × Nat
  | [], b => b
  | e :: r, b => lowestEntry r (if e.2 < b.2 then e else b)

/-- An activation of a row (R262). -/
def rowActivate (es : List (Nat × Nat)) (row : Nat) : List (Nat × Nat) :=
  if es.any (fun e => e.1 == row) then es.map (fun e => if e.1 = row then (e.1, e.2 + 1) else e)
  else if es.length < 32 then es ++ [(row, 1)]
  else
    match es with
    | [] => [(row, 1)]
    | e :: r =>
      let l := lowestEntry r e
      es.map (fun x => if x = l then (row, l.2 + 1) else x)

/-- An activation counted at a stack address of a stack. -/
def Dev.activation (d : Dev) (s x : Nat) : Dev :=
  let k := d.stack s
  let key := hammerKey (bankOfX x) (pcOfX x)
  d.setStack s { k with hammer := sput k.hammer key (rowActivate (sget [] k.hammer key) (rowOfX x)) }

/-- The rows refreshed beside a tracked row that reached LIMIT (R262). -/
def neighbours (row : Nat) : List Nat := [row - 2, row - 1, row + 1, row + 2].filter (fun r => r < 16384 && r != row)

/-- A refresh slot of one bank of one pseudo-channel (R261, R262): the rows it refreshes, the neighbours of rows that
reached LIMIT, the entries it clears, and the bank time in GCLK cycles. -/
def Dev.refresh (d : Dev) (s bank pc : Nat) (rows : List Nat) (cycles : Nat) : Dev :=
  let k := d.stack s
  let key := hammerKey bank pc
  let es := sget [] k.hammer key
  let hot := (es.filter (fun e => d.fld (grnOff dGRN_RH s) 13 0 ≤ e.2)).map (·.1)
  let done := rows ++ hot.flatMap neighbours
  let es' := es.filter (fun e => !hot.contains e.1 && !done.contains e.1)
  let d := d.setStack s { k with hammer := sset [] k.hammer key es' }
  (d.bump (grnOff dGRN_RH_ACTIONS s) hot.length).bump (grnOff dGRN_REFRESH_TC s) cycles

/-- The controller accepts addresses (R275). -/
def Dev.grnOn (d : Dev) (s : Nat) : Bool := d.fld (grnOff dGRN_CTRL s) 0 0 == 1

/-- A refresh of one bank of a controller that is on. -/
def refreshCommand (s bank pc : Nat) (rows : List Nat) (cycles : Nat) (st : State) : Host.Outcome State Fault Refusal :=
  if s < 24 ∧ bank < 64 ∧ pc < 64 then
    if st.dev.grnOn s then .next { st with dev := st.dev.refresh s bank pc rows cycles } else .fault .unpowered
  else .fault .noSuchUnit

/-- GRN_REFRESH (R261): the per-bank refresh interval expires. -/
def execGrnRefresh (k bank pc : Nat) (rows : List Nat) (cycles : Nat) (s : State) : Host.Outcome State Fault Refusal :=
  refreshCommand k bank pc rows cycles s

/-- REFRESH_MANAGEMENT_REQUEST (R252, R261): a refresh the stack asks for is carried out. -/
def execRefreshManagementRequest (k bank pc : Nat) (rows : List Nat) (cycles : Nat) (s : State) :
    Host.Outcome State Fault Refusal := refreshCommand k bank pc rows cycles s

/-! ## Accesses -/

/-- A Granary access: a word read, or one 128-bit word written, which reads its burst's other word (R253). -/
def Dev.granaryAccess (d : Dev) (a : Nat) (v : Option Nat) (flips odecc : Nat) (act : Bool) (p : Nat) : Dev :=
  let m := grnMap a
  let at_ := d.resolve m.1 (pageOfX m.2) (colOfX m.2)
  let d := (d.grnStrike a flips).bump (grnOff dGRN_ODECC_COUNT at_.1) odecc
  let d := if act then d.activation at_.1 (at_.2 * 65536 + m.2 % 65536) else d
  match v with
  | none =>
    let r := d.grnReport a 0xE0 p
    if r.2 = .uncorrectable then r.1.abandon (r.1.tile p).job else r.1
  | some w =>
    let r := d.grnReport (a ^^^ 16) 0xE1 p
    let o := a / 16 * 16 ^^^ 16
    let d := if r.2 = .clean then r.1
      else if r.2 = .uncorrectable then (r.1.abandon (r.1.tile p).job).grnPoison o
      else r.1.grnWrite o (r.1.grnRead o 16)
    d.grnWrite (a / 16 * 16) (leBytes 16 (w % 2 ^ 128))

/-- GRANARY_ACCESS (R259): an access by a tile's program to the word at `a`, with the bits that have flipped in its stored
word since its last access. Programs do not reach the reserve (R254); an access to a granule being copied is held. -/
def execGranaryAccess (a : Nat) (v : Option Nat) (flips odecc : Nat) (act : Bool) (p : Nat) (s : State) :
    Host.Outcome State Fault Refusal :=
  let m := grnMap a
  if a < grnEnd then
    if !s.dev.grnOn m.1 then .fault .unpowered
    else if s.dev.top ≤ a ∨ s.dev.beingCopied m.1 (pageOfX m.2) (colOfX m.2) = true then .fault .conditionNotMet
    else .next { s with dev := s.dev.granaryAccess a v flips odecc act p }
  else .fault .noSuchUnit

/-! ## Calibration -/

/-- A lane of a stack repaired, or failed for good (R264): status bit, error record, the stack's retirement. -/
def Dev.stackLane (d : Dev) (s pc : Nat) (repaired : Bool) : Dev :=
  let d := (d.orBits (grnOff dGRN_STATUS s) (if repaired then 8 else 16)).errRecord { type := 13, cls := 4, die := s / 6, unit := s, sub := pc }
  if repaired then d else (d.orderStack s).1

/-- A calibration pass (R263, R264): the pseudo-channels in which a lane was remapped, and those left with no lane. -/
def Dev.calPass (d : Dev) (s : Nat) (temp : Int) (repaired failed : List Nat) : Dev :=
  let k := d.stack s
  let d := d.setStack s { k with calPs := d.clock.ps, calTemp := temp }
  let d := (d.bump (grnOff dGRN_CAL_PASSES s) 1).setFld (grnOff dGRN_TEMP s) 7 0 (wrapN temp 8)
  let d := repaired.foldl (fun (d : Dev) c => d.stackLane s c true) d
  failed.foldl (fun (d : Dev) c => d.stackLane s c false) d

/-- A pass is due: the period has run, or the temperature has moved by TEMP_STEP (R263). -/
def Dev.calDue (d : Dev) (s : Nat) (temp : Int) : Bool :=
  let k := d.stack s
  d.fld (grnOff dGRN_CAL s) 15 0 * 1000000000 ≤ d.clock.ps - k.calPs ||
  d.fld (grnOff dGRN_CAL s) 23 16 ≤ (temp - k.calTemp).natAbs

/-- GRN_CAL_PASS (R263). -/
def execGrnCalPass (k : Nat) (temp : Int) (repaired failed : List Nat) (s : State) : Host.Outcome State Fault Refusal :=
  if k < 24 ∧ repaired.all (fun c => c < 64) ∧ failed.all (fun c => c < 64) then
    if !s.dev.grnOn k then .fault .unpowered
    else if s.dev.calDue k temp then .next { s with dev := s.dev.calPass k temp repaired failed }
    else .fault .conditionNotMet
  else .fault .noSuchUnit

/-! ## Retirement -/

/-- The remap entries of a stack kept in the Daybook (R271). -/
def Dev.persistRemaps (d : Dev) (s : Nat) : Dev :=
  { d with persist := { d.persist with
      remap := sput d.persist.remap s ((d.remaps s).map (fun r => (r.src, r.dst, r.copying))) } }

/-- The pages retired on a stack in the last 24 h reach PAGES_DAY: the stack's retirement is ordered (R370). -/
def Dev.countRetired (d : Dev) (s : Nat) : Dev :=
  let k := d.stack s
  let now := d.clock.ps / 1000
  let ts := (k.retired ++ [now]).filter (fun x => now < x + 86400000000000)
  let d := d.setStack s { k with retired := ts }
  if d.fld dGLN_LIMITS 23 16 ≤ ts.length then (d.orderStack s).1 else d

/-- The oldest order of a controller starts (R265, R267). -/
def Dev.pageRetirement (d : Dev) (s : Nat) : Dev :=
  let k := d.stack s
  match k.orders with
  | [] => d
  | g :: r =>
    match d.freeRemap s, d.topReserve s with
    | some n, some dst =>
      let d := (d.setStack s { k with orders := r, copying := some n }).putRemap s ⟨n, g, true, dst⟩
      let d := (d.wr (grnOff dGRN_RETIRE s) g).orBits (grnOff dGRN_STATUS s) 0x40
      let d := d.bump (grnOff dGRN_REMAP_USED s) 1
      let d := d.setFld (grnOff dGRN_RESERVE s) 19 2 (d.fld (grnOff dGRN_RESERVE s) 19 2 - 1)
      let d := (d.persistRemaps s).errRecord { type := 9, cls := 4, die := s / 6, unit := s, addr := grnUnmap s (g * 65536) }
      d.countRetired s
    | _, _ =>
      let d := (d.setStack s { k with orders := r }).orBits (grnOff dGRN_STATUS s) 0x20
      ((d.errRecord { type := 9, status := 0x33, cls := 4, die := s / 6, unit := s }).orderStack s).1

/-- PAGE_RETIREMENT (R265): the controller takes up its oldest order. -/
def execPageRetirement (k : Nat) (s : State) : Host.Outcome State Fault Refusal :=
  if k < 24 then
    if !s.dev.grnOn k then .fault .unpowered
    else if (s.dev.stack k).orders = [] ∨ (s.dev.stack k).copying.isSome = true then .fault .nothingInFlight
    else .next { s with dev := s.dev.pageRetirement k }
  else .fault .noSuchUnit

/-- A word as a retirement copy moves it (R266): corrected, or poisoned. -/
def Dev.copyWord (d : Dev) (s w : Nat) : Dev :=
  let r := d.grnReport (16 * w) 0xE4 272
  match r.2 with
  | .clean => r.1
  | .corrected _ => r.1.grnWrite (16 * w) (r.1.grnRead (16 * w) 16)
  | .uncorrectable => ((r.1.grnPoison (16 * w)).orBits (grnOff dGRN_STATUS s) 4).abandonAt (16 * w)

/-- The words with flipped bits in the granule at a device address. -/
def Dev.flippedIn (d : Dev) (a : Nat) : List Nat :=
  (d.grnErr.map (·.1)).filter (fun w => a / 2048 * 128 ≤ w && w < a / 2048 * 128 + 128)

/-- A granule copied. -/
def Dev.copyGranule (d : Dev) (s g c : Nat) : Dev :=
  (d.flippedIn (grnUnmap s (g * 65536 + c * 2048))).foldl (fun (d : Dev) w => d.copyWord s w) d

/-- The copy of a page retirement ends a granule (R265). -/
def Dev.pageCopyDone (d : Dev) (s n : Nat) : Dev :=
  let g := d.fld (grnOff dGRN_RETIRE s) 19 0
  let c := d.fld (grnOff dGRN_RETIRE s) 24 20
  let d := d.copyGranule s g c
  if c < 31 then d.setFld (grnOff dGRN_RETIRE s) 24 20 (c + 1)
  else
    let d := d.setFld (grnOff dGRN_REMAP s + 8 * n) 30 30 0
    let k := d.stack s
    let d := (d.setStack s { k with copying := none }).setFld (grnOff dGRN_STATUS s) 6 6 0
    (d.setFld (grnOff dGRN_RETIRE s) 24 20 0).persistRemaps s

/-- The copy of a stack retirement ends a granule (R268). -/
def Dev.stackCopyDone (d : Dev) (s g c : Nat) : Dev :=
  let d := d.copyGranule s g c
  if c < 31 then
    ({ d with stackRet := some (.copying s g (c + 1)) } : Dev).setFld (grnOff dGRN_RETIRE s) 24 20 (c + 1)
  else if g + 1 < d.progPages then
    ({ d with stackRet := some (.copying s (g + 1) 0) } : Dev).wr (grnOff dGRN_RETIRE s) (g + 1)
  else
    let d := ({ d with stackRet := some (.done s), persist := { d.persist with stack := some (.done s) } } : Dev)
    (d.setFld (grnOff dGRN_STATUS s) 7 6 2).wr (grnOff dGRN_RETIRE s) 0

/-- GRANULE_COPY_DONE (R265, R268): the granule being copied on a controller is done. -/
def execGranuleCopyDone (k : Nat) (s : State) : Host.Outcome State Fault Refusal :=
  if k < 24 then
    match (s.dev.stack k).copying with
    | some n => .next { s with dev := s.dev.pageCopyDone k n }
    | none =>
      match s.dev.stackRet with
      | some (.copying j g c) =>
        if j = k then .next { s with dev := s.dev.stackCopyDone k g c } else .fault .nothingInFlight
      | _ => .fault .nothingInFlight
  else .fault .noSuchUnit

/-- The copy of a stack's pages begins (R268): its survivors give up their reserve from PP up. -/
def Dev.stackRetirement (d : Dev) (k : Nat) : Dev :=
  let d := { d with stackRet := some (.copying k 0 0), persist := { d.persist with stack := some (.copying k 0 0) } }
  let d := (d.wr (grnOff dGRN_RETIRE k) 0).orBits (grnOff dGRN_STATUS k) 0x40
  let d := (List.range 23).foldl (fun (d : Dev) t =>
    let o := grnOff dGRN_RESERVE (survivorStack k t)
    d.setFld o 19 2 (d.fld o 19 2 - d.need t)) d
  d.errRecord { type := 10, cls := 4, die := k / 6, unit := k }

/-- STACK_RETIREMENT (R268): the order is taken up once no page of the stack is being copied. -/
def execStackRetirement (k : Nat) (s : State) : Host.Outcome State Fault Refusal :=
  if k < 24 then
    if s.dev.stackRet = some (.ordered k) then
      if (s.dev.stack k).copying.isSome = true then .fault .conditionNotMet
      else .next { s with dev := s.dev.stackRetirement k }
    else .fault .nothingInFlight
  else .fault .noSuchUnit

/-! ## The Gleaner's scrub -/

/-- The device address of the data that stack address `x` of stack `s` holds now; none for a page that holds none. -/
def Dev.dataAt (d : Dev) (s x : Nat) : Option Nat :=
  let g := pageOfX x
  let off := x % 65536
  if g < d.progPages then
    if d.resolve s g (colOfX x) = (s, g) then some (grnUnmap s x) else none
  else
    match (d.remaps s).find? (fun r => r.dst == g && d.resolve s r.src (colOfX x) == (s, g)) with
    | some r => some (grnUnmap s (r.src * 65536 + off))
    | none =>
      match d.retiredStack with
      | some k =>
        let src := (g - d.progPages) * 23 + survivorIndex k s
        if s ≠ k ∧ src < d.progPages ∧ d.resolve k src (colOfX x) = (s, g) then some (grnUnmap k (src * 65536 + off)) else none
      | none => none

/-- A scrub read of one word (R371, R372): a corrected word is rewritten, an uncorrectable one stored poisoned. -/
def Dev.scrubWord (d : Dev) (w : Nat) : Dev :=
  let r := d.grnReport (16 * w) 0xE2 272
  match r.2 with
  | .clean => r.1
  | .corrected _ => r.1.grnWrite (16 * w) (r.1.grnRead (16 * w) 16)
  | .uncorrectable => (r.1.grnPoison (16 * w)).rebuildAt (16 * w)

/-- A Granary pass ends (R370, R373): a late one is recorded, and the next starts at once. -/
def Dev.scrubPassEnd (d : Dev) : Dev :=
  let late := d.fld dGLN_PERIOD 15 0 * 3600 * 1000000000000 < d.clock.ps - d.gleanPs
  let d := d.bump dGLN_PASSES 1
  let d := { d with gleanPs := d.clock.ps, grnStacks := d.grnStacks.map (fun k => (k.1, { k.2 with pageCe := [] })) }
  if late then (d.errRecord { type := 16, cls := 9 }).bump dGLN_LATE 1 else d

/-- The next granule of every stack scrubbed, with the bits that have flipped in stored words meanwhile: the word's device
address and the pattern. -/
def Dev.granaryScrub (d : Dev) (flips : List (Nat × Nat)) : Dev :=
  let l := d.fld dGLN_POS 24 0
  let d := flips.foldl (fun (d : Dev) f => d.grnStrike f.1 f.2) d
  let as := (List.range 24).filterMap (fun s => d.dataAt s (l * 2048))
  let d := (as.flatMap d.flippedIn).foldl Dev.scrubWord d
  if l + 1 < 2 ^ 25 then d.setFld dGLN_POS 24 0 (l + 1) else (d.setFld dGLN_POS 24 0 0).scrubPassEnd

/-- GLEANER_GRANARY_SCRUB (R372): the pacing timer runs out while background work is active. -/
def execGleanerGranaryScrub (flips : List (Nat × Nat)) (s : State) : Host.Outcome State Fault Refusal :=
  if s.dev.fld dINT_CTRL 0 0 = 1 then .next { s with dev := s.dev.granaryScrub flips } else .fault .conditionNotMet

end Sys2Proof.Machine
end

