-- ==== Sys2Proof/Machine/Wain.lean ====
section
/-! DEFINITION. Wain connections (R282 to R294): delivery in sequence, acknowledgement, retransmission, credit, pause, liveness,
and the congestion window. -/

namespace Sys2Proof.Machine

/-- The running job with an identifier. -/
def Dev.jobRuns (d : Dev) (job : Nat) : Bool := (d.jobById job).isSome

/-- A packet dropped for its seal or its header (R283, R284). -/
def Dev.sealFail (d : Dev) : Dev := (d.orBits dWAIN_STATUS 4).bump dWAIN_SEAL_FAIL 1

/-- A packet from a rank without a VALID entry (R551). -/
def Dev.noRoute (d : Dev) (job rank cls : Nat) : Dev := d.binderLog (d.stepOf job) job 0x73 0x42 cls 0x1FF rank 0

/-- What a packet of a job from a rank meets at the receiver (R290, R551): the device, when the packet goes no further. -/
def Dev.rxRefused (d : Dev) (job rank cls : Nat) (ok : Bool) : Option Dev :=
  if !ok then some d.sealFail
  else if !d.jobRuns job then some d
  else if !d.rankValid job rank then some (d.noRoute job rank cls)
  else if d.rankLost job rank then some d
  else none

/-- The peer was heard (R290). -/
def Dev.heard (d : Dev) (job rank : Nat) : Dev :=
  let c := d.conn job rank 0
  d.setConn job rank 0 { c with rxPs := d.clock.ps }

/-- Sequence number `a` comes before `b`, modulo 2^32. -/
def seqBefore (a b : Nat) : Bool := a != b && (b + 2 ^ 32 - a) % 2 ^ 32 < 2 ^ 31

/-- The packets held past a gap that the next expected one releases: the next number, the rest held, what was released, in
order. -/
def advanceExpect : Nat → Nat → List (Nat × WainAsk) → List WainAsk → Nat × List (Nat × WainAsk) × List WainAsk
  | 0, e, hs, out => (e, hs, out)
  | n + 1, e, hs, out =>
    match hs.find? (fun h => h.1 == e) with
    | some h => advanceExpect n ((e + 1) % 2 ^ 32) (hs.filter (fun x => x.1 != e)) (out ++ [h.2])
    | none => (e, hs, out)

/-- The selective acknowledgement of R284. -/
def sackBits (e : Nat) (hs : List (Nat × WainAsk)) : Nat :=
  (List.range 16).foldl (fun m b => if hs.any (fun h => h.1 == (e + 1 + b) % 2 ^ 32) then m + 2 ^ b else m) 0

/-- A verified packet taken by its connection, and acknowledged (R288): the device, and what is delivered now, in sequence. -/
def Dev.rxSeq (d : Dev) (job rank cls seq : Nat) (ce : Bool) (ask : WainAsk) : Dev × List WainAsk :=
  let c := d.conn job rank cls
  let hs := if seqBefore seq c.expect || c.held.any (fun h => h.1 == seq) then c.held else c.held ++ [(seq, ask)]
  let r := advanceExpect (hs.length + 1) c.expect hs []
  let d := d.setConn job rank cls { c with expect := r.1, held := r.2.1 }
  let d := if ce then d.bump dWAIN_CE_RX 1 else d
  ((d.heard job rank).send (.ack rank cls job r.1 (sackBits r.1 r.2.1) ce), r.2.2)

/-- Credit owed for a packet on a direct-mode port (R286). -/
def Dev.owe (d : Dev) (port cls flits : Nat) : Dev :=
  if d.direct (port / 4) (port % 4) then
    { d with owed := sput d.owed (port * 4 + cls) (sget 0 d.owed (port * 4 + cls) + cellsOf flits) }
  else d

/-- A class-1 or class-2 packet of an epoch that is not the current one is refused (R329, R332). -/
def Dev.staleEpoch (d : Dev) (cls epoch : Nat) : Bool :=
  (cls == 1 || cls == 2) && epoch != d.fld dLAYOUT_EPOCH 15 0

/-! What a DATA packet of class 1 or 2 brings, beside the data of rings, collectives and parity, which other rows deliver. -/

/-- A peer window that is open for a job and rank in a direction and covers a range (R272, R276). -/
def Dev.peerWindow (d : Dev) (job rank : Nat) (write : Bool) (a n : Nat) : Bool :=
  (List.range 32).any (fun w =>
    let r (o : Nat) := d.rd (dWIN_JOB + 0x20 * w + o)
    let base := r 8 + r 12 * 2 ^ 32
    bit (r 4) 31 && r 0 == job && bits (r 4) 14 0 == rank && bit (r 4) (if write then 17 else 16) &&
    base ≤ a && a + n ≤ base + r 16 * 65536)

/-- An ask from its code and operands. -/
def WainAsk.of (what a n : Nat) (data : List Nat) : WainAsk :=
  if what = 1 then .write a (data.map (BitVec.ofNat 8))
  else if what = 2 then .read a n
  else if what = 3 then .carry a n ((List.range (data.length / 2)).map (fun i => (data.getD (2 * i) 0, data.getD (2 * i + 1) 0)))
  else .none

/-- A transfer refused for want of a window, logged (R272). -/
def Dev.windowRefused (d : Dev) (job rank cls : Nat) : Dev :=
  (d.binderLog (d.stepOf job) job (Config.binderReason 1) 0x10 cls 0x1FF rank 0).message job rank 0 0x1FF (.refuse 0x10)

/-- A packet's ask carried out (R272, R332). -/
def Dev.serveAsk (d : Dev) (job rank cls : Nat) : WainAsk → Dev
  | .none => d
  | .write a bs => if d.peerWindow job rank true a bs.length then d.jobWrite a bs else d.windowRefused job rank cls
  | .read a n =>
    if d.peerWindow job rank false a n then
      let ws := ((d.grnErr.map (·.1)).filter (fun w => a / 16 ≤ w && 16 * w < a + n))
      (ws.foldl (fun (d : Dev) w => (d.grnReport (16 * w) 0xE7 0).1) d).message job rank cls 0x1FF (.data ((n + 15) / 16))
    else d.windowRefused job rank cls
  | .carry tid step elems => d.keepCarry ⟨job, remapGid, 0, step, tid, elems.map (fun e => (e.1, e.2 % 2 ^ 640))⟩

/-- A DATA packet at a port (R284, R288, R329, R551): `ok` its seal, MACsec and header; `flits` how many, `decodes` whether all
of them decode. -/
def Dev.wainData (d : Dev) (port job rank cls seq epoch flits : Nat) (ok decodes ce : Bool) (ask : WainAsk) : Dev :=
  match d.rxRefused job rank cls ok with
  | some d' => d'
  | none =>
    if !decodes then d.heard job rank
    else
      let stale := d.staleEpoch cls epoch
      let r := (d.owe port cls flits).rxSeq job rank cls seq ce (if stale then .none else ask)
      let d := if stale then (r.1.orBits dBND_STATUS 1).message job rank 0 0x1FF (.refuse 0x17) else r.1
      r.2.foldl (fun (d : Dev) x => d.serveAsk job rank cls x) d

/-- WAIN_DATA_RX (R288): on a port that is up with its association installed (R300). -/
def execWainDataRx (port job rank cls seq epoch flits : Nat) (ok decodes ce : Bool) (what a n : Nat) (data : List Nat) (s : State) :
    Host.Outcome State Fault Refusal :=
  if port < 32 ∧ cls < 4 ∧ flits ≤ 112 then
    if s.dev.portUp port && s.dev.fld (psOff (port / 4) (port % 4)) 2 2 == 1 then
      .next { s with dev := s.dev.wainData port job rank cls seq epoch flits ok decodes ce (WainAsk.of what a n data) }
    else .fault .unpowered
  else .fault .noSuchUnit

/-- A packet sent again, under a new transmit count (R283, R288). -/
def Dev.resend (d : Dev) (job rank cls : Nat) (u : Unacked) : Dev :=
  let c := d.conn job rank cls
  let us := c.unacked.map (fun v => if v.seq = u.seq then { v with ps := d.clock.ps } else v)
  let d := d.setConn job rank cls { c with unacked := us, tx := c.tx + 1, txPs := d.clock.ps }
  ((d.c0Late job rank cls true).bump dWAIN_RETX 1).send (.wain rank cls job u.seq c.tx u.msg)

/-- The numbers an acknowledgement names. -/
def acked (ack sack seq : Nat) : Bool :=
  seqBefore seq ack || (List.range 16).any (fun b => sack.testBit b && seq == (ack + 1 + b) % 2 ^ 32)

/-- The window after a CE echo (R291). -/
def Conn.shrink (c : Conn) (ps : Nat) : Conn :=
  if c.shrinkPs + 8000000 ≤ ps then { c with window := max 16 (c.window * 7 / 8), shrinkPs := ps, growPs := ps }
  else { c with growPs := ps }

/-- An acknowledgement taken (R288): what it names is freed; a gap three packets behind later arrivals is sent again at
once. -/
def Dev.ackRx (d : Dev) (job rank cls ack sack : Nat) (ce : Bool) : Dev :=
  let c := d.conn job rank cls
  let c := if ce && d.fld dWAIN_CTRL 1 1 == 1 then c.shrink d.clock.ps else c
  let us := c.unacked.filter (fun u => !acked ack sack u.seq)
  let d := (d.setConn job rank cls { c with unacked := us }).heard job rank
  let top := (List.range 16).foldl (fun m b => if sack.testBit b then b + 1 else m) 0
  let gap (u : Unacked) : Bool := top != 0 && (ack + top + 2 ^ 32 - u.seq) % 2 ^ 32 ≥ 3 && seqBefore u.seq ((ack + top) % 2 ^ 32)
  (us.filter gap).foldl (fun (d : Dev) u => d.resend job rank cls u) d

/-- WAIN_ACK_RX (R288). -/
def execWainAckRx (job rank cls ack sack : Nat) (ok ce : Bool) (s : State) : Host.Outcome State Fault Refusal :=
  if cls < 4 then
    match s.dev.rxRefused job rank cls ok with
    | some d => .next { s with dev := d }
    | none => .next { s with dev := s.dev.ackRx job rank cls ack sack ce }
  else .fault .noSuchUnit

/-- WAIN_RTO (R288): the named packet has gone unacknowledged for RTO. -/
def execWainRto (job rank cls seq : Nat) (s : State) : Host.Outcome State Fault Refusal :=
  match (s.dev.conn job rank cls).unacked.find? (fun u => u.seq == seq) with
  | some u =>
    let d := s.dev.advancePs (u.ps + s.dev.fld dWAIN_TIMERS 15 0 * 64000)
    .next { s with dev := d.resend job rank cls u }
  | none => .fault .nothingInFlight

/-- WAIN_CREDIT_RX (R286): credit in cells for a class, on a direct-mode port. -/
def execWainCreditRx (port cls cells : Nat) (s : State) : Host.Outcome State Fault Refusal :=
  if port < 32 ∧ cls < 4 then
    if s.dev.direct (port / 4) (port % 4) && s.dev.portUp port then
      let k := port * 4 + cls
      .next { s with dev := { s.dev with credits := sset 0 s.dev.credits k (sget 0 s.dev.credits k + cells) } }
    else .fault .conditionNotMet
  else .fault .noSuchUnit

/-- The credit a port owes goes out, class by class (R286). -/
def Dev.creditSend (d : Dev) (port : Nat) : Dev :=
  (List.range 4).foldl (fun (d : Dev) c =>
    match sget? d.owed (port * 4 + c) with
    | some n => ({ d with owed := sdel d.owed (port * 4 + c) } : Dev).send (.link port (.credit c n))
    | none => d) d

/-- CREDIT_SEND (R286): a direct-mode port that owes credit. -/
def execCreditSend (port : Nat) (s : State) : Host.Outcome State Fault Refusal :=
  if port < 32 then
    if s.dev.portUp port && (List.range 4).any (fun c => (sget? s.dev.owed (port * 4 + c)).isSome) then
      .next { s with dev := s.dev.creditSend port }
    else .fault .nothingInFlight
  else .fault .noSuchUnit

/-- A PFC pause at a switched-mode port (R286); a direct-mode port does not honour it. -/
def Dev.pfcPause (d : Dev) (port prio quanta : Nat) : Dev :=
  if d.direct (port / 4) (port % 4) then d
  else
    let ps := d.paused.filter (fun x => x != (port, prio))
    let d := { d with paused := if quanta = 0 then ps else ps ++ [(port, prio)] }
    if quanta != 0 && prio == d.fld dWAIN_PCP 2 0 then d.orBits (psOff (port / 4) (port % 4)) 32 else d

/-- PFC_PAUSE_RX (R286): a pause of `quanta` (0: resume) for a priority. -/
def execPfcPauseRx (port prio quanta : Nat) (s : State) : Host.Outcome State Fault Refusal :=
  if port < 32 ∧ prio < 8 then
    if s.dev.portUp port then .next { s with dev := s.dev.pfcPause port prio quanta } else .fault .unpowered
  else .fault .noSuchUnit

/-- KEEPALIVE_RX (R290). -/
def execKeepaliveRx (job rank : Nat) (ok : Bool) (s : State) : Host.Outcome State Fault Refusal :=
  match s.dev.rxRefused job rank 0 ok with
  | some d => .next { s with dev := d }
  | none => .next { s with dev := s.dev.heard job rank }

/-- KEEPALIVE_SEND (R290): 100 µs without an exchange with a rank of the table. -/
def execKeepaliveSend (job rank : Nat) (s : State) : Host.Outcome State Fault Refusal :=
  let c := s.dev.conn job rank 0
  if s.dev.rankValid job rank && !s.dev.rankIsSelf job rank && !s.dev.rankLost job rank &&
      max c.rxPs c.txPs + 100000000 ≤ s.dev.clock.ps then
    .next { s with dev := s.dev.wainPut job rank 0 .keepalive }
  else .fault .conditionNotMet

/-- ECN_WINDOW_GROW (R291): 8 µs without a CE echo. -/
def execEcnWindowGrow (job rank cls : Nat) (s : State) : Host.Outcome State Fault Refusal :=
  let c := s.dev.conn job rank cls
  if cls < 4 then
    if s.dev.fld dWAIN_CTRL 1 1 = 1 ∧ c.growPs + 8000000 ≤ s.dev.clock.ps ∧ s.dev.rankValid job rank = true then
      .next { s with dev := s.dev.setConn job rank cls { c with window := min 4096 (c.window + 16), growPs := s.dev.clock.ps } }
    else .fault .conditionNotMet
  else .fault .noSuchUnit

end Sys2Proof.Machine
end

