-- ==== Sys2Proof/Machine/NetCtl.lean ====
section
/-! DEFINITION. Fences and drains (R333, R334), halts from the network (R292), refusals (R284, R332), lost peers (R290, R335). -/

namespace Sys2Proof.Machine

/-! ## Fences -/

/-- The layout epoch a tile works in. -/
def Tile.epoch (t : Tile) : Nat := t.fld tJOB_IDS 15 0

/-- FENCED reads 1 while a fence stands (R333, R343). -/
def Dev.showFences (d : Dev) : Dev := d.setFld dBND_STATUS 5 5 (b2n (d.fences != []))

/-- The transfers of a job that have not started and that its fences name now are held at the Binder port (R333). -/
def Dev.holdUnstarted (d : Dev) (job : Nat) : Dev :=
  (d.jobTiles job).foldl (fun (d : Dev) p =>
    let e := (d.tile p).epoch
    if d.fenced job e then
      d.onTile p (fun t => { t with xfers := t.xfers.map (fun x =>
        if x.running && x.viaBinder && x.waits != 0 then { x with held := true } else x) })
    else d) d

/-- A fence set on a job (R333). -/
def Dev.fenceJob (d : Dev) (job : Nat) (epoch : Option Nat) (drain : Bool) : Dev :=
  (({ d with fences := d.fences ++ [⟨job, epoch, drain, false⟩] } : Dev).showFences).holdUnstarted job

/-- A transfer ends with a status, whatever its kind. -/
def Dev.endAny (d : Dev) (p : Nat) (f : Xfer) (status : Nat) : Dev :=
  if f.kind = .coll then d.endColl p f status
  else (d.finishXfer p (d.arriveTc (d.tile p)) f status).dropCrossOf p f.flag

/-- A collective that has not closed: a sum without its set; another operation that still runs (R334). -/
def Dev.unclosed (d : Dev) (p : Nat) (f : Xfer) : Bool :=
  f.kind == .coll &&
  (match d.findBucket (f.aux % 64) (f.aux / 64) ((d.tile p).rd tTHR_STEP) with
   | some x => x.included.isNone
   | none => true)

/-- A command that a drain ends, with its record in the Binder log (R334). -/
def Dev.drainOne (d : Dev) (job p : Nat) (f : Xfer) : Dev :=
  let detail := match f.kind with
    | .coll => d.collGid (f.aux % 64) + f.aux / 64 * 2 ^ 16
    | _ => f.aux
  ((d.endAny p f 0x19).orBits dBND_STATUS 16).binderLog (d.stepOf job) job 0x78 0x19 1 ((d.tile p).logical.getD 0x1FF) 0xFFFF detail

/-- A drain ends the held commands of a job and its collectives that have not closed; their contributions go nowhere (R334). -/
def Dev.drainJob (d : Dev) (job : Nat) (epoch : Option Nat) : Dev :=
  let d := d.fenceJob job epoch true
  let d := (d.jobTiles job).foldl (fun (d : Dev) p =>
    if (match epoch with | some e => (d.tile p).epoch == e | none => true) then
      ((d.tile p).xfers.filter (fun x => x.running && (x.held || d.unclosed p x))).foldl (fun (d : Dev) x => d.drainOne job p x) d
    else d) d
  { d with buckets := d.buckets.map (fun x =>
      if d.collReg x.slot dCOLL_JOB == job && x.included.isNone then { x with contrib := [] } else x) }

/-- Nothing of a fenced job's class-1 and class-2 traffic is in flight (R333). -/
def Dev.fenceQuiet (d : Dev) (f : Fence) : Bool :=
  let hit (e : Nat) : Bool := match f.epoch with | some x => x == e | none => true
  d.tiles.all (fun e => e.2.job != f.job || !hit e.2.epoch ||
    e.2.xfers.all (fun x => !(x.running && x.viaBinder && !x.held && x.waits == 0))) &&
  d.conns.all (fun c => c.1 / 2 ^ 17 != f.job || !(c.1 % 4 == 1 || c.1 % 4 == 2) || c.2.unacked == [])

/-- The commands that ask for fences or drains which are all complete are answered ST_OK (R505). -/
def Dev.answerFences (d : Dev) : Dev :=
  let done (c : Cmd) : Bool := c.started && (c.op == 0x0F02 || c.op == 0x0F03) &&
    d.fences.all (fun f => f.complete || !(f.job == c.job || c.job == 0xFFFFFFFF))
  ((d.cmds.filter (fun e => done e.2)).map (·.1)).foldl (fun (d : Dev) k => d.final k 0 0) d

/-- FENCE_COMPLETE (R333): a fence of the job is reported complete once its traffic is quiet. -/
def execFenceComplete (job : Nat) (s : State) : Host.Outcome State Fault Refusal :=
  let d := s.dev
  match d.fences.find? (fun f => f.job == job && !f.complete) with
  | some _ =>
    if d.fences.all (fun f => f.job != job || d.fenceQuiet f) then
      .next { s with dev := ({ d with fences := d.fences.map (fun f => if f.job = job then { f with complete := true } else f) } : Dev).answerFences }
    else .fault .conditionNotMet
  | none => .fault .nothingInFlight

/-- The held commands of a job start, now that nothing fences them (R333). -/
def Dev.startHeld (d : Dev) (job : Nat) : Dev :=
  (d.jobTiles job).foldl (fun (d : Dev) p =>
    ((d.tile p).xfers.filter (fun x => x.running && x.held)).foldl (fun (d : Dev) x =>
      let x' := { x with held := false }
      (d.onTile p (fun t => t.setXfer x x')).startIfReady p x') d) d

/-- The fences of a job lift (R333). -/
def Dev.liftFences (d : Dev) (job : Nat) : Dev :=
  (({ d with fences := d.fences.filter (fun f => f.job != job) } : Dev).showFences).startHeld job

/-! ## Packets from the network (R292) -/

/-- A HALT, FENCE or DRAIN packet that the device may not act on (R292). -/
def Dev.ctlDropped (d : Dev) (job rank : Nat) (ok : Bool) : Option Dev :=
  match d.rxRefused job rank 0 ok with
  | some d' => some ((d'.orBits dWAIN_STATUS 8).binderLog (d'.stepOf job) job (Config.binderReason 0) 0 0 0x1FF rank 0)
  | none => none

/-- HALT_PACKET (R292): a HALT of a job from a rank, whose seal verifies or not. -/
def execHaltPacket (job rank : Nat) (ok : Bool) (s : State) : Host.Outcome State Fault Refusal :=
  match s.dev.ctlDropped job rank ok with
  | some d => .next { s with dev := d }
  | none => .next { s with dev := (s.dev.heard job rank).haltJob job }

/-- FENCE_PACKET (R292, R333): all of the job's traffic, or one epoch's. -/
def execFencePacket (job rank : Nat) (ok : Bool) (epoch : Option Nat) (s : State) : Host.Outcome State Fault Refusal :=
  match s.dev.ctlDropped job rank ok with
  | some d => .next { s with dev := d }
  | none => .next { s with dev := (s.dev.heard job rank).fenceJob job epoch false }

/-- DRAIN_PACKET (R292, R334). -/
def execDrainPacket (job rank : Nat) (ok : Bool) (epoch : Option Nat) (s : State) : Host.Outcome State Fault Refusal :=
  match s.dev.ctlDropped job rank ok with
  | some d => .next { s with dev := d }
  | none => .next { s with dev := (s.dev.heard job rank).drainJob job epoch }

/-! ## Refusals (R246, R272, R332) -/

/-- The owners of kind 1 that the current table gives an element of a tensor (R332). -/
def Dev.ownersOf (d : Dev) (tid i : Nat) : List Nat :=
  ((d.layoutCur.filter (fun y => y.tid == tid && y.kind == 1 && y.first ≤ i && i < y.first + y.count)).map (·.rank)).eraseDups

/-- A remap noted: its ledger entry, its Binder log record, the count of elements (R332, R343). -/
def Dev.noteRemap (d : Dev) (job gid bucket rank n : Nat) : Dev :=
  let d := d.ledgerAdd ⟨0, d.stamp, d.stepOf job, 6, 0, gid, bucket, 0, job, d.selfRank job, rank, 0, 0, 0⟩
  let d := (d.binderLog (d.stepOf job) job 0x74 0x17 1 0x1FF rank (gid + bucket * 2 ^ 16)).bump dBND_REMAPPED n
  d.orBits dBND_STATUS 1

/-- Elements sent to the carry areas of their owners under the current table (R332): kept here where this device owns them. -/
def Dev.remapTo (d : Dev) (job tid step : Nat) (elems : List (Nat × Nat)) : Dev :=
  let ranks := (elems.flatMap (fun e => d.ownersOf tid e.1)).eraseDups
  ranks.foldl (fun (d : Dev) r =>
    let mine := elems.filter (fun e => (d.ownersOf tid e.1).contains r)
    if r = d.selfRank job then d.keepCarry ⟨job, remapGid, 0, step, tid, mine⟩
    else d.message job r 1 0x1FF (.data mine.length)) d

/-- A contribution refused as of the previous epoch (R332). -/
def Dev.remapBucket (d : Dev) (job rank : Nat) (x : Bucket) : Dev :=
  (d.remapTo job x.tid (x.step + 1) x.contrib).noteRemap job (d.collGid x.slot) x.bucket rank x.contrib.length

/-- A contribution refused as of an older epoch is dropped (R332). -/
def Dev.staleDrop (d : Dev) (job rank : Nat) (x : Bucket) : Dev :=
  let d := d.ledgerAdd ⟨0, d.stamp, x.step, 2, 2, d.collGid x.slot, x.bucket, 0, job, d.selfRank job, rank, 0, 0, 3⟩
  (d.binderLog (d.stepOf job) job 0x75 0x17 1 0x1FF rank (d.collGid x.slot + x.bucket * 2 ^ 16)).orBits dBND_STATUS 1

/-- What a REFUSE concerns (R241, R246, R272, R332): 0 the contribution of group slot `a` and bucket `b` formed under epoch `c`;
1 the transfer of physical tile `a` under flag `b`; 2 the round of barrier slot `a`; 3 the push of tile `a` on ring `b`. -/
def Dev.refuseRx (d : Dev) (job rank status kind a b c : Nat) : Option Dev :=
  if kind = 0 then
    match d.buckets.find? (fun x => x.slot == a && x.bucket == b && d.collReg a dCOLL_JOB == job) with
    | some x =>
      if c = d.fld dLAYOUT_EPOCH 15 0 then none
      else if c = d.fld dLAYOUT_EPOCH 31 16 ∧ d.fld dLAYOUT_PREV 31 31 = 1 then some (d.remapBucket job rank x)
      else some (d.staleDrop job rank x)
    | none => none
  else if kind = 1 then
    ((d.tile a).xfers.find? (fun x => x.running && x.flag == some b && (x.kind == .dmaIn || x.kind == .dmaOut) && x.viaBinder &&
      x.waits == 0 && !x.held)).map (fun x =>
        (d.binderLog (d.stepOf job) job (Config.binderReason 1) status 1 ((d.tile a).logical.getD 0x1FF) rank b).endAny a x status)
  else if kind = 2 then if a < 64 ∧ d.barReg a dBAR_JOB = job then some (d.barRefused a) else none
  else ((d.tile a).xfers.find? (fun x => x.running && x.kind == .push && x.aux % 16 == b && x.waits == 0 && !x.held)).map
    (fun x => d.endAny a x status)

/-- REFUSE_RX (R332): a REFUSE of a rank reaches its sender. -/
def execRefuseRx (job rank status kind a b c : Nat) (s : State) : Host.Outcome State Fault Refusal :=
  match s.dev.rxRefused job rank 0 true with
  | some d => .next { s with dev := d }
  | none =>
    match (s.dev.heard job rank).refuseRx job rank status kind a b c with
    | some d => .next { s with dev := d }
    | none => .fault .nothingInFlight

/-! ## Lost peers -/

/-- A transfer is to or from a rank of a job (R290, R335). -/
def Dev.xferNames (d : Dev) (t : Tile) (f : Xfer) (job rank : Nat) : Bool :=
  t.job == job &&
  (match f.kind with
   | .coll => (d.collRanks (f.aux % 64)).contains rank
   | .push => bits (d.ringReg (f.aux % 16) dRING_PEERS) 30 16 == rank
   | _ => f.viaBinder && eArgs f.entry.toNat 31 17 == rank)

/-- The transfers of a job that a lost rank ends. -/
def Dev.lostXfers (d : Dev) (job rank : Nat) : List (Nat × Xfer) :=
  d.tiles.flatMap (fun e => (e.2.xfers.filter (fun x => x.running && d.xferNames e.2 x job rank)).map (fun x => (e.1, x)))

/-- LOST set in a rank's entry. -/
def Dev.markLost (d : Dev) (job rank : Nat) : Dev :=
  match d.rankEntry job rank with
  | some n => d.wr (dRANK_CFG + 0x40 * n) (d.rankCfg job rank ||| 4)
  | none => d

/-- A peer is declared lost (R274, R290, R335). -/
def Dev.losePeer (d : Dev) (job rank : Nat) : Dev :=
  let d := (d.markLost job rank).orBits dWAIN_STATUS 1
  let xs := d.lostXfers job rank
  let d := xs.foldl (fun (d : Dev) x => d.endAny x.1 x.2 0x41) d
  let d := { d with conns := d.conns.filter (fun c => c.1 / 4 != job * 2 ^ 15 + rank % 2 ^ 15) }
  let d := if xs.any (fun x => x.2.kind == .coll) then
      (d.orBits dBND_STATUS 8).binderLog (d.stepOf job) job 0x77 0x41 1 0x1FF rank 0
    else d
  let d := d.ledgerOwn job 4 rank 0
  let d := d.errRecord { type := 15, status := 0x41, cls := 12, unit := rank, job := job, step := d.stepOf job }
  d.lostHalt job

/-- PEER_LOSS in ps (R304). -/
def Dev.peerLossPs (d : Dev) : Nat := max 1 (d.fld dWAIN_TIMERS 31 16) * 100000000

/-- The time from which PEER_LOSS counts for a rank: its oldest unacknowledged packet, or the latest packet from it (R290). -/
def Dev.lossFrom (d : Dev) (job rank : Nat) : Nat :=
  let first := ((List.range 4).flatMap (fun c => ((d.conn job rank c).unacked.map (·.first)))).foldl min d.clock.ps
  min first ((List.range 4).foldl (fun m c => max m (d.conn job rank c).rxPs) 0)

/-- PEER_LOSS (R290): the time runs out for a rank of a running job that is not lost yet. -/
def execPeerLoss (job rank : Nat) (s : State) : Host.Outcome State Fault Refusal :=
  let d := s.dev
  if d.jobRuns job && d.rankValid job rank && !d.rankIsSelf job rank && !d.rankLost job rank then
    .next { s with dev := (d.advancePs (d.lossFrom job rank + d.peerLossPs)).losePeer job rank }
  else .fault .conditionNotMet

end Sys2Proof.Machine
end

