-- ==== Sys2Proof/Machine/Release.lean ====
section
/-! DEFINITION. The release of a step (R35 position 5; R110, R120, R229, R240, R244, R333, R375, R376, R405), and the repeat of
one (R36, R327). -/

namespace Sys2Proof.Machine

/-! ## Escape areas (R88, R509) -/

/-- Bytes of a logical tile's escape area. -/
def escBytes (slots : Nat) : Nat := ((12352 + slots) * 80 + 4095) / 4096 * 4096

/-! ## What a release waits for -/

/-- The logical tiles that a mask names. -/
def maskTiles (m : Nat) : List Nat := (List.range 256).filter (fun l => m.testBit l)

/-- A logical tile of the job is mapped to no physical tile (R384). -/
def Dev.lacksTile (d : Dev) (j : Job) : Bool := (maskTiles j.tiles).any (fun l => (d.physOf l).isNone)

/-- A tile can be triggered for a step: enabled, idle or done, and no armed switch waits for a load (R184, R194, R199). -/
def Tile.canStart (t : Tile) : Bool := t.enabled && (t.state == stIDLE || t.state == stDONE) && !t.switchWait

/-- No run of the job is under way and nothing holds the next release back (R35, R194, R371, R384). -/
def Dev.mayRelease (d : Dev) (j : Job) : Bool :=
  !j.running && !j.rebuild && !d.lacksTile j && (d.jobTiles j.id).all (fun p => (d.tile p).canStart)

/-! ## Clearing -/

/-- The fields of a tile that a release clears (R111, R128, R229): flags 0 to 42, every count, the barrier arrival, the
accumulators; the transfers whose flags no wait has consumed are forgotten with their flags. -/
def Tile.clearStep (t : Tile) (n : Nat) (rep : Bool) : Tile :=
  let t := (t.wr tFLAGS_LO 0).wr tFLAGS_HI (t.rd tFLAGS_HI &&& 0x800)
  let t := (List.range 40).foldl (fun (t : Tile) f => t.wr (tFLAG_COUNT + 4 * f) 0) t
  let t := ((t.wr tBAR_TILE 0).wr tTHR_STEP n).wr tDMA_OUTSTANDING 0
  { t with flagTc := [], fp := [], sc := [], xfers := [], rep := rep, verify := false, barStop := false }

/-- The Reeve's copy of the table that the run starts from. -/
def Tile.saveStart (t : Tile) : Tile :=
  let b := t.bank
  { t with start := some ⟨b, t.entries.filter (fun e => e.1 / 4096 == b), t.rd (tTBL_META + 16 * b), t.rd (tTBL_META_NUM + 16 * b),
                          t.rd (tTBL_META_ENT + 16 * b), t.ready (1 - b)⟩ }

/-- The job's barrier slots at ROUND 0 without arrivals (R229, R240, R242). -/
def Dev.clearBarriers (d : Dev) (id : Nat) : Dev :=
  ((List.range 64).filter (fun b => d.barValid b && d.barReg b dBAR_JOB == id)).foldl (fun (d : Dev) b =>
    { (d.setBarState b 0 0).wr (dBAR_HOME_ARRIVED + 0x40 * b) 0 with
      barRanks := sdel d.barRanks b, barSent := sdel d.barSent b }) d

/-- The job's rings empty, slots still full counted as left over (R244). -/
def Dev.clearRings (d : Dev) (id : Nat) : Dev :=
  (d.rings.filter (fun r => d.ringReg r dRING_JOB == id)).foldl (fun (d : Dev) r =>
    let d := d.bump (dRING_LEFTOVER + 0x40 * r) (d.ringFull r)
    ({ d with ringK := sdel d.ringK r } : Dev).setRing r (d.ringN r) 0 0 false) d

/-- Messages of a job within the device that the end of its run leaves behind. -/
def Dev.clearInner (d : Dev) (id : Nat) : Dev := { d with inner := d.inner.filter (fun m => m.1 != id) }

/-! ## The Winnower's sample (R375, R376, R381) -/

/-- The free spares, in ascending order (R382). -/
def Dev.freeSpares (d : Dev) : List Nat := (List.range 272).filter (fun p => d.fld (dPHYS_STATE + 4 * p) 2 0 == 1)

/-- The state of a physical tile in the repair table. -/
def Dev.setPhys (d : Dev) (p n : Nat) : Dev := d.wr (dPHYS_STATE + 4 * p) n

/-- The logical tiles of a job that a step samples, in ascending order; those ordered again come with them (R375, R380). -/
def Dev.sampleOf (d : Dev) (j : Job) (n : Nat) : List Nat :=
  let k := 2 ^ min 8 (d.fld dWNW_CTRL 5 2)
  (maskTiles j.tiles).filter (fun l => (l + n + j.offset) % k == 0 || j.again.contains l)

/-- The verifier loaded with the sampled tile's state (R376). -/
def Dev.loadVerifier (d : Dev) (j : Job) (u i : Nat) (phys verifier : Nat) : Dev :=
  let t := d.tile phys
  let area := d.fld dWNW_AREA_BASE 28 0 * 4096 + (1 + d.fld dWNW_CTRL 15 8) * 0x400000 + i * escBytes j.escSlots
  let d := d.onTile verifier (fun v =>
    let b := t.bank
    let regs := [tNUM_CTRL, tESC_SLOTS, tESC_NEXT, tTHR_KEYS, tTHR_STEP, tJOB_IDS, tTBL_META + 16 * b, tTBL_META_NUM + 16 * b,
      tTBL_META_ENT + 16 * b] ++ (List.range 8).map (fun k => tTHR_KCV + 4 * k)
    let v := regs.foldl (fun (v : Tile) o => v.wr o (t.rd o)) v
    let v := (v.wr tESC_BASE (area / 4096)).setFld tSEQ_STATUS 3 3 b
    { v with entries := t.entries.filter (fun e => e.1 / 4096 == b), entryErr := [], desc := t.desc, descErr := [], keys := t.keys,
             pocket := t.pocket, vregs := t.vregs, hist := [], cache := [], verify := true, rep := t.rep, logical := t.logical,
             shadow := some area })
  let m := Mirror.mk j.id (t.logical.getD 0) phys verifier 272 0 0 (0, 0)
  let d := d.setPhys verifier 2
  if u < 4 then { d with mirrors := d.mirrors ++ [m] } else d

/-- The tiles that mirror a job in full mode: enabled tiles that stand for a logical tile outside it (R381; log entry 78). -/
def Dev.fullPartners (d : Dev) (j : Job) : List Nat :=
  ((List.range d.gradeTiles).filter (fun l => !j.tiles.testBit l)).filterMap d.physOf

/-- The mirrors of a step set up before its release (R375, R376, R381). -/
def Dev.prepareWinnower (d : Dev) (u : Nat) (j : Job) (n : Nat) : Dev :=
  let mode := d.fld dWNW_CTRL 1 0
  if mode = 2 then
    let ls := (maskTiles j.tiles).filterMap d.physOf
    let d := ((ls.zip (d.fullPartners j)).zipIdx).foldl (fun (d : Dev) x => d.loadVerifier j u (x.2 % 16) x.1.1 x.1.2) d
    (d.setFld dWNW_STATUS 0 0 0).setFld dWNW_STATUS 6 2 (min 16 ls.length)
  else if mode = 1 then
    let fs := d.freeSpares
    let ls := d.sampleOf j n
    let take := if fs.length < 2 then 0 else min (min (fs.length - 1) 16) ls.length
    let ps := (ls.take take).filterMap d.physOf
    let d := ((ps.zip fs).zipIdx).foldl (fun (d : Dev) x => d.loadVerifier j u x.2 x.1.1 x.1.2) d
    let d := if take = 0 then d
      else { d.setPhys (fs.getD take 0) 2 with
        mirrors := d.mirrors.map (fun m => if m.job == j.id then { m with voter := fs.getD take 272 } else m) }
    let d := (d.setFld dWNW_STATUS 0 0 (b2n (fs.length < 2))).setFld dWNW_STATUS 6 2 take
    d.bump dWNW_SKIPPED (ls.length - take)
  else (d.setFld dWNW_STATUS 0 0 0).setFld dWNW_STATUS 6 2 0

/-! ## The release -/

/-- The snapshot flag set on every tile of a job (R405, R411). -/
def Dev.setSnapFlag (d : Dev) (u id : Nat) : Dev :=
  (d.jobTiles id).foldl (fun (d : Dev) p =>
    d.setFlagsAt p (d.arriveTc (d.tile p)) (d.tile p).pcMark [d.fld (slotReg dSNAP_CFG u) 21 16]) d

/-- A snapshot of the start of step `n` is due (R412). -/
def Dev.snapshotDue (d : Dev) (u : Nat) (j : Job) (n : Nat) : Bool :=
  let every := d.fld (slotReg dSNAP_CFG u) 15 0
  j.snapNow || (every != 0 && n % every == 0)

/-- Step `n` of the job in slot `u` is released: everything a release clears, the sample, the snapshot flag, and the trigger of
every tile (R35, R111, R120, R128, R229, R240, R244, R333, R376, R405). -/
def Dev.release (d : Dev) (u : Nat) (j : Job) (n cursor : Nat) (cmd : Option Nat) (rep : Bool) : Dev :=
  let id := j.id
  let due := if rep then j.snapDue else d.snapshotDue u j n
  let d := { d with
    stepRec := d.stepRec.filter (fun r => r.job != id)
    mirrors := d.mirrors.filter (fun m => m.job != id)
    xferRecs := d.xferRecs.filter (fun r => (d.tile r.tile).job != id)
    buckets := d.buckets.filter (fun x => d.collReg x.slot dCOLL_JOB != id)
    jobs := sput d.jobs u { j with step := n, cursor := cursor, cmd := cmd, running := true, abandoned := false, sealed := false,
                                   halted := false, snapNow := j.snapNow && rep, snapDue := due } }
  let d := (d.jobTiles id).foldl (fun (d : Dev) p => d.onTile p (fun t => (t.clearStep n rep).saveStart)) (d.clearInner id)
  let d := (((d.clearBarriers id).clearRings id).liftFences id).answerFences
  let d := d.prepareWinnower u j n
  let d := if j.committed then d.setSnapFlag u id else d
  (d.jobTiles id).foldl (fun (d : Dev) p => d.triggerTile p) d

/-- The REPEAT entry of a repeated step, and the decisions that the abandoned run has recorded, which the repeat honours (R327,
R36). -/
def Dev.honourRun (d : Dev) (j : Job) : Dev :=
  let d := d.ledgerOwn j.id 5 j.rank j.cause
  { d with honoured := d.honoured ++ d.ledger.filter (fun e => e.job == j.id && e.step == j.step && (e.type == 1 || e.type == 2) &&
      !d.honoured.contains e) }

/-- The Reeve puts the table of the run's start back and leaves the tile idle after a reset, for a repeat (R153, R194, R370;
log entry 77). -/
def Dev.rewindTile (d : Dev) (p : Nat) : Dev :=
  let old := d.tile p
  let d := if old.state = stSTOPPED ∨ old.state = stHALTED then d.tileReset p else d
  match old.start with
  | none => d
  | some s =>
    d.onTile p (fun t =>
      let b := s.bank
      let o := 1 - b
      let t := { t with entries := s.entries.foldl (fun (m : Sparse (BitVec 256)) (e : Nat × BitVec 256) => sput m e.1 e.2) (old.entries.filter (fun e => e.1 / 4096 != b))
                        entryErr := old.entryErr.filter (fun e => e.1 / 8192 != b) }
      let t := ((t.wr (tTBL_META + 16 * b) s.prog).wr (tTBL_META_NUM + 16 * b) s.num).wr (tTBL_META_ENT + 16 * b) s.ents
      let t := ((t.wr (tTBL_META + 16 * o) (old.rd (tTBL_META + 16 * o))).wr (tTBL_META_NUM + 16 * o)
        (old.rd (tTBL_META_NUM + 16 * o))).wr (tTBL_META_ENT + 16 * o) (old.rd (tTBL_META_ENT + 16 * o))
      ((((t.setFld tSEQ_STATUS 3 3 b).setReady b false).setReady o (s.other || old.ready o)).setFld tSEQ_STATUS 6 6
        (old.fld tSEQ_STATUS 6 6)).setState stIDLE)

/-- The next release of a job, if it may come: the repeat of an abandoned run, or the oldest step held (R35, R36). -/
def Dev.tryRelease (d : Dev) (id : Nat) : Dev :=
  match d.jobSlot id, d.jobById id with
  | some u, some j =>
    if !d.mayRelease j then d
    else if j.abandoned then (d.release u j j.step j.cursor j.cmd true).honourRun j
    else
      match j.held with
      | k :: rest =>
        match sget? d.cmds k with
        | some c => d.release u { j with held := rest } (c.body 0 4) (c.body 4 8) (some k) false
        | none => d.onJob id (fun j => { j with held := rest })
      | [] => d
  | _, _ => d

end Sys2Proof.Machine
end

