-- ==== Sys2Proof/Machine/Telemetry.lean ====
section
/-! DEFINITION. Commands that run and are answered, and telemetry (R512, R513), register access and clock commands of space
0x03 (R297, R301, R305, R497). -/

namespace Sys2Proof.Machine

/-! ## Running a command -/

/-- Command `k` of an opcode runs: it has been taken, has not started, and waits for no other (R499, R503). -/
def runCmd (op k : Nat) (s : State) (f : Dev → Cmd → Dev) : Host.Outcome State Fault Refusal :=
  match sget? s.dev.cmds k with
  | none => .fault .nothingInFlight
  | some c =>
    if c.op = op ∧ c.started = false ∧ s.dev.mustWait k c = false then .next { s with dev := f (s.dev.begin k) c }
    else .fault .conditionNotMet

/-- A command whose outcome is known at once: the final reply with its status and result (R500). -/
def runDone (op k : Nat) (s : State) (f : Dev → Cmd → Dev × Nat × Nat) : Host.Outcome State Fault Refusal :=
  runCmd op k s (fun d c => let r := f d c; r.1.final k r.2.1 r.2.2)

/-! ## Telemetry -/

/-- A register of telemetry stream `k`. -/
def Dev.tsReg (d : Dev) (k off : Nat) : Nat := d.rd (off + 0x200 * k)

/-- The values of a stream's list, read in order through its own latches (R498, R512). -/
def Dev.tsValues (d : Dev) (k : Nat) : Dev × List Byte :=
  (List.range (bits (d.tsReg k dTS_CTRL) 13 7)).foldl (fun (r : Dev × List Byte) i =>
    let v := r.1.readReg (2 + k) (bits (r.1.tsReg k (dTS_REG + 4 * i)) 25 2 * 4)
    (v.1, r.2 ++ leBytes 4 v.2)) (d, [])

/-- A record of a stream (R512), padded to a multiple of 64 bytes. -/
def Dev.tsRecord (d : Dev) (k : Nat) (late : Bool) : Dev × List Byte :=
  let r := d.tsValues k
  let bs := leBytes 8 d.stamp ++ leBytes 4 (d.tsReg k dTS_SEQ) ++ leBytes 2 (bits (d.tsReg k dTS_CTRL) 13 7) ++ leBytes 1 k ++
    leBytes 1 (b2n late) ++ r.2
  (r.1, bs ++ List.replicate ((64 - bs.length % 64) % 64) 0)

/-- A sample of an active stream (R512). -/
def Dev.tsSample (d : Dev) (k : Nat) (late : Bool) : Dev :=
  let r := d.tsRecord k late
  let d := r.1
  let n := 2 ^ bits (d.tsReg k dTS_CTRL) 6 2
  let tail := bits (d.tsReg k dTS_TAIL) 15 0
  let d := d.bump (dTS_SEQ + 0x200 * k) 1
  if (tail + 1) % n = bits (d.tsReg k dTS_HEAD) 15 0 % n then d.bump (dTS_LOST + 0x200 * k) 1
  else
    let d := d.hostWrite (d.tsReg k dTS_BASE_LO + d.tsReg k dTS_BASE_HI * 2 ^ 32 + r.2.length * tail) r.2
    let d := d.wr (dTS_TAIL + 0x200 * k) ((tail + 1) % n)
    if bit (d.tsReg k dTS_CTRL) 1 then d.raise 18 else d

/-- TS_SAMPLE_TICK (R512): the period of an active stream expires; `late` that the write before was still pending. -/
def execTsSampleTick (k : Nat) (late : Bool) (s : State) : Host.Outcome State Fault Refusal :=
  if k < 6 then
    if !s.dev.endpoint then .fault .unpowered
    else if bit (s.dev.tsReg k dTS_CTRL) 0 then .next { s with dev := s.dev.tsSample k late }
    else .fault .conditionNotMet
  else .fault .noSuchUnit

/-- TELEM_SAMPLE (R513): one record of a stream's list into the command's buffer. -/
def execTelemSample (k : Nat) (s : State) : Host.Outcome State Fault Refusal :=
  runDone 0x0901 k s (fun d c =>
    if c.body 12 1 < 6 then
      let r := d.tsRecord (c.body 12 1) false
      (r.1.putBuf c r.2, 0x00, 0)
    else (d, 0x11, 0))

/-! ## Space 0x03 -/

/-- REG_READ (R498): a register through the Reeve's relay. An offset beyond BAR0 is no register. -/
def execRegRead (k : Nat) (s : State) : Host.Outcome State Fault Refusal :=
  runDone 0x0301 k s (fun d c =>
    if c.body 0 4 < barEnd ∧ c.body 0 4 % 4 = 0 then
      let r := d.readReg 1 (c.body 0 4)
      (r.1, 0x00, r.2)
    else (d, 0x11, 0))

/-- REG_WRITE (R497, R508): bits with mask 0 are written as read. -/
def execRegWrite (k : Nat) (s : State) : Host.Outcome State Fault Refusal :=
  runDone 0x0302 k s (fun d c =>
    let off := c.body 0 4
    if off < barEnd ∧ off % 4 = 0 then
      let m := c.body 8 4
      let old := d.peek off
      let r := d.writeAny off ((c.body 4 4 &&& m) ||| (old &&& (0xFFFFFFFF - m)))
      (r.1, r.2, 0)
    else (d, 0x11, 0))

/-- The ports that exist in the engines' modes, as a mask over all 32 (R279). -/
def Dev.portsMask (d : Dev) : Nat :=
  (List.range 8).foldl (fun m e => (d.enginePorts e).foldl (fun m j => m ||| 2 ^ (4 * e + j)) m) 0

/-- One rank-table entry written from its 64 bytes (R305). -/
def Dev.putRank (d : Dev) (n : Nat) (bs : List Byte) : Dev :=
  let w (o : Nat) : Nat := leNat ((bs.drop o).take 4)
  let b := 0x40 * n
  let d := (d.wr (dRANK_CFG + b) (w 0 &&& 0x1F7)).wr (dRANK_PORTS + b) (w 4)
  let d := (List.range 4).foldl (fun (d : Dev) i => d.wr (dRANK_IP + b + 4 * i) (w (0x10 + 4 * i))) d
  (d.wr (dRANK_MAC_LO + b) (w 0x20)).wr (dRANK_MAC_HI + b) (w 0x24 % 2 ^ 16)

/-- An entry names ports that its engines' modes do not have (R279). -/
def Dev.rankBad (d : Dev) (bs : List Byte) : Bool :=
  let w (o : Nat) : Nat := leNat ((bs.drop o).take 4)
  w 4 &&& (0xFFFFFFFF ^^^ d.portsMask) != 0 || (bit (w 0) 0 && !bit (w 0) 1 && !bit d.portsMask (bits (w 0) 8 4))

/-- The entries of a RANK_SET buffer. -/
def chunks64 (n : Nat) (bs : List Byte) : List (List Byte) := (List.range n).map (fun i => (bs.drop (64 * i)).take 64)

/-- RANK_SET (R305): entries of the rank table; the job's slot reaches them by the BASE and COUNT it is given (log entry 76). -/
def Dev.rankSet (d : Dev) (c : Cmd) : Dev × Nat × Nat :=
  let first := c.body 12 2
  let n := c.body 14 2
  let es := chunks64 n c.buf
  match (List.range 4).find? (fun u => match sget? d.jobs u with | some j => j.id == c.job | none => false) with
  | none => (d, 0x11, 0)
  | some u =>
    if 32768 < first + n ∨ c.buf.length < 64 * n ∨ es.any d.rankBad then (d, 0x11, 0)
    else
      let d := (es.zipIdx first).foldl (fun (d : Dev) e => d.putRank e.2 e.1) d
      let w := d.rd (dJOB_RANKS_HI + 8 * u)
      let base := bits w 14 0
      let cnt := bits w 30 15
      let grows := d.rd (dJOB_RANKS + 8 * u) == c.job && cnt != 0 && base ≤ first && first ≤ base + cnt
      let d := (d.wr (dJOB_RANKS + 8 * u) c.job).wr (dJOB_RANKS_HI + 8 * u)
        (if grows then base + max cnt (first + n - base) * 2 ^ 15 else first + n * 2 ^ 15)
      (d, 0x00, 0)

/-- RANK_SET (R305). -/
def execRankSet (k : Nat) (s : State) : Host.Outcome State Fault Refusal := runDone 0x0303 k s Dev.rankSet

/-- LASER_SWAP (R297): phase 0 starts a swap, phase 1 enables the module. The two rows share the opcode 0x0304. -/
def Dev.laserCmd (d : Dev) (c : Cmd) (phase : Nat) : Dev × Nat × Nat :=
  let m := c.body 0 1
  if m < 4 then
    let r := if phase = 0 then d.laserSwapStart m else d.laserSwapEnable m
    (r.1, r.2, 0)
  else (d, 0x11, 0)

/-- A LASER_SWAP command of the phase that a row stands for. A phase that R508 does not list answers ST_BAD_PARAM in the row of
phase 1. -/
def runLaser (phase k : Nat) (s : State) : Host.Outcome State Fault Refusal :=
  match sget? s.dev.cmds k with
  | none => .fault .nothingInFlight
  | some c =>
    if (c.body 1 1 == 0) = (phase == 0) then
      runDone 0x0304 k s (fun d c => if c.body 1 1 ≤ 1 then d.laserCmd c phase else (d, 0x11, 0))
    else .fault .conditionNotMet

/-- LASER_SWAP_START (R297). -/
def execLaserSwapStart (k : Nat) (s : State) : Host.Outcome State Fault Refusal := runLaser 0 k s
/-- LASER_SWAP_ENABLE (R297). -/
def execLaserSwapEnable (k : Nat) (s : State) : Host.Outcome State Fault Refusal := runLaser 1 k s

/-- The time of day set (R301, R304): a jump beyond 1 ms is recorded. -/
def Dev.timeSet (d : Dev) (ns : Nat) : Dev :=
  let old := d.ptpNs
  let d := (d.setPtp (ns % 2 ^ 63)).setFld dPTP_STATUS 4 4 1
  if 1000000 < ((ns % 2 ^ 63 : Nat) - (old : Int)).natAbs then (d.orBits dPTP_STATUS 8).timeRecord old (ns % 2 ^ 63) else d

/-- TIME_SET (R301). -/
def execTimeSet (k : Nat) (s : State) : Host.Outcome State Fault Refusal :=
  runDone 0x0305 k s (fun d c => (d.timeSet (c.body 0 8), 0x00, 0))

end Sys2Proof.Machine
end

