-- ==== Sys2Proof/Machine/JobStart.lean ====
section
/-! DEFINITION. JOB_START: the job descriptor, its checks and what the start of a job writes (R70, R118, R119, R338, R349, R400,
R417, R447, R449, R509, R510). -/

namespace Sys2Proof.Machine

/-! ## The descriptor (R509) -/

/-- The items of a descriptor: IDs and values; none where an item is cut short. -/
def parseItems : Nat → List Byte → Option (List (Nat × List Byte))
  | 0, _ => none
  | _, [] => some []
  | f + 1, bs =>
    let n := leNat ((bs.drop 2).take 2)
    let m := (n + 3) / 4 * 4
    if bs.length < 4 + m then none
    else (parseItems f (bs.drop (4 + m))).map (fun r => (leNat (bs.take 2), (bs.drop 4).take n) :: r)

/-- An item's value. -/
def itemOf (is : List (Nat × List Byte)) (id : Nat) : Option (List Byte) := (is.find? (fun i => i.1 == id)).map (·.2)

/-- A field of a value. -/
def valAt (bs : List Byte) (o n : Nat) : Nat := leNat ((bs.drop o).take n)

/-- Bits set in a byte. -/
def ones8 (m : Nat) : List Nat := (List.range 8).filter (fun k => m.testBit k)

/-- The length an item must have. -/
def itemLenOk (id : Nat) (v : List Byte) : Bool :=
  match id with
  | 0x1 => v.length == 32
  | 0x2 => v.length == 2
  | 0x3 => v.length == 4 + 16 * (ones8 (valAt v 0 1)).length
  | 0x4 => v.length == 12
  | 0x5 => 4 ≤ v.length && v.length == 4 + 12 * valAt v 0 4
  | 0x6 => v.length == 12
  | 0x7 => v.length == 8
  | 0x8 => v.length % 128 == 0 && v.length ≤ 64 * 128
  | 0x9 => v.length == 4
  | 0xA => v.length == 4
  | 0xB => v.length == 32
  | 0xC => v.length == 8
  | 0xD => v.length == 4
  | _ => false

/-- The items of a descriptor, where every ID is known, none is repeated, each has its length, and the required ones are there. -/
def jobItems (bs : List Byte) : Option (List (Nat × List Byte)) :=
  if 65536 < bs.length then none
  else
    match parseItems (bs.length + 1) bs with
    | none => none
    | some is =>
      if is.all (fun i => itemLenOk i.1 i.2) && (is.map (·.1)).eraseDups.length == is.length &&
          [1, 2, 3, 4, 5, 6].all (fun id => (itemOf is id).isSome) then some is
      else none

/-- A descriptor's items in the form the start uses. -/
structure JobDesc where
  tiles : Nat
  num : Nat
  rev : Nat
  keys : List (Nat × Nat)
  escBase : Nat
  escSlots : Nat
  regions : List (Nat × Nat)
  biBase : Nat
  biChunks : Nat
  snap : Option (Nat × Nat × Nat)
  groups : List (List Byte)
  plan : Nat
  width : Nat
  rank : Nat
  ranks : Nat
  binder : Option (List Byte)
  winnower : Option Nat
  first : Nat
  deriving DecidableEq, Repr

/-- Values of 128 bytes. -/
def chunks128 (bs : List Byte) : List (List Byte) := (List.range (bs.length / 128)).map (fun i => (bs.drop (128 * i)).take 128)

/-- The descriptor that items spell. -/
def JobDesc.ofItems (is : List (Nat × List Byte)) : JobDesc :=
  let v (id : Nat) : List Byte := (itemOf is id).getD []
  let kv := v 3
  { tiles := valAt (v 1) 0 32
    num := valAt (v 2) 0 1
    rev := valAt (v 2) 1 1
    keys := (ones8 (valAt kv 0 1)).zipIdx.map (fun k => (k.1, valAt kv (4 + 16 * k.2) 16))
    escBase := valAt (v 4) 0 8
    escSlots := min 1048576 (valAt (v 4) 8 4)
    regions := (List.range (valAt (v 5) 0 4)).map (fun i => (valAt (v 5) (4 + 12 * i) 8, valAt (v 5) (12 + 12 * i) 4))
    biBase := valAt (v 6) 0 8
    biChunks := valAt (v 6) 8 4
    snap := (itemOf is 7).map (fun b => (valAt b 0 2, valAt b 2 1, valAt b 4 4))
    groups := chunks128 (v 8)
    plan := valAt (v 9) 0 1
    width := valAt (v 9) 2 2
    rank := valAt (v 10) 0 2
    ranks := match itemOf is 10 with | some b => valAt b 2 2 | none => 1
    binder := itemOf is 11
    winnower := (itemOf is 12).map (fun b => valAt b 0 8)
    first := valAt (v 13) 0 4 }

/-! ## The checks -/

/-- A binary32 code above 0. -/
def fp32Pos (c : Nat) : Bool := 0 < c && c < 0x7F800000
/-- A finite binary32 code. -/
def fp32Finite (c : Nat) : Bool := bits c 30 23 != 255
/-- A binary32 code in [0, 1). -/
def fp32Unit (c : Nat) : Bool := c < 0x3F800000 || c == 0x80000000

/-- A parameter-group entry that R349 refuses. -/
def groupBad (g : List Byte) : Bool :=
  let f (o n : Nat) := valAt g o n
  let prog := f 0 1
  let flags := f 2 1
  prog != 0xFF &&
  (3 < prog || 4 < f 1 1 || 128 ≤ flags || bits flags 5 4 == 3 || !([0, 1, 2, 3, 4, 6, 0xFF].contains (f 3 1)) ||
   ([4, 8, 20, 24, 28, 32, 36, 40, 44, 48, 60, 64, 68, 72].any (fun o => !fp32Finite (f o 4))) ||
   !fp32Unit (f 24 4) || !fp32Unit (f 28 4) ||
   (prog == 1 && !fp32Pos (f 32 4)) || (prog == 2 && !(fp32Pos (f 44 4) && fp32Pos (f 48 4))) || (prog == 3 && !fp32Pos (f 72 4)) ||
   f 52 2 == 0 ||
   (prog == 2 && !(1 ≤ f 54 1 && f 54 1 ≤ 64 && 256 ≤ f 56 2 && f 56 2 ≤ 8192)) || (prog == 3 && !(1 ≤ f 54 1 && f 54 1 ≤ 32)) ||
   ((f 1 1 == 2 || f 1 1 == 4) && f 16 4 == 0))

/-- An area lies in the data part of one of a tenant's partitions (R449); an empty one does. -/
def Dev.areaOk (d : Dev) (tenant a n : Nat) : Bool := n == 0 || d.inData tenant a (a + n)

/-- How far regions cover addresses from `a` up. -/
def coveredTo (rs : List (Nat × Nat)) : Nat → Nat → Nat
  | 0, a => a
  | n + 1, a =>
    match rs.find? (fun r => r.1 ≤ a && a < r.1 + chunkBytes * r.2) with
    | some r => coveredTo rs n (r.1 + chunkBytes * r.2)
    | none => a

/-- Regions cover a range. -/
def covers (rs : List (Nat × Nat)) (a n : Nat) : Bool := n == 0 || a + n ≤ coveredTo rs (rs.length + 1) a

/-- A range meets one of the regions. -/
def meets (rs : List (Nat × Nat)) (a n : Nat) : Bool := n != 0 && rs.any (fun r => a < r.1 + chunkBytes * r.2 && r.1 < a + n)

/-- The areas that the regions must cover: escape areas, carry area, ledger area (R400, R509). -/
def JobDesc.covered (j : JobDesc) : List (Nat × Nat) :=
  let a := escBytes j.escSlots
  (maskTiles j.tiles).map (fun l => (j.escBase + l * a, a)) ++
  (match j.binder with
   | some b => [(valAt b 10 8, valAt b 18 2 * 2 ^ 20), (valAt b 20 8, 64 * valAt b 28 4)]
   | none => [])

/-- The areas that the regions must not meet: before-images, staging, Winnower area (R400, R509). -/
def JobDesc.apart (d : Dev) (j : JobDesc) : List (Nat × Nat) :=
  [(j.biBase, chunkBytes * j.biChunks)] ++
  (match j.binder with | some b => [(valAt b 0 8, valAt b 8 2 * 2 ^ 20)] | none => []) ++
  (match j.winnower with
   | some w => [(w, (1 + d.fld dWNW_CTRL 15 8) * 0x400000 + 16 * escBytes j.escSlots)]
   | none => [])

/-- Silo extents of 1 GiB that a job's two images need (R413, R417; log entry 79). -/
def JobDesc.extentsNeeded (j : JobDesc) : Nat :=
  let image := (j.regions.foldl (fun n r => n + chunkBytes * r.2) 0) + 4096
  2 * ((image + 2 ^ 30 - 1) / 2 ^ 30)

/-- What R70, R118, R338, R349, R400, R449 and R509 refuse with ST_BAD_PARAM. -/
def JobDesc.bad (d : Dev) (tenant : Nat) (j : JobDesc) : Bool :=
  let rs := j.regions.map (fun r => (r.1, chunkBytes * r.2))
  j.tiles == 0 || 0x1F < j.num || (!bit j.num 0 && j.rev != d.fuses.refRev) ||
  !(j.keys.any (fun k => k.1 == 0) && j.keys.any (fun k => k.1 == 1)) ||
  1 < j.plan || (j.plan == 1 && j.width == 0) || j.groups.any groupBad ||
  j.ranks ≤ j.rank || 32768 < j.ranks || (1 < j.ranks && j.binder.isNone) ||
  (d.fld dWNW_CTRL 1 0 != 0 && j.winnower.isNone) ||
  (d.fld dWNW_CTRL 1 0 == 2 && d.gradeTiles / 2 < (maskTiles j.tiles).length) ||
  (match j.snap with | some s => 39 < s.2.1 | none => false) ||
  j.escBase % 4096 != 0 ||
  !(1 ≤ j.regions.length && j.regions.length ≤ 64) || ((j.regions.head?.map (·.2)).getD 0) < 65 ||
  j.regions.any (fun r => r.1 % chunkBytes != 0 || r.2 == 0) ||
  (rs ++ j.covered ++ j.apart d).any (fun a => !d.areaOk tenant a.1 a.2) ||
  j.covered.any (fun a => !covers j.regions a.1 a.2) || (j.apart d).any (fun a => meets j.regions a.1 a.2)

/-- The allotment that a job has already, of the same tenant (R417). -/
def Dev.allotOf (d : Dev) (id tenant : Nat) : Option Allot :=
  match sget? d.persist.silo.allots id with
  | some a => if a.tenant = tenant then some a else none
  | none => none

/-- Extents that a start has to take from the free ones; none where the allotment would be too small (R417). -/
def Dev.extentsWanted (d : Dev) (id tenant : Nat) (j : JobDesc) : Option Nat :=
  match j.snap with
  | none => some 0
  | some s =>
    if s.1 = 0 ∧ s.2.2 = 0 then some 0
    else if s.2.2 < j.extentsNeeded then none
    else
      let more := s.2.2 - (match d.allotOf id tenant with | some a => a.extents | none => 0)
      if more ≤ d.fld dSLO_FREE 12 0 then some more else none

/-- The lowest free job slot. -/
def Dev.freeSlot (d : Dev) : Option Nat := (List.range 4).find? (fun u => (sget? d.jobs u).isNone)

/-- A logical tile belongs to a job. -/
def Dev.tileTaken (d : Dev) (l : Nat) : Bool := d.jobs.any (fun e => e.2.tiles.testBit l)

/-- The status that refuses a descriptor, 0 where none does (R509, R510). -/
def Dev.jobRefusal (d : Dev) (c : Cmd) (kcvOk : Bool) (j : JobDesc) : Nat :=
  if (maskTiles j.tiles).any (fun l => d.gradeTiles ≤ l) then 0x12
  else if d.freeSlot.isNone || (maskTiles j.tiles).any d.tileTaken then 0x02
  else if c.job = 0 ∨ c.job = 0xFFFFFFFF ∨ (d.jobById c.job).isSome = true then 0x11
  else if j.bad d c.tenant then 0x11
  else if (d.extentsWanted c.job c.tenant j).isNone then 0x39
  else if (maskTiles j.tiles).any (fun l => (d.physOf l).isNone) then 0x34
  else if !kcvOk then 0x20
  else 0

/-! ## What the start writes -/

/-- The keys of a job loaded into a tile (R118, R119). -/
def Tile.loadKeys (t : Tile) (keys : List (Nat × Nat)) : Tile :=
  let t := { t with keys := keys.foldl (fun (m : Sparse (BitVec 128)) k => sput m k.1 (BitVec.ofNat 128 k.2)) [] }
  let t := (List.range 8).foldl (fun (t : Tile) k => t.wr (tTHR_KCV + 4 * k) 0) t
  let t := keys.foldl (fun (t : Tile) k =>
    t.wr (tTHR_KCV + 4 * k.1) (threshing k.2 0xFFFFFFFF 0xFFFFFFFF (2 ^ 64 - 1) % 2 ^ 32)) t
  t.wr tTHR_KEYS (keys.foldl (fun m k => m ||| 2 ^ k.1) 0)

/-- The keys of a job destroyed in a tile (R118). -/
def Tile.dropKeys (t : Tile) : Tile := t.loadKeys []

/-- A tile given to a job: a reset, a destructive march where another tenant had it, NUM_CTRL, the escape area, keys and
identifiers (R57, R88, R118, R177, R510). -/
def Dev.giveTile (d : Dev) (id tenant epoch : Nat) (num escBase escSlots : Nat) (keys : List (Nat × Nat)) (l p : Nat) : Dev :=
  let foreign := (d.tile p).fld tJOB_IDS 31 16 != 0 && (d.tile p).fld tJOB_IDS 31 16 != tenant
  let d := (d.onTile p (fun t => t.setFld tTILE_CTRL 0 0 0)).tileReset p
  d.onTile p (fun t =>
    let t := if foreign then { t with loft := [], loftErr := [], loftCe := [] } else t
    let t := (((t.wr tNUM_CTRL num).wr tESC_BASE ((escBase + l * escBytes escSlots) / 4096)).wr tESC_SLOTS escSlots).wr tESC_NEXT 0
    let t := (t.loadKeys keys).wr tJOB_IDS (epoch + tenant * 2 ^ 16)
    { t with job := id, verify := false, rep := false, shadow := none, start := none })

/-- The silo allotment of a job (R417). -/
def Dev.allot (d : Dev) (id tenant more : Nat) (j : JobDesc) : Dev :=
  match j.snap with
  | none => d
  | some s =>
    if s.1 = 0 ∧ s.2.2 = 0 then d
    else
      let old : Allot := (d.allotOf id tenant).getD ⟨tenant, 0, []⟩
      let a : Allot := { old with extents := max old.extents s.2.2 }
      let silo : Silo := { d.persist.silo with allots := sput d.persist.silo.allots id a }
      ({ d with persist := { d.persist with silo := silo } } : Dev).setFld dSLO_FREE 12 0 (d.fld dSLO_FREE 12 0 - more)

/-- SNAP_NEWEST and SNAP_OLDER of a job slot: the start steps of the generations with a marker, the newer sequence first (R415,
R432). -/
def Dev.showGens (d : Dev) (u id : Nat) : Dev :=
  let gs : List Gen := match sget? d.persist.silo.allots id with
    | some a => (a.gens.map (fun g => g.2)).filter (fun g => g.marker)
    | none => []
  let top := gs.foldl (fun n (g : Gen) => max n g.seq) 0
  let step (p : Gen → Bool) : Nat := match gs.find? p with | some g => g.m | none => 0xFFFFFFFF
  (d.wr (slotReg dSNAP_NEWEST u) (step (fun g => g.seq == top))).wr (slotReg dSNAP_OLDER u) (step (fun g => g.seq != top))

/-- The registers of the job's areas (R343, R366, R397, R432). -/
def Dev.jobRegs (d : Dev) (u id : Nat) (j : JobDesc) : Dev :=
  let s := j.snap.getD (0, 0, 0)
  let d := (d.wr (slotReg dSNAP_JOB u) id).wr (slotReg dSNAP_CFG u) (s.1 + s.2.1 * 2 ^ 16 + 2 ^ 29)
  let d := ((d.wr (slotReg dBI_BASE u) (j.biBase / 4096)).wr (slotReg dBI_SIZE u) j.biChunks).wr (slotReg dBI_USED u) 0
  let d := (((d.wr (slotReg dPAR_RANKS u) (2 ^ 16)).wr (slotReg dPAR_COMMIT u) j.first).wr (slotReg dPAR_BASE u) 0).wr
    (slotReg dPAR_CHUNKS u) 0
  let d := ((d.wr (slotReg dSNAP_DONE u) 0).wr (slotReg dDATA_CURSOR_LO u) 0).wr (slotReg dDATA_CURSOR_HI u) 0
  let d := match j.binder with
    | some b =>
      let d := ((d.wr dBND_STAGE_BASE (valAt b 0 8 / 4096)).wr dBND_STAGE_SIZE (valAt b 8 2)).wr dBND_CARRY_BASE (valAt b 10 8 / 4096)
      let d := ((d.wr dBND_CARRY_SIZE (valAt b 18 2)).wr dLEDGER_BASE (valAt b 20 8 / 4096)).wr dLEDGER_CAP (min (2 ^ 20) (valAt b 28 4))
      d.wr dLEDGER_COUNT 0
    | none => d
  let d := match j.winnower with | some w => d.wr dWNW_AREA_BASE (w / 4096) | none => d
  let d := (j.groups.zipIdx).foldl (fun (d : Dev) g =>
    (List.range 32).foldl (fun (d : Dev) w => d.wr (dUPD_GROUP + 0x80 * g.2 + 4 * w) (valAt g.1 (4 * w) 4)) d) d
  let d := ((d.wr dUPD_SKIPPED 0).wr dUPD_ROOT_KEPT 0).wr (dTC_SEALED + 4 * u) 0xFFFFFFFF
  ((d.wr (dJOB_RANKS + 8 * u) id).wr (dJOB_RANKS_HI + 8 * u) 0).showGens u id

/-- GLB_JOBS and GLB_JOB_u kept equal to the slots in use. -/
def Dev.showJobs (d : Dev) : Dev :=
  let d := d.setFld dGLB_JOBS 3 0 (d.jobs.foldl (fun m e => m ||| 2 ^ e.1) 0)
  (List.range 4).foldl (fun (d : Dev) u => d.wr (dGLB_JOB + 4 * u) (match sget? d.jobs u with | some j => j.id | none => 0)) d

/-- The entries of a ledger that a replay is given (R327). -/
def ledgerEntries (bs : List Byte) : List Ledger := (List.range (bs.length / 64)).map (fun i => Ledger.ofBytes ((bs.drop (64 * i)).take 64))

/-- A job slot's content at the start of its job (R327, R375, R404, R459). -/
def JobDesc.job (j : JobDesc) (id tenant : Nat) (replay : Bool) (led : List Ledger) (offset : Nat) : Job :=
  { id := id, tenant := tenant, tiles := j.tiles, rank := j.rank, ranks := j.ranks, step := j.first, running := false,
    abandoned := false, rebuild := false, halted := false, replay := replay, sealed := false, cmd := none, held := [],
    lastStep := none, bounds := 0, cause := 0, again := [], cursor := 0, ending := none, reshard := none, numCtrl := j.num,
    keys := j.keys, escBase := j.escBase, escSlots := j.escSlots, regions := j.regions, groups := j.groups,
    rounded := j.plan == 1, width := j.width, winnower := j.winnower.getD 0, offset := offset,
    chain := List.replicate 48 0, chains := [], sealedS := none, before := [], beforeNext := [], committed := true, commitTo := j.first,
    deltas := [], inboxes := [],
    snapNow := false, snapDue := false, snapping := none, snapDone := [], snapPend := false, captures := 0,
    replayEnd := led.foldl (fun n e => max n e.step) 0 }

/-- A job started in slot `u`. The sequence numbers of its connections begin again (R288, R291); no other job's layout stands, a
table of an earlier job is dropped (log entry 80). -/
def Dev.startJob (d : Dev) (u id tenant more : Nat) (replay : Bool) (led : List Ledger) (j : JobDesc) : Dev :=
  let d := d.leaveIdle
  let d := if d.jobs = [] then
      (({ d with layoutCur := [], layoutPrev := [], layoutNext := [], ledger := [], honoured := [] } : Dev).wr dLAYOUT_EPOCH 0).wr
        dLAYOUT_CUR 0 |>.wr dLAYOUT_PREV 0
    else d
  let epoch := d.fld dLAYOUT_EPOCH 15 0
  let d := { d with freeCtr := d.freeCtr + 1
                    jobs := sput d.jobs u (j.job id tenant replay led (Config.freeNat d.freeCtr))
                    conns := d.conns.filter (fun c => c.1 / 2 ^ 17 != id)
                    ledger := d.ledger.filter (fun e => e.job != id)
                    honoured := d.honoured.filter (fun e => e.job != id) ++ (if replay then led else [])
                    carries := d.carries.filter (fun c => c.job != id) }
  let d := (maskTiles j.tiles).foldl (fun (d : Dev) l =>
    match d.physOf l with
    | some p => d.giveTile id tenant epoch j.num j.escBase j.escSlots j.keys l p
    | none => d) d
  let d := if replay then d.orBits dBND_STATUS 64 else d
  ((d.jobRegs u id j).allot id tenant more j).showJobs

/-- JOB_START (R509, R510): refused, or the job slot. -/
def Dev.jobStart (d : Dev) (c : Cmd) (kcvOk : Bool) : Dev × Nat × Nat :=
  let n := c.body 12 4
  let mode := c.body 16 1
  if c.buf.length < n ∨ 1 < mode ∨ (c.buf.length - n) % 64 ≠ 0 then (d, 0x11, 0)
  else
    match jobItems (c.buf.take n) with
    | none => (d, 0x11, 0)
    | some is =>
      let j := JobDesc.ofItems is
      let st := d.jobRefusal c kcvOk j
      if st = 0x20 then ((d.orBits dTC_FLAGS 1).tcLog 1 0x20 c.tenant c.job c.seq, 0x20, 0)
      else if st ≠ 0 then (d, st, 0)
      else
        match d.freeSlot, d.extentsWanted c.job c.tenant j with
        | some u, some more =>
          (d.startJob u c.job c.tenant more (mode == 1) (ledgerEntries (c.buf.drop n)) j, 0x00, u)
        | _, _ => (d, 0x02, 0)

/-- JOB_START (R509, R510): `kcvOk` that the key check values equal those of rank FIRST, where the device joins a job (R447). -/
def execJobStart (k : Nat) (kcvOk : Bool) (s : State) : Host.Outcome State Fault Refusal :=
  runDone 0x0101 k s (fun d c => d.jobStart c kcvOk)

end Sys2Proof.Machine
end

