-- ==== Sys2Proof/Machine/Spares.lean ====
section
/-! DEFINITION. The repair table, quarantine and spare substitution (R23, R382 to R385, R392). -/

namespace Sys2Proof.Machine

/-! ## The repair table -/

/-- The physical tiles that are not fused off, in ascending order. -/
def Dev.unfused (d : Dev) : List Nat := (List.range 272).filter (fun p => !d.fuses.fusedOff.contains p)

/-- The repair table that the Daybook holds: as manufactured where nothing has been substituted (R392; log entry 5). -/
def Dev.storedMap (d : Dev) : List (Option Nat) :=
  match d.persist.repair with
  | some m => m
  | none => (d.unfused.take d.gradeTiles).map some

/-- The repair table kept in the Daybook as it stands. -/
def Dev.saveMap (d : Dev) : Dev :=
  { d with persist := { d.persist with repair := some ((List.range d.gradeTiles).map d.physOf) } }

/-- A logical tile mapped, or left unmapped (R382, R384). -/
def Dev.setMap (d : Dev) (l : Nat) (p : Option Nat) : Dev :=
  match p with
  | some q => ((d.wr (dREPAIR_MAP + 4 * l) (q + 2 ^ 31)).setPhys q 0).onTile q (fun t => { t with logical := some l })
  | none => d.setFld (dREPAIR_MAP + 4 * l) 31 31 0

/-- REPAIR_MAP and PHYS_STATE loaded from the Daybook (R385, R392). -/
def Dev.loadMap (d : Dev) : Dev :=
  let m := d.storedMap
  let d := (List.range 272).foldl (fun (d : Dev) p =>
    d.setPhys p (if d.fuses.fusedOff.contains p then 4 else if d.persist.quarantine.contains p then 3 else 1)) d
  (m.zipIdx).foldl (fun (d : Dev) x => d.setMap x.2 x.1) d

/-! ## Quarantine -/

/-- A tile quarantined (R383, R385): its QUARANTINE record, its place in the Daybook's list. -/
def Dev.quarantine (d : Dev) (p : Nat) : Dev :=
  let l := (d.tile p).logical
  let d := d.setPhys p 3
  let d := { d with persist := { d.persist with quarantine := d.persist.quarantine.filter (fun q => q != p) ++ [p] } }
  let d := d.onTile p (fun t => { t.dropKeys with logical := none, job := 0, verify := false, shadow := none, failed := false, loftFailed := false })
  d.errRecord { type := 6, cls := 1, die := dieOfTile p, unit := p, tile := l.getD 0x1FF }

/-- How far compute die `b` lies from die `a`. -/
def dieFar (a b : Nat) : Nat := max a b - min a b

/-- The spare that takes the place of a tile of die `a`: of the same die where it has one, else of the nearest, the lower die first
(R383). -/
def Dev.nearestSpare (d : Dev) (a : Nat) : Option Nat :=
  let fs := d.freeSpares
  ((List.range 4).flatMap (fun r => fs.filter (fun p => dieFar a (dieOfTile p) == r && dieOfTile p ≤ a) ++
    fs.filter (fun p => dieFar a (dieOfTile p) == r && a < dieOfTile p))).head?

/-- The spare loaded as the tile it replaces: configuration, keys, tables, descriptors and flags; with `whole` also Lofts, Pocket and
vector registers (R383). Its own repairs and sequence number stay. -/
def Tile.standIn (old spare : Tile) (whole : Bool) : Tile :=
  let keep (o : Nat) : Bool := o == tWORK_SEQ || o == tMARCH_CTRL || (0x400 ≤ o && o < 0x600)
  let t := { old with
    regs := (old.regs.filter (fun (r : Nat × Word) => !keep r.1)).foldl (fun (m : Regs) (r : Nat × Word) => sput m r.1 r.2)
      (spare.regs.filter (fun (r : Nat × Word) => keep r.1))
    entryErr := [], descErr := [], workSeq := spare.workSeq, second := spare.second, unsent := spare.unsent, ieeeOk := spare.ieeeOk,
    loftErr := [], loftCe := [], failed := false, loftFailed := false, march := none, xfers := [], eng := [], loftWait := [] }
  let t := t.setState stIDLE
  if whole then t else { t with loft := spare.loft, loftErr := spare.loftErr, pocket := [], vregs := [], hist := [], cache := [] }

/-- Uncorrectable words in a tile's Lofts. -/
def Tile.badWords (t : Tile) : Bool := t.loftErr.any (fun e => (sheafRead 0 e.2.toNat).2 == .uncorrectable)

/-- One failed tile handled (R383, R384): quarantined, and its logical tile given to a spare. `whole` that the Lofts and registers are
copied; a copy that reads an uncorrectable word is a program's read of it (R371). -/
def Dev.substitute (d : Dev) (p : Nat) (whole : Bool) : Dev :=
  let old := d.tile p
  let d := d.quarantine p
  match old.logical with
  | none => d
  | some l =>
    match d.nearestSpare (dieOfTile p) with
    | some q =>
      let d := if whole && old.badWords then d.abandon old.job else d
      let d := if old.job = 0 then d else d.setTile q (old.standIn (d.tile q) whole)
      (d.setMap l (some q)).saveMap.errRecord
        { type := 7, cls := 1, die := dieOfTile p, unit := p, job := old.job, step := old.rd tTHR_STEP, detail := q, tile := l }
    | none =>
      (d.setMap l none).saveMap.errRecord
        { type := 8, status := 0x34, cls := 1, die := dieOfTile p, unit := p, job := old.job, step := old.rd tTHR_STEP, tile := l }

end Sys2Proof.Machine
end

