-- ==== Sys2Proof/Machine/Reset.lean ====
section
/-! DEFINITION. What resets and power states leave of the module (R14, R180, R181, R271, R464, R518, R522, R523, R534 to R538, R546;
log entries 93 and 94). -/

namespace Sys2Proof.Machine

/-! ## Registers kept -/

/-- Every bit. -/
def allBits : Nat := 0xFFFFFFFF

/-- Registers that show what the Daybook, the Silo or the board hold, which no reset changes (R392, R425, R426, R432, R304): the bits
kept by offset. -/
def keptAlways (off : Nat) : Nat :=
  if off = dDBK_HEAD ∨ off = dDBK_FF ∨ off = dSLO_WRITTEN ∨ off = dSLO_WEAR ∨ off = dSLO_RETIRED then allBits
  else if off = dSLO_STATUS then 7
  else if off = dLASER_STATUS then 15
  else 0

/-- Registers of an engine whose lane map and spares a cold reset alone clears (R296). -/
def keptLanes (off : Nat) : Nat :=
  if 0x300000 ≤ off ∧ off < 0x380000 then
    if off % 0x10000 = dENG_LANE_MAP_0 % 0x10000 ∨ off % 0x10000 = dENG_LANE_MAP_1 % 0x10000 ∨ off % 0x10000 = dENG_LANE_MAP_2 % 0x10000 then
      allBits
    else if off % 0x10000 = dENG_STATUS % 0x10000 then 0xC0
    else 0
  else 0

/-- What a cold reset alone clears (R296, R301, R389, R430): lane spares, the PTP status, the record number and the error ring, the
configuration slot applied. -/
def keptWarm (off : Nat) : Nat :=
  if keptAlways off ≠ 0 then keptAlways off
  else if keptLanes off ≠ 0 then keptLanes off
  else if off = dPTP_STATUS ∨ off = dERR_SEQ ∨ (dERR_REC ≤ off ∧ off < dERR_REC + 0x4000) ∨ off = dCFG_STATUS ∨ off = dCFG_SEQ_LO ∨
      off = dCFG_SEQ_HI then allBits
  else if 0x20000 ≤ off ∧ off < 0x30000 then
    if off = dHK_STATUS ∨ off = dHK_REFCLK_LOSS ∨ off = dHK_THROTTLE_NS_LO ∨ off = dHK_THROTTLE_NS_HI then 0 else allBits
  else if 0x70000 ≤ off ∧ off < 0x80000 then allBits
  else 0

/-- What Deep sleep keeps (R271, R522): the standby domain's registers, base and size of every ring, locks, the Granary's remap
state, and what a cold reset alone clears. -/
def keptDeep (off : Nat) : Nat :=
  if 0x20000 ≤ off ∧ off < 0x30000 then allBits
  else if 0x70000 ≤ off ∧ off < 0x80000 then 0
  else if 0x100000 ≤ off ∧ off < 0x280000 then allBits
  else if off = dTC_LOCK ∨ off = dPTP_PORT then allBits
  else if 0x10000 ≤ off ∧ off < 0x10800 then
    (if off % 0x80 = 0 then 0x3FF0 else if 8 ≤ off % 0x80 ∧ off % 0x80 < 0x18 then allBits else 0)
  else if off = dURG_RQ_BASE_LO ∨ off = dURG_RQ_BASE_HI ∨ off = dEQ_BASE_LO ∨ off = dEQ_BASE_HI then allBits
  else if off = dURG_RQ_CTRL ∨ off = dEQ_CTRL then 0x3E
  else if 0x12000 ≤ off ∧ off < 0x12C00 then
    (if off % 0x200 = 0 then 0x7C else if off % 0x200 = 8 ∨ off % 0x200 = 0xC then allBits else 0)
  else keptWarm off

/-- What an exit from Off keeps beside (R524, R527, R538, R546): the power state and how the device woke. -/
def keptOff (off : Nat) : Nat :=
  if off = dHK_PSTATE ∨ off = dHK_LAST_WAKE ∨ off = dHK_WAKE_TIME_LO ∨ off = dHK_WAKE_TIME_HI then allBits else keptAlways off

/-- Registers at their reset values but for the bits a mask keeps. -/
def Dev.keepRegs (d : Dev) (mask : Nat → Nat) : Dev :=
  { d with regs := d.regs.filterMap (fun (r : Nat × Word) =>
      let m := mask r.1
      if m = 0 then none
      else some (r.1, BitVec.ofNat 32 ((r.2.toNat &&& m) + ((resetOf devRegs r.1).toNat &&& (allBits - m))))) }

/-! ## What leaves with the main domains -/

/-- The trust core without sessions, keys and reports (R436, R448): wrong claims and the log's number count from a cold reset. -/
def Trust.cleared (t : Trust) : Trust := ⟨[], none, t.claims, [], [], [], t.logSeq, none⟩

/-- Jobs, tiles, transfers, sessions and all else that a reset of the main domains ends. -/
def Dev.dropMain (d : Dev) : Dev :=
  { d with
    tiles := [], jobs := [], stepRec := [], inner := [], conns := [], laneMoves := [], training := [], credits := [], owed := [],
    paused := [], couplers := [], buckets := [], homes := [], deferred := [], carries := [], ledger := [], honoured := [],
    layoutCur := [], layoutPrev := [], layoutNext := [], fences := [], barRanks := [], barSent := [], ringK := [], ringFullFrom := [],
    xferRecs := [], cmds := [], turn := 0, trust := d.trust.cleared, latches := [], hostVer := [], winTenant := [], mirrors := [],
    parts := [], flits := [], linkFailed := [], failed := false, integ := { d.integ with ceLast := [] } }

/-- Granary contents undefined after a reset (R271, R537); they read as memory that nothing has written (log entry 2). -/
def Dev.dropGranary (d : Dev) : Dev := { d with grnMem := [], grnErr := [], grnStacks := [], stackRet := none }

/-- A RESET record (R390, R535). -/
def Dev.resetRecord (d : Dev) : Dev := d.errRecord { type := 21, cls := 9, die := 4 }
/-- A POWER record (R390). -/
def Dev.powerRecord (d : Dev) : Dev := d.errRecord { type := 23, cls := 9, die := 4 }

/-- Tiles halted by a warm reset, until the start-up march has run (R535). -/
def Dev.haltedTiles (d : Dev) : Dev :=
  d.unfused.foldl (fun (d : Dev) p => d.setTile p (Tile.reset.setState stHALTED)) d

/-- The holders of shared resources that stay: those of the housekeeping block, whose fields stay (R388). -/
def Dev.hkHolders (d : Dev) (was : Dev) : Dev :=
  (List.range 10).foldl (fun (d : Dev) r =>
    if bits (was.holder r) 9 0 = 2 then d.wr (dRES_HOLDER + 4 * r) (was.holder r) else d) d

/-! ## Resets -/

/-- A warm reset (R535, R537, R538). The domains stay powered; where Deep sleep had taken them down, they are powered. -/
def Dev.warmReset (d : Dev) (cause : Nat) : Dev :=
  let d := d.resetRecord
  let t := d.ptpNs
  let run := d.clock.ptpRun
  let was := d
  let d := ((d.keepRegs keptWarm).dropMain).dropGranary
  let d := (d.hkHolders was).haltedTiles
  let d := ((d.setPstate 0).wr dHK_RESET_CAUSE cause).setFld dGLB_START 4 1 1
  let d := { d with power := { d.power with hub := true, link := false, tclk := true, wakes := 0, unread := 0, idlePs := d.clock.ps } }
  let d := d.wr dHK_CLK 0x3F
  if run then d else { d with clock := { d.clock with ptpRun := true, ptpBase := if d.power.stby then d.stbyNs else t, ptpPs := d.clock.ps } }

/-- A cold start of the main domains (R534, R537): of the standby domain too where its rail has risen. -/
def Dev.coldClear (d : Dev) (mask : Nat → Nat) : Dev :=
  let d := ((d.keepRegs mask).dropMain).dropGranary
  { d with
    spares := [], whIv := [], whAc := []
    trust := ⟨[], none, 0, [], [], [], 0, none⟩
    clock := { d.clock with ptpRun := false, ptpBase := 0, ptpPs := d.clock.ps }
    power := { d.power with link := false, wakes := 0, unread := 0, tclk := false, idlePs := d.clock.ps, throttlePs := d.clock.ps, trip := none } }

/-- The main domains powered (R519, R534 order 6). -/
def Dev.powerMain (d : Dev) : Dev := { d with power := { d.power with hub := true, refOk := true, tclk := true, idlePs := d.clock.ps } }

/-- The standby rail rises (R534). -/
def Dev.coldReset (d : Dev) : Dev :=
  let d := d.coldClear keptAlways
  let d := d.wr dHK_RESET_CAUSE 1
  let d := { d with clock := { d.clock with stbyBase := 0, stbyPs := d.clock.ps }
                    power := { d.power with stby := true, hub := false, cause := 5 } }
  if d.power.good then d.powerMain else d

/-- The exit from Off (R524, R538): a cold start of the main domains, once PWR_GOOD is high. -/
def Dev.offExit (d : Dev) : Dev :=
  let c := d.power.cause
  let d := ((d.coldClear keptOff).wr dHK_RESET_CAUSE c).powerMain
  { d with power := { d.power with cause := 5 } }

/-- The exit from Deep sleep powers the main domains; start-up goes on at row 2 (R524). -/
def Dev.deepExit (d : Dev) : Dev :=
  let d := (d.powerMain.wr dHK_CLK 0x3F).setFld dGLB_START 4 1 1
  { d with clock := { d.clock with ptpRun := true, ptpBase := d.stbyNs, ptpPs := d.clock.ps } }

/-! ## Power states entered -/

/-- The ports go down and every transmitter is dark (R299, R522, R535). -/
def Dev.portsDark (d : Dev) : Dev :=
  let d := (List.range 8).foldl (fun (d : Dev) e =>
    ([0, 1, 2, 3].foldl (fun (d : Dev) j => d.portOff e j) d).setFld (engOff dENG_STATUS e) 1 1 0) d
  (d.setFld dLASER_CTRL 3 0 0).setFld dLASER_STATUS 7 4 0

/-- The clocks of Sleep (R518, R522, R532): TCLK stopped, the PTP clock with the ports. -/
def Dev.sleepIn (d : Dev) : Dev :=
  let d := d.portsDark
  let d := { d with power := { d.power with tclk := false }, clock := { d.clock with ptpRun := false } }
  d.setFld dHK_CLK 3 2 0

/-- Deep sleep (R518, R522, R523): the hub, the compute dies and the ports go off. -/
def Dev.deepIn (d : Dev) : Dev :=
  let d := (d.portsDark.keepRegs keptDeep).dropMain
  let d := { d with whIv := [], whAc := []
                    power := { d.power with hub := false, link := false, tclk := false }
                    clock := { d.clock with ptpRun := false } }
  d.wr dHK_CLK 0x20

/-- Off (R518, R522, R523, R541): every main domain goes down, and the Granary's contents with them. -/
def Dev.offIn (d : Dev) : Dev :=
  let d := ((d.portsDark.keepRegs (fun o => if 0x20000 ≤ o ∧ o < 0x30000 then allBits else keptAlways o)).dropMain).dropGranary
  let d := { d with spares := [], whIv := [], whAc := []
                    power := { d.power with hub := false, link := false, tclk := false, refOk := false }
                    clock := { d.clock with ptpRun := false } }
  d.wr dHK_CLK 0x20

/-- The main domains go down at once into Off (R541, R542): the next start records the cause. -/
def Dev.fallOff (d : Dev) (cause : Nat) : Dev :=
  let d := (d.haltAll.offIn).setPstate 4
  { d with power := { d.power with cause := cause, wakes := 0 } }

/-! ## Waking -/

/-- The exit that a wake has started, as far as the supplies let it go (R524, R539). -/
def Dev.powerExit (d : Dev) : Dev :=
  if d.power.hub then d
  else if d.pstate = 9 then d.deepExit
  else if d.pstate = 10 ∧ d.power.good = true then d.offExit
  else d

/-- A wake event (R527, R528). -/
def Dev.wakeUp (d : Dev) (code : Nat) : Dev := (d.wake code).powerExit

end Sys2Proof.Machine
end

