-- ==== Sys2Proof/Machine/Boot.lean ====
section
/-! DEFINITION. The boot of the trust core (R438 to R441, R443) and the configuration slots as start-up reads them (R428, R429, R454,
R461; log entry 92). -/

namespace Sys2Proof.Machine

/-! ## Measurements -/

/-- The 48 bytes of a measurement register. -/
def Dev.meas (d : Dev) (k : Nat) : List Nat :=
  (List.range 12).flatMap (fun w => natBytes 4 (d.rd (dTC_MEAS + 0x30 * k + 4 * w)))

/-- A measurement extended by a digest (R438). -/
def Dev.extend (d : Dev) (k : Nat) (digest : List Nat) : Dev :=
  let m := sha384 (d.meas k ++ digest)
  (List.range 12).foldl (fun (d : Dev) w => d.wr (dTC_MEAS + 0x30 * k + 4 * w) (bytesNat ((m.drop (4 * w)).take 4))) d

/-! ## Images -/

/-- The fused minimum SVN of a class (R441). -/
def Dev.minSvn (d : Dev) (c : Nat) : Nat := d.persist.svn.getD c 0
/-- The two images of a class. -/
def Dev.imagesOf (d : Dev) (c : Nat) : Option Image × Option Image := d.persist.images.getD c (none, none)
/-- An image is accepted (R439, R441). -/
def Dev.imageOk (d : Dev) (c : Nat) (i : Image) : Bool := i.ok && decide (d.minSvn c ≤ i.svn) && decide (i.svn ≤ 64)
/-- An image refused for its SVN alone. -/
def Dev.imageOld (d : Dev) (c : Nat) (i : Option Image) : Bool :=
  match i with | some x => x.ok && decide (x.svn < d.minSvn c) | none => false

/-- The image that boots a class, A before B, with its slot (R439). -/
def Dev.bootImage (d : Dev) (c : Nat) : Option (Nat × Image) :=
  match (d.imagesOf c).1.filter (d.imageOk c) with
  | some i => some (0, i)
  | none => ((d.imagesOf c).2.filter (d.imageOk c)).map (fun i => (1, i))

/-- The images that a class refuses at boot for rollback (R441, R463). -/
def Dev.noteRollback (d : Dev) (c : Nat) : Dev :=
  let p := d.imagesOf c
  let a := d.imageOld c p.1
  let b := (p.1.filter (d.imageOk c)).isNone && d.imageOld c p.2
  if a || b then (d.orBits dTC_FLAGS 4).tcLog 6 0x23 0 0 (((if a then p.1 else p.2).map (·.svn)).getD 0) else d

/-- The boot of one class: its measurement extended (R438, R439). -/
def Dev.bootClass (d : Dev) (c : Nat) : Dev :=
  let d := d.noteRollback c
  match d.bootImage c with
  | some (s, i) => { d.extend c i.digest with trust := { d.trust with booted := d.trust.booted ++ [s] } }
  | none => { d with trust := { d.trust with booted := d.trust.booted ++ [2] } }

/-- A live update takes effect (R440): M6, the version that runs. -/
def Dev.applyImage (d : Dev) (x : Nat × Image) : Dev :=
  let d := d.extend 6 x.2.digest
  let d := if x.1 = 1 then d.wr dGLB_FW_REEVE (x.2.version % 2 ^ 16 + x.2.svn % 2 ^ 16 * 2 ^ 16) else d
  d.tcLog 13 0 0 0 x.2.svn

/-- The staged images take effect, and their loads are answered (R440). -/
def Dev.applyStaged (d : Dev) : Dev :=
  let xs := d.trust.staged
  let d := xs.foldl (fun (d : Dev) x => d.applyImage x) { d with trust := { d.trust with staged := [] } }
  if xs = [] then d
  else ((d.cmds.filter (fun e => e.2.op == 0x0706 && e.2.started)).map (·.1)).foldl (fun (d : Dev) k => d.final k 0x00 0) d

/-- TC_SVN_A and TC_SVN_B kept equal to the fuses. -/
def Dev.showSvn (d : Dev) : Dev :=
  (d.wr dTC_SVN_A (d.minSvn 0 + d.minSvn 1 * 2 ^ 16)).wr dTC_SVN_B (d.minSvn 2 + d.minSvn 3 * 2 ^ 16)

/-- OWNED and the owner counter as the record has them (R443, R464). -/
def Dev.showOwner (d : Dev) : Dev :=
  let d := d.setFld dTC_STATUS 3 3 (b2n d.persist.owner.isSome)
  (d.wr dTC_OWNER_CTR_LO (d.ownerCounter % 2 ^ 32)).wr dTC_OWNER_CTR_HI (d.ownerCounter / 2 ^ 32 % 2 ^ 32)

/-- The bytes of the owner record. -/
def Owner.bytes (o : Owner) : List Nat := o.keys ++ natBytes 8 o.counter

/-- The trust core starts (R438 steps 1 to 5, R439): FAILED where the PUF cannot be reconstructed; recovery where both images of the
trust-core or Reeve class fail. -/
def Dev.trustStart (d : Dev) (puf : Bool) : Dev :=
  if puf then
    let d := { d with trust := { d.trust with booted := [] } }
    let d := ([0, 1, 2, 3].foldl (fun (d : Dev) c => d.bootClass c) d).showSvn.showOwner
    let d := match d.persist.owner with | some o => d.extend 5 (sha384 o.bytes) | none => d
    let d := (List.range 4).foldl (fun (d : Dev) w => d.wr (dTC_DEVID + 4 * w) (bytesNat ((deviceId.drop (4 * w)).take 4))) d
    let d := d.setFld dTC_STATUS 5 5 (b2n (8 ≤ d.trust.claims))
    if (d.bootImage 0).isNone || (d.bootImage 1).isNone then
      ((d.setFld dTC_STATUS 2 0 2).setFld dGLB_START 5 5 1).errRecord { type := Config.errType 102, cls := 9, die := 4, unit := 3 }
    else d.setFld dTC_STATUS 2 0 1
  else (d.setFld dTC_STATUS 2 0 3).errRecord { type := Config.errType 103, cls := 9, die := 4, unit := 3 }

/-! ## Configuration slots (R428, R429) -/

/-- The first Daybook entry of a slot: 0 A, 1 B. -/
def slotBase (s : Nat) : Nat := 14336 + 512 * s
/-- Bytes of Daybook entries. -/
def Dev.entryBytes (d : Dev) (a n : Nat) : List Nat :=
  (List.range n).flatMap (fun i => natBytes 64 (sget 0 d.integ.daybook (a + i)).toNat)

/-- A slot's header: its sequence number and body length; none for another magic or version. -/
def Dev.slotHeader (d : Dev) (s : Nat) : Option (Nat × Nat) :=
  let h := d.entryBytes (slotBase s) 1
  let f (o n : Nat) := bytesNat ((h.drop o).take n)
  if f 0 4 = 0x5A434647 ∧ f 4 4 = 1 then some (f 8 8, f 16 4) else none

/-- A slot's marker matches its header. -/
def Dev.slotMarked (d : Dev) (s seq : Nat) : Bool :=
  let m := d.entryBytes (slotBase s + 511) 1
  let f (o n : Nat) := bytesNat ((m.drop o).take n)
  f 0 4 == 0x5A434D54 && f 4 8 == seq && f 12 4 == crc32c (toBytes (d.entryBytes (slotBase s) 1))

/-- The bytes that a slot's signatures cover: header and body. -/
def Dev.slotSigned (d : Dev) (s len : Nat) : List Nat := (d.entryBytes (slotBase s) 432).take (64 + len)

/-- A slot's signatures verify: form 2, by the owner (R457). -/
def Dev.slotVerifies (d : Dev) (s len : Nat) : Bool :=
  match d.persist.owner with
  | some o => signedBy 2 o.keys (sha384 (d.slotSigned s len)) (d.entryBytes (slotBase s + 432) 79)
  | none => false

/-- A valid slot's sequence number and body length (R429). -/
def Dev.validSlot (d : Dev) (s : Nat) : Option (Nat × Nat) :=
  match d.slotHeader s with
  | some (seq, len) =>
    if decide (len ≤ 431 * 64) && d.slotMarked s seq && d.slotVerifies s len then some (seq, len) else none
  | none => none

/-- The slot that start-up applies: the higher sequence number, or the active one while a newer one waits for a cold reset (R429,
R430). -/
def Dev.chosenSlot (d : Dev) : Option (Nat × Nat × Nat) :=
  let a := (d.validSlot 0).map (fun x => (0, x))
  let b := (d.validSlot 1).map (fun x => (1, x))
  if d.fld dCFG_STATUS 4 4 = 1 then (if d.fld dCFG_STATUS 0 0 = 0 then a else b)
  else
    match a, b with
    | some x, some y => if x.2.1 < y.2.1 then b else a
    | some _, none => a
    | none, _ => b

/-- The items of a body, 16 bytes each: IDs and values. -/
def configItems (bs : List Nat) : List (Nat × List Nat) :=
  (List.range (bs.length / 16)).map (fun i =>
    let x := (bs.drop (16 * i)).take 16
    (bytesNat (x.take 2), ((x.drop 4).take 12).take (bytesNat ((x.drop 2).take 2))))

/-- A register written by a configuration item under its range rules. -/
def Dev.configReg (d : Dev) (off v : Nat) : Dev :=
  match findReg devRegs off with
  | some (r, _, _) => d.wr off (writeWord r.fields false false (d.rd off) v).1
  | none => d

/-- One item applied; none where its ID is unknown or its value out of range (R429, R254, R279, R301, R397, R454, R461). -/
def Dev.configItem (d : Dev) (id : Nat) (v : List Nat) : Option Dev :=
  let n := bytesNat v
  if id = 1 then
    if n = 1 ∨ n = 2 then some ((List.range 24).foldl (fun (d : Dev) s => d.setFld (grnOff dGRN_RESERVE s) 1 0 n) d) else none
  else if id = 2 then
    if n < 256 then some ((List.range 8).foldl (fun (d : Dev) e => d.setFld (engOff dENG_CTRL e) 1 1 (n / 2 ^ e % 2)) d) else none
  else if id = 3 then if n < 32 then some (d.setFld dPTP_PORT 4 0 n) else none
  else if id = 4 then
    if v.length = 12 ∧ n / 2 ^ 88 = 0 then
      some (((d.configReg dGLN_PERIOD (n % 2 ^ 32)).configReg dGLN_LOFT (n / 2 ^ 32 % 2 ^ 32)).configReg dGLN_LIMITS (n / 2 ^ 64))
    else none
  else if id = 5 then if n < 2 ^ 16 ∧ n % 4 ≠ 3 ∧ bits n 7 6 = 0 then some (d.configReg dWNW_CTRL n) else none
  else if id = 0x700 then if v.length = 12 then some { d with trust := { d.trust with admission := some v } } else none
  else if id = 0x701 then if n < 64 then some ((d.orBits dTC_LOCK n).tcLog 14 0 0 0 n) else none
  else none

/-- Every item applied; an ignored one leaves an error record (R429). -/
def Dev.applyConfig (d : Dev) (is : List (Nat × List Nat)) : Dev :=
  is.foldl (fun (d : Dev) i =>
    match d.configItem i.1 i.2 with
    | some d' => d'
    | none => d.errRecord { type := Config.errType 100, cls := 9, die := 4, unit := 5, detail := i.1 }) d

/-- The Reeve and the trust core read the configuration slots (R429, R438 step 6). -/
def Dev.readConfig (d : Dev) : Dev :=
  let d := (d.setFld dCFG_STATUS 1 1 (b2n (d.validSlot 0).isSome)).setFld dCFG_STATUS 2 2 (b2n (d.validSlot 1).isSome)
  match d.chosenSlot with
  | some (s, seq, len) =>
    let d := (d.setFld dCFG_STATUS 0 0 s).setFld dCFG_STATUS 3 3 0
    let d := (d.wr dCFG_SEQ_LO (seq % 2 ^ 32)).wr dCFG_SEQ_HI (seq / 2 ^ 32 % 2 ^ 32)
    let bs := d.slotSigned s len
    (d.extend 4 (sha384 bs)).applyConfig (configItems (bs.drop 64))
  | none => (d.setFld dCFG_STATUS 3 3 1).errRecord { type := Config.errType 101, cls := 9, die := 4, unit := 5 }

end Sys2Proof.Machine
end

