-- ==== Sys2Proof/Machine/Startup.lean ====
section
/-! DEFINITION. The start-up order (R30, R177, R271, R299, R385, R388, R434 to R439, R524, R534). -/

namespace Sys2Proof.Machine

/-! ## Tiles (rows 4 and 5) -/

/-- The tiles that start-up tests and uses: those neither fused off nor quarantined (R385). -/
def Dev.testedTiles (d : Dev) : List Nat := d.unfused.filter (fun p => d.fld (dPHYS_STATE + 4 * p) 2 0 != 3)

/-- Tiles that failed their start-up tests: their records, then spares in their place, mapped ones first by logical index (R30,
R383). -/
def Dev.startFailed (d : Dev) (bad : List Nat) : Dev :=
  let ps := bad.filter (fun p => d.testedTiles.contains p)
  let mapped := (List.range 256).filterMap (fun l => (d.physOf l).filter (fun p => ps.contains p))
  let order := mapped ++ ps.filter (fun p => !mapped.contains p)
  let d := order.foldl (fun (d : Dev) p => d.errRecord
    { type := 18, cls := 1, die := dieOfTile p, unit := p, tile := (d.tile p).logical.getD 0x1FF }) d
  -- failed spares leave the pool before a choice is made among it
  let d := (order.filter (fun p => !mapped.contains p)).foldl (fun (d : Dev) p => d.quarantine p) d
  let d := mapped.foldl (fun (d : Dev) p => d.setPhys p 3) d
  mapped.foldl (fun (d : Dev) p => d.substitute p false) d

/-- Row 4: the repair table loaded, Lofts and tiles marched and tested (R177, R385). -/
def Dev.startTiles (d : Dev) (bad : List Nat) : Dev :=
  let d := (d.unfused.foldl (fun (d : Dev) p => d.setTile p Tile.reset) d).loadMap
  d.startFailed bad

/-- Row 5: the IEEE pipelines tested (R73). -/
def Dev.startIeee (d : Dev) (bad : List Nat) : Dev :=
  let d := (d.testedTiles.filter (fun p => !bad.contains p)).foldl (fun (d : Dev) p => d.onTile p (fun t => { t with ieeeOk := true })) d
  d.startFailed bad

/-! ## Granary (row 6) -/

/-- The reserve pages of a stack that are free, as its remap entries and a stack's retirement leave them (R254, R268, R269). -/
def Dev.freeReserve (d : Dev) (s n : Nat) : Nat :=
  let all := 2 ^ 20 - d.progPages - n
  match d.stackRet with
  | some (.copying k _ _) => if s = k then all else all - d.need (survivorIndex k s)
  | some (.done k) => if s = k then all else all - d.need (survivorIndex k s)
  | _ => all

/-- The remap entries of a stack reloaded; an interrupted copy begins again (R271). -/
def Dev.loadRemaps (d : Dev) (s : Nat) : Dev :=
  let es := sget [] d.persist.remap s
  let d := (es.zipIdx).foldl (fun (d : Dev) (x : (Nat × Nat × Bool) × Nat) => d.putRemap s ⟨x.2, x.1.1, x.1.2.2, x.1.2.1⟩) d
  let d := (es.zipIdx).foldl (fun (d : Dev) (x : (Nat × Nat × Bool) × Nat) =>
    if x.1.2.2 then
      ((d.setStack s { d.stack s with copying := some x.2 }).wr (grnOff dGRN_RETIRE s) x.1.1).orBits (grnOff dGRN_STATUS s) 0x40
    else d) d
  (d.setFld (grnOff dGRN_RESERVE s) 19 2 (d.freeReserve s es.length)).wr (grnOff dGRN_REMAP_USED s) es.length

/-- The retired-stack state reloaded (R271). -/
def Dev.loadStackRet (d : Dev) : Dev :=
  match d.persist.stack with
  | some (.copying k _ _) => ({ d with stackRet := some (.copying k 0 0) } : Dev).orBits (grnOff dGRN_STATUS k) 0x40
  | some (.done k) => ({ d with stackRet := some (.done k) } : Dev).orBits (grnOff dGRN_STATUS k) 0x80
  | _ => d

/-- Row 6: the remap state, unless Deep sleep has kept it, and the controllers on (R271, R275). -/
def Dev.startGranary (d : Dev) : Dev :=
  let d := if d.pstate = 9 then d else (List.range 24).foldl (fun (d : Dev) s => d.loadRemaps s) d.loadStackRet
  (List.range 24).foldl (fun (d : Dev) s =>
    let k := d.stack s
    (d.setStack s { k with calPs := d.clock.ps }).setFld (grnOff dGRN_CTRL s) 0 0 1) d

/-! ## Ports (row 7) -/

/-- A module that can feed an engine is present. -/
def Dev.feedPresent (d : Dev) (e : Nat) : Bool := d.laserPresent (feedModule e false) || d.laserPresent (feedModule e true)

/-- The modules that are present driven and lit, engines on the module they have (R297, R299). -/
def Dev.lightLasers (d : Dev) : Dev :=
  let d := [0, 1, 2, 3].foldl (fun (d : Dev) m =>
    if d.laserPresent m then (d.driveLaser m true).setFld dLASER_STATUS (4 + m) (4 + m) 1 else d) d
  (List.range 8).foldl (fun (d : Dev) e => d.setFld (engOff dENG_STATUS e) 0 0 (b2n (!d.laserPresent (feedModule e false)))) d

/-- The ports of an engine that train come up (R299). -/
def Dev.portsUp (d : Dev) (e : Nat) : Dev :=
  (d.enginePorts e).foldl (fun (d : Dev) j =>
    if d.training.contains (4 * e + j) && d.fld (engOff dENG_STATUS e) 1 1 == 1 then d.portUpAgain e j else d) d

/-- The ports brought up on their light. -/
def Dev.raisePorts (d : Dev) : Dev :=
  let d := d.lightLasers
  (List.range 8).foldl (fun (d : Dev) e => if d.engineOn e then (d.lightEngine e).portsUp e else d) d

/-- Row 7: engines and ports (R299, R303). -/
def Dev.startPorts (d : Dev) : Dev :=
  let d := (List.range 8).foldl (fun (d : Dev) e => d.setFld (engOff dENG_CTRL e) 0 0 1) d
  d.raisePorts

/-! ## Silo and integrity (row 8) -/

/-- Extents that allotments take (R417, R424). -/
def Dev.extentsUsed (d : Dev) : Nat := d.persist.silo.allots.foldl (fun n e => n + e.2.extents) 0

/-- A generation without its marker, torn by power loss or reset, is none (R415, R433). -/
def Dev.dropTorn (d : Dev) : Dev :=
  let torn := d.persist.silo.allots.any (fun e => e.2.gens.any (fun g => !g.2.marker))
  if torn then
    let as_ := d.persist.silo.allots.map (fun (e : Nat × Allot) => (e.1, { e.2 with gens := e.2.gens.filter (fun g => g.2.marker) }))
    let d := { d with persist := { d.persist with silo := { d.persist.silo with allots := as_ } } }
    (d.orBits dSLO_STATUS 32).errRecord { type := Config.errType 104, cls := 7, die := 4 }
  else d

/-- Every logical tile of the grade is mapped. -/
def Dev.allMapped (d : Dev) : Bool := (List.range d.gradeTiles).all (fun l => (d.physOf l).isSome)

/-- Row 8: the Silo and the background work on; the device ready unless recovery firmware runs or a logical tile has no tile (R30,
R439, R521). -/
def Dev.startSilo (d : Dev) : Dev :=
  let d := (d.gleanCtrl 1).1.setFld dSLO_CTRL 0 0 1
  let d := (d.setFld dSLO_FREE 12 0 (7424 - d.extentsUsed)).dropTorn
  let d := d.setFld dGLB_START 0 0 (b2n (!d.recovery && d.allMapped))
  let d := if d.pstate = 9 ∨ d.pstate = 10 then d.setPstate 0 else d
  { d with power := { d.power with idlePs := d.clock.ps } }

/-! ## The rows -/

/-- Row 1: clocks (R30, R301, R530, R534). -/
def Dev.startClocks (d : Dev) : Dev :=
  let d := d.wr dHK_CLK 0x3F
  { d with clock := { d.clock with ptpRun := true, ptpBase := 0, ptpPs := d.clock.ps }
           power := { d.power with tclk := true, loadPs := d.clock.ps, refPs := d.clock.ps } }

/-- Row 3: Reeve firmware, with its watchdog's timer and the configuration (R387, R429, R438). -/
def Dev.startReeve (d : Dev) : Dev :=
  let d := match d.bootImage 1 with
    | some (_, i) => if d.recovery then d else d.wr dGLB_FW_REEVE (i.version % 2 ^ 16 + i.svn % 2 ^ 16 * 2 ^ 16)
    | none => d
  (d.claim 0 0x001 0xFF).1.readConfig

/-- What a row needs beside the row before it (R30, R438, R534): the reference clock; PERST_N high; the images of the port dies and
the Silo; a laser module for every engine. -/
def Dev.rowReady (d : Dev) (row : Nat) : Bool :=
  d.fld dGLB_START 4 1 + 1 == row && d.power.hub && d.power.refOk &&
  (row == 1 || d.power.perst) && (row != 2 || d.fld dTC_STATUS 2 0 == 0) &&
  (row != 7 || ((d.bootImage 2).isSome && (List.range 8).all (fun e => d.feedPresent e))) && (row != 8 || (d.bootImage 3).isSome)

/-- A start-up row carried out: `ok` that the PUF can be reconstructed, `bad` the tiles that fail the row's tests. -/
def Dev.startupRow (d : Dev) (row : Nat) (ok : Bool) (bad : List Nat) : Dev :=
  let d := match row with
    | 1 => d.startClocks
    | 2 => d.trustStart ok
    | 3 => d.startReeve
    | 4 => d.startTiles bad
    | 5 => d.startIeee bad
    | 6 => d.startGranary
    | 7 => d.startPorts
    | _ => d.startSilo
  if row = 2 ∧ ok = false then d else d.setFld dGLB_START 4 1 row

/-- STARTUP_ROW (R30, R438, R465, R534): a trust core that FAILED halts the start-up at row 2. -/
def execStartupRow (row : Nat) (ok : Bool) (bad : List Nat) (s : State) : Host.Outcome State Fault Refusal :=
  if 1 ≤ row ∧ row ≤ 8 then
    if s.dev.rowReady row then .next { s with dev := s.dev.startupRow row ok bad } else .fault .conditionNotMet
  else .fault .noSuchUnit

end Sys2Proof.Machine
end

