-- ==== Sys2Proof/Machine/Dma.lean ====
section
/-! DEFINITION. DMA commands at their issue (R165, R166, R217, R218, R272, R289). -/

namespace Sys2Proof.Machine

/-- The fields of a DMA command (R217). -/
def dmBanks (e : Nat) : Nat := eArgs e 7 0
/-- RETURN. -/
def dmRet (e : Nat) : Nat := eArgs e 11 8
/-- ATOM. -/
def dmAtom (e : Nat) : Nat := eArgs e 14 12
/-- Traffic class. -/
def dmClass (e : Nat) : Nat := eArgs e 16 15
/-- Peer rank. -/
def dmPeer (e : Nat) : Nat := eArgs e 31 17

/-- Whole blocks land in whole blocks (R217). -/
def blocksLand (a b : Desc) : Bool := !isGBlock a.fmt || a.cols == b.cols || (a.cols % 32 == 0 && b.cols % 32 == 0)

/-- An ATOM's format rule (R217). -/
def atomFmtOk (atom : Nat) (q : Desc) : Bool :=
  if atom = 0 then true
  else if atom = 1 then q.fmt == fI32
  else if atom = 2 then q.fmt == fI32 && q.count % 2 == 0
  else if atom = 3 then q.fmt == fStook
  else q.fmt == fBushel

/-- The target of an atomic transfer keeps the alignment of R171: a 64-bit pair is aligned, and a Bushel lies in one bank. -/
def atomPlaceOk (atom : Nat) (q : Desc) : Bool :=
  if atom = 2 then q.cols % 2 == 0 && q.base % 8 == 0
  else if atom = 4 then q.bushelInBank
  else true

/-- A transfer that blocks one more: 16 outstanding, or its SFLAG in use (R218). -/
def Tile.dmaFull (t : Tile) (f : Nat) : Bool :=
  let xs := t.xfers.filter (fun x => x.out && (x.kind == .dmaIn || x.kind == .dmaOut))
  16 ≤ xs.length || xs.any (fun x => x.flag == some f)

/-- The banks a DMA command's descriptors touch in the tile's own Loft (R217). -/
def dmaTouched (t : Tile) (near far : Desc) : Nat :=
  near.banks ||| (if far.space = 0 ∧ t.logical = some far.owner then far.banks else 0)

/-- The checks of DMA_IN and DMA_OUT (R204, R217, R218, R220), the Loft side at handle `hn`, the far side at `hf`. -/
def dmaCheck (inbound : Bool) (d : Dev) (q : Issue) : Option Bad :=
  let t := d.tile q.p
  let hn := if inbound then eH1 q.e else eH0 q.e
  let hf := if inbound then eH0 q.e else eH1 q.e
  let near := t.descr hn
  let far := t.descr hf
  let nearBad := ownBad d t [hn]
  let farBad := descBad d t ⟨hf, 0xF, false⟩
  let atom := if inbound then dmAtom q.e else 0
  firstBad [
    fusedBad d t [eH0 q.e, eH1 q.e],
    if inbound then farBad else nearBad,
    if inbound then nearBad else farBad,
    need (near.fmt == far.fmt && near.count == far.count && blocksLand near far) (skipR 0x04 hf),
    need (dmaTouched t near far ||| dmBanks q.e == dmBanks q.e) (skipR 0x04 hn),
    need (atom ≤ 4) (skipR 0x02 12),
    need (atomFmtOk atom near && atomPlaceOk atom near) (skipR 0x19 12),
    need (dmClass q.e == 1 || dmClass q.e == 2) (skipR 0x02 15),
    need (eSen q.e) (skipR 0x02 0),
    need (dmRet q.e < 8) (skipR 0x02 8),
    need ((banksOf (dmBanks q.e)).all (fun b => !t.isRing b)) (skipR 0x18 0),
    need (!t.dmaFull (eSflag q.e)) (skipR 0x1C (eSflag q.e)),
    busyBad t .dma q.x]

/-- The status a transfer's issue fixes: no route to the peer, or a lost peer (R289, R290). -/
def dmaPreset (d : Dev) (t : Tile) (e : Nat) (far : Desc) : Option Nat :=
  if far.space = 2 then
    if !d.rankValid t.job (dmPeer e) then some 0x42
    else if d.rankLost t.job (dmPeer e) then some 0x41
    else none
  else none

/-- The far side of a transfer waits at another tile's Loft while the transfer's master does not own the banks there
(R167). -/
def Dev.farWait (d : Dev) (p : Nat) (q : Issue) (master : Nat) (far : Desc) : Dev :=
  match (if far.space = 0 ∧ (d.tile p).logical ≠ some far.owner then d.physOf far.owner else none) with
  | some g =>
    let u := d.tile g
    if u.owns master far.banks then d
    else
      let x := d.arriveTc u
      d.setTile g { u with loftWait := u.loftWait ++
        [⟨.dma, BitVec.ofNat 256 q.e, q.i, x, x, master, far.banks, [], none, some (p, eSflag q.e)⟩] }
  | none => d

/-- The effect of DMA_IN and DMA_OUT (R165, R166, R218). -/
def dmaEffect (inbound : Bool) (d : Dev) (q : Issue) : Dev :=
  let t := d.tile q.p
  let far := t.descr (if inbound then eH0 q.e else eH1 q.e)
  let st := dmaPreset d t q.e far
  let f : Xfer := { kind := if inbound then .dmaIn else .dmaOut, flag := some (eSflag q.e), running := true, out := true,
                    banks := dmBanks q.e, ret := dmRet q.e, master := if inbound then mDI else mDO,
                    entry := BitVec.ofNat 256 q.e, index := q.i, src := sget 0 t.desc (eH0 q.e),
                    dst := sget 0 t.desc (eH1 q.e), issued := q.x, waits := 0, deferred := [], held := false, aux := 0, status := st, note := 0 }
  let d := if st = some 0x42 then
      (d.orBits dWAIN_STATUS 2).binderLog (d.stepOf t.job) t.job 0x73 0x42 (dmClass q.e) (t.logical.getD 0x1FF) (dmPeer q.e) 0
    else d
  let d := d.onTile q.p (fun t =>
    (t.engage ⟨.dma, q.x + 2, q.x + 2, [], q.mark, []⟩).setFld tDMA_OUTSTANDING 4 0 (t.fld tDMA_OUTSTANDING 4 0 + 1))
  (d.startXfer q.p q.x f).farWait q.p q (if inbound then mDO else mDI) far

/-- DMA_IN (R217). -/
def execDmaIn (p : Nat) (s : State) : Host.Outcome State Fault Refusal :=
  issueCommand 0x40 (dmaCheck true) (dmaEffect true) p s

/-- DMA_OUT (R217). -/
def execDmaOut (p : Nat) (s : State) : Host.Outcome State Fault Refusal :=
  issueCommand 0x41 (dmaCheck false) (dmaEffect false) p s

end Sys2Proof.Machine
end

