-- ==== Sys2Proof/Machine/HostMem.lean ====
section
/-! DEFINITION. Host windows (R273, R276, R452): encrypted and tagged pages of host memory. -/

namespace Sys2Proof.Machine

/-- A register of host window `w`. -/
def Dev.hwReg (d : Dev) (w off : Nat) : Nat := d.rd (off + 0x20 * (32 + w))
/-- A host window is open. -/
def Dev.hwOpen (d : Dev) (w : Nat) : Bool := w < 16 && bit (d.hwReg w dWIN_CFG) 31
/-- Its bus address. -/
def Dev.hwBase (d : Dev) (w : Nat) : Nat := d.hwReg w dWIN_BASE_LO + d.hwReg w dWIN_BASE_HI * 2 ^ 32
/-- Its pages of 4 KiB, the tag pages included. -/
def Dev.hwPages (d : Dev) (w : Nat) : Nat := d.hwReg w dWIN_SIZE * 16
/-- Its tag pages, the last of the window (R452). -/
def Dev.hwTagPages (d : Dev) (w : Nat) : Nat := (16 * d.hwPages w + 4095) / 4096
/-- The bytes of data it holds. -/
def Dev.hwData (d : Dev) (w : Nat) : Nat := (d.hwPages w - d.hwTagPages w) * 4096

/-- The tenant that authorised the window. -/
def Dev.hwTenant (d : Dev) (w : Nat) : Nat := sget 0 d.winTenant (32 + w)

/-- The key Kh of a window's job (R436). -/
def Dev.hostKey (d : Dev) (w : Nat) : List Nat :=
  match d.session (d.hwTenant w) with
  | some s => kdf s.trk (label4 'Z' 'H' 'S' 'T') (natBytes 4 (d.hwReg w dWIN_JOB)) 32
  | none => []

/-- The key of a page's version. -/
def hvKey (w i : Nat) : Nat := w * 2 ^ 40 + i
/-- The nonce of a page (R452). -/
def hwNonce (w i ver : Nat) : List Nat := natBytes 5 i ++ natBytes 6 ver ++ natBytes 1 w
/-- The associated data of a page (R452; log entry 64). -/
def Dev.hwAad (d : Dev) (w i job : Nat) : List Nat :=
  natBytes 2 (d.hwTenant w) ++ natBytes 4 job ++ natBytes 1 w ++ natBytes 5 i

/-- A page of a host window read: its bytes, where its tag is right for the current version (R452). -/
def Dev.hwPage (d : Dev) (w i : Nat) : Option (List Byte) :=
  let job := d.hwReg w dWIN_JOB
  let ct := toNats (d.hostRead (d.hwBase w + 4096 * i) 4096)
  let tag := toNats (d.hostRead (d.hwBase w + d.hwData w + 16 * i) 16)
  let nonce := hwNonce w i (sget 0 d.hostVer (hvKey w i))
  let k := d.hostKey w
  if gcmTag k nonce (d.hwAad w i job) ct = tag then some (toBytes (gcmCrypt k nonce ct)) else none

/-- A page written whole under the next version (R452). -/
def Dev.hwPutPage (d : Dev) (w i : Nat) (bs : List Byte) : Dev :=
  let job := d.hwReg w dWIN_JOB
  let ver := sget 0 d.hostVer (hvKey w i) + 1
  let nonce := hwNonce w i ver
  let k := d.hostKey w
  let ct := gcmCrypt k nonce (toNats bs)
  let d := { d with hostVer := sput d.hostVer (hvKey w i) ver }
  let d := d.hostWrite (d.hwBase w + 4096 * i) (toBytes ct)
  d.hostWrite (d.hwBase w + d.hwData w + 16 * i) (toBytes (gcmTag k nonce (d.hwAad w i job) ct))

/-- The lowest-numbered open window of a job whose data cover a range (R273; log entry 65). -/
def Dev.hwFor (d : Dev) (job a n : Nat) : Option Nat :=
  (List.range 16).find? (fun w => d.hwOpen w && d.hwReg w dWIN_JOB == job && a + n ≤ d.hwData w)

/-- Bytes put into a page's bytes at an offset. -/
def patchBytes (old : List Byte) (o : Nat) (bs : List Byte) : List Byte := old.take o ++ bs ++ old.drop (o + bs.length)

/-- The pieces of a range by page: the page, the offset in it, the length. -/
def pagePieces (a n : Nat) : List (Nat × Nat × Nat) :=
  if n = 0 then []
  else (List.range ((a + n - 1) / 4096 - a / 4096 + 1)).map (fun k =>
    let p := a / 4096 + k
    let lo := max a (4096 * p)
    (p, lo - 4096 * p, min (a + n) (4096 * (p + 1)) - lo))

/-- A page that failed its tag, logged (R273, R465). -/
def Dev.hostTagFail (d : Dev) (w i : Nat) : Dev :=
  let job := d.hwReg w dWIN_JOB
  ((d.orBits dTC_FLAGS 2).bump dTC_TAG_FAILS 1).tcLog 4 0x20 (d.hwTenant w) job (4096 * i)

/-- Bytes read at an offset of a host window: what was read before the first page that fails, and the status. -/
def Dev.hwRead (d : Dev) (w a n : Nat) : Dev × List Byte × Nat :=
  (pagePieces a n).foldl (fun (r : Dev × List Byte × Nat) x =>
    if r.2.2 ≠ 0 then r
    else
      match r.1.hwPage w x.1 with
      | some bs => (r.1, r.2.1 ++ (bs.drop x.2.1).take x.2.2, 0)
      | none => (r.1.hostTagFail w x.1, r.2.1, 0x20)) (d, [], 0)

/-- Bytes written at an offset of a host window: a page that is covered in part is read and verified first (R452). -/
def Dev.hwWrite (d : Dev) (w a : Nat) (bs : List Byte) : Dev × Nat :=
  ((pagePieces a bs.length).foldl (fun (r : (Dev × Nat) × List Byte) x =>
    if r.1.2 ≠ 0 then r
    else
      let now := r.2.take x.2.2
      if x.2.2 = 4096 then ((r.1.1.hwPutPage w x.1 now, 0), r.2.drop x.2.2)
      else
        match r.1.1.hwPage w x.1 with
        | some old => ((r.1.1.hwPutPage w x.1 (patchBytes old x.2.1 now), 0), r.2.drop x.2.2)
        | none => ((r.1.1.hostTagFail w x.1, 0x20), [])) ((d, 0), bs)).1

end Sys2Proof.Machine
end

