-- ==== Sys2Proof/Machine/DmaDone.lean ====
section
/-! DEFINITION. The completion of DMA transfers (R165, R202, R203, R217, R260, R272, R273, R371). -/

namespace Sys2Proof.Machine

/-! ## Reading the source -/

/-- The 16-byte words an element of a view lies in. -/
def Desc.wordsOf (q : Desc) (k : Nat) : List Nat :=
  let o := q.rowAddr (k / q.cols) * 8 + (k % q.cols) * fmtWidth q.fmt
  (List.range ((o + fmtWidth q.fmt - 1) / 128 - o / 128 + 1)).map (fun i => o / 128 + i)

/-- The codes of a view's elements, bit for bit. -/
def rawElems (m : List Host.Cell) (q : Desc) : List Nat :=
  (List.range q.count).map (fun k => rdElem m q (k / q.cols) (k % q.cols))

/-- The words of a view that hold flipped bits. -/
def flippedWords (errs : Sparse (BitVec 144)) (q : Desc) : List Nat := (errs.map (·.1)).filter (fun w => q.hasWord w)

/-- What a transfer reads: element codes, scale codes, the words that were uncorrectable, a status that ends it. -/
structure Haul where
  elems : List Nat
  scales : List Nat
  bad : List Nat
  status : Nat
  deriving DecidableEq, Repr

/-- A view in the Loft of physical tile `g` read for a transfer of tile `p`; `values` when escapes travel as values (R91,
R548). -/
def Dev.haulLoft (d : Dev) (g : Nat) (q : Desc) (values : Bool) : Dev × Haul :=
  let t := d.tile g
  let fw := flippedWords t.loftErr q
  let bad := fw.filter (fun w => (sheafRead 0 (sget 0 t.loftErr w).toNat).2 == .uncorrectable)
  (fw.foldl (fun (d : Dev) w => d.loftReport g 0xE6 w) d,
   ⟨if values then wireElems d t t.loft q else rawElems t.loft q, wireScales t.loft q, bad, 0⟩)

/-- A view in the Granary read for a transfer of tile `p`: an uncorrectable word abandons the run of the job's step (R371). -/
def Dev.haulGrn (d : Dev) (p : Nat) (q : Desc) : Dev × Haul :=
  let fw := flippedWords d.grnErr q
  let bad := fw.filter (fun w => (sheafRead 0 (sget 0 d.grnErr w).toNat).2 == .uncorrectable)
  let h : Haul := ⟨rawElems d.grnMem q, wireScales d.grnMem q, bad, 0⟩
  let d := fw.foldl (fun (d : Dev) w => (d.grnReport (16 * w) 0xE6 p).1) d
  (if bad = [] then d else d.abandon (d.tile p).job, h)

/-- The address span of a view, its scale codes included, in a space of its own. -/
def Desc.span (q : Desc) : Nat × Nat :=
  let lo := if isGBlock q.fmt then min q.base q.scaleBase else q.base
  (lo, max q.endAddr q.scaleEnd - lo)

/-- A view in a host window read for a transfer (R273): the words before the first page that fails stand. -/
def Dev.haulHost (d : Dev) (p : Nat) (q : Desc) : Dev × Haul :=
  let s := q.span
  match d.hwFor (d.tile p).job s.1 s.2 with
  | none => (d, ⟨[], [], [], 0x10⟩)
  | some w =>
    let r := d.hwRead w s.1 s.2
    let m := wrBytes [] s.1 r.2.1
    let upTo := s.1 + r.2.1.length
    let whole (k : Nat) : Bool := (q.rowAddr (k / q.cols) * 8 + (k % q.cols + 1) * fmtWidth q.fmt + 7) / 8 ≤ upTo
    (r.1, ⟨((rawElems m q).zipIdx.filter (fun e => r.2.2 == 0 || whole e.2)).map (·.1),
           if r.2.2 = 0 then wireScales m q else [], [], r.2.2⟩)

/-! ## Writing the destination -/

/-- One element written to a Loft by a transfer: as it is, as a new escape where it travels as a value, or by an atomic (R171,
R217). -/
def Dev.landLoft (g : Nat) (q : Desc) (atom : Nat) (d : Dev) (e : Nat × Nat) : Dev :=
  let a := q.rowAddr (e.2 / q.cols) + (e.2 % q.cols) * fmtWidth q.fmt / 8
  if atom = 0 then Dev.putWire g q d e
  else if atom = 1 then d.atomAddInt g a 4 e.1
  else if atom = 3 then
    let v := if 2 ^ 640 ≤ e.1 then (bushelVal (e.1 - 2 ^ 640), 0) else stookValue d (d.tile g) e.1
    (d.onTile g (fun t => t.orBits tNUM_STATUS v.2)).atomAddStook g a v.1
  else d.atomAddBushel g a (bushelVal e.1)

/-- Pairs of 32-bit elements added as 64-bit integers (R217). -/
def Dev.landPairs (d : Dev) (g : Nat) (q : Desc) (es : List Nat) : Dev :=
  (List.range (es.length / 2)).foldl (fun (d : Dev) i =>
    let k := 2 * i
    d.atomAddInt g (q.rowAddr (k / q.cols) + 4 * (k % q.cols)) 8 (es.getD k 0 + es.getD (k + 1) 0 * 2 ^ 32)) d

/-- The destination words of elements that came from uncorrectable words. -/
def poisonedWords (src dst : Desc) (bad : List Nat) : List Nat :=
  if bad = [] then []
  else ((List.range src.count).filter (fun k => (src.wordsOf k).any (fun w => bad.contains w))).flatMap (fun k => dst.wordsOf k)

/-- A haul written to a view of physical tile `g`'s Loft. -/
def Dev.landInLoft (d : Dev) (g : Nat) (src q : Desc) (atom : Nat) (h : Haul) : Dev :=
  let d := if atom = 2 then d.landPairs g q h.elems else (h.elems.zipIdx).foldl (Dev.landLoft g q atom) d
  let d := if isGBlock q.fmt then d.loftWrite g q.scaleBase (h.scales.map (BitVec.ofNat 8)) else d
  d.onTile g (fun t => { t with loftErr := (poisonedWords src q h.bad).foldl (fun m w => sput m w (BitVec.ofNat 144 poisonFlips)) t.loftErr })

/-- A haul written to a view of the Granary. -/
def Dev.landInGrn (d : Dev) (src q : Desc) (h : Haul) : Dev :=
  let d := (h.elems.zipIdx).foldl (fun (d : Dev) e => { d with
    grnMem := wrElem d.grnMem q (e.2 / q.cols) (e.2 % q.cols) e.1
    grnErr := clearFlips d.grnErr (q.rowAddr (e.2 / q.cols)) q.rowBytes }) d
  let d := if isGBlock q.fmt then d.grnWrite q.scaleBase (h.scales.map (BitVec.ofNat 8)) else d
  (poisonedWords src q h.bad).foldl (fun (d : Dev) w => d.grnPoison (16 * w)) d

/-- A haul written to a host window: the device, and the status (R273, R452). Rows and scale codes are written piece by piece. -/
def Dev.landInHost (d : Dev) (p : Nat) (q : Desc) (h : Haul) : Dev × Nat :=
  let s := q.span
  match d.hwFor (d.tile p).job s.1 s.2 with
  | none => (d, 0x10)
  | some w =>
    let m := (h.elems.zipIdx).foldl (fun m e => wrElem m q (e.2 / q.cols) (e.2 % q.cols) e.1) []
    let rows := (List.range q.rows).map (fun r => (q.rowAddr r, rdBytes m (q.rowAddr r) q.rowBytes))
    let parts := rows ++ (if isGBlock q.fmt then [(q.scaleBase, h.scales.map (BitVec.ofNat 8))] else [])
    parts.foldl (fun (r : Dev × Nat) x => if r.2 ≠ 0 then r else r.1.hwWrite w x.1 x.2) (d, 0)

/-! ## The whole transfer -/

/-- Peer space of this device itself: its own windows decide (R272). -/
def Dev.selfPeer (d : Dev) (job : Nat) (write : Bool) (q : Desc) : Bool :=
  let s := q.span
  d.peerWindow job (d.selfRank job) write s.1 s.2

/-- A peer's data as a haul: element codes, then scale codes. -/
def peerHaul (q : Desc) (data : List Nat) (status : Nat) : Haul :=
  ⟨(data.take q.count).map (fun c => c % 2 ^ fmtWidth q.fmt), data.drop q.count, [], status⟩

/-- The source read (R91, R273, R371, R548). -/
def Dev.dmaRead (d : Dev) (p : Nat) (f : Xfer) (status : Nat) (data : List Nat) : Dev × Haul :=
  let t := d.tile p
  let a := Desc.ofNat f.src.toNat
  let b := Desc.ofNat f.dst.toNat
  if a.space = 0 then
    match (if t.logical = some a.owner then some p else d.physOf a.owner) with
    | some g => d.haulLoft g a (b.space == 0 && a.owner != b.owner)
    | none => (d, ⟨[], [], [], 0⟩)
  else if a.space = 1 then d.haulGrn p a
  else if a.space = 2 then
    if d.rankIsSelf t.job (dmPeer f.entry.toNat) then
      if d.selfPeer t.job false a then d.haulGrn p a else (d.windowRefused t.job (dmPeer f.entry.toNat) 2, ⟨[], [], [], 0x10⟩)
    else (d, peerHaul a data status)
  else d.haulHost p a

/-- The destination written; the status that writing gives. -/
def Dev.dmaWrite (d : Dev) (p : Nat) (f : Xfer) (h : Haul) (status : Nat) : Dev × Nat :=
  let t := d.tile p
  let a := Desc.ofNat f.src.toNat
  let b := Desc.ofNat f.dst.toNat
  if b.space = 0 then
    match (if t.logical = some b.owner then some p else d.physOf b.owner) with
    | some g => (d.landInLoft g a b (if f.kind = .dmaIn then dmAtom f.entry.toNat else 0) h, 0)
    | none => (d, 0)
  else if b.space = 1 then (d.landInGrn a b h, 0)
  else if b.space = 2 then
    if d.rankIsSelf t.job (dmPeer f.entry.toNat) then
      if d.selfPeer t.job true b then (d.landInGrn a b h, 0) else (d.windowRefused t.job (dmPeer f.entry.toNat) 2, 0x10)
    else (d, status)
  else d.landInHost p b h

/-- A transfer completes (R165): its words, its record, its banks and its flag. -/
def Dev.dmaComplete (d : Dev) (p : Nat) (f : Xfer) (status : Nat) (data : List Nat) : Dev :=
  let t := d.tile p
  match f.status with
  | some st => d.finishXfer p (d.arriveTc t) f st
  | none =>
    let r := d.dmaRead p f status data
    let w := if r.2.status = 0x10 then (r.1, 0x10) else r.1.dmaWrite p f r.2 status
    let st := if r.2.status ≠ 0 then r.2.status else if r.2.bad ≠ [] then 0x30 else w.2
    w.1.finishXfer p (w.1.arriveTc (w.1.tile p)) f st

/-- The Granary bytes of this device that a transfer writes may be written (R404, R405). -/
def Dev.dmaMayLand (d : Dev) (p : Nat) (f : Xfer) : Bool :=
  let b := Desc.ofNat f.dst.toNat
  if b.space = 1 ∨ (b.space = 2 ∧ d.rankIsSelf (d.tile p).job (dmPeer f.entry.toNat) = true) then
    f.status.isSome || ((List.range b.rows).all (fun r => d.mayLand (b.rowAddr r) b.rowBytes) &&
      (!isGBlock b.fmt || d.mayLand b.scaleBase (b.rows * b.blocks)))
  else true

/-- DMA_COMPLETE (R165): the DMA transfer of tile `p` under `flag` completes. `status` and `data` are what a peer device answers:
its status, and the elements and scale codes it sends; a transfer that needs no peer takes 0 and none. A transfer that waits
for banks, that a fence holds or whose write is held does not complete. -/
def execDmaComplete (p flag status : Nat) (data : List Nat) (s : State) : Host.Outcome State Fault Refusal :=
  if p < 272 then
    match (s.dev.tile p).xfers.find? (fun x => x.running && x.flag == some flag && (x.kind == .dmaIn || x.kind == .dmaOut)) with
    | some f =>
      let waiting := s.dev.tiles.any (fun e => e.2.loftWait.any (fun w => w.cross == some (p, flag)))
      if f.waits = 0 ∧ f.held = false ∧ waiting = false ∧ s.dev.dmaMayLand p f = true then
        .next { s with dev := s.dev.dmaComplete p f status data }
      else .fault .conditionNotMet
    | none => .fault .nothingInFlight
  else .fault .noSuchUnit

end Sys2Proof.Machine
end

