-- ==== Sys2Proof/Machine/JobCmds.lean ====
section
/-! DEFINITION. The commands of space 0x01 after a job's start, and the urgent commands (R35, R122, R156, R324, R330, R333, R334,
R338, R500, R505). -/

namespace Sys2Proof.Machine

/-! ## STEP and GENERATE -/

/-- A step or generate command taken: refused, or held until its release, which comes at once where it may (R35, R122, R384).
`stops` that the number of the last step of all has been taken (R122). -/
def Dev.stepTaken (d : Dev) (k : Nat) (c : Cmd) : Dev :=
  match d.jobById c.job with
  | none => d.final k 0x11 0
  | some j =>
    if j.ending.isSome || (c.op == 0x0102 && j.lastStep == some 0xFFFFFFFF) then d.final k 0x11 0
    else if d.lacksTile j then d.final k 0x34 0
    else
      let d := (d.accept k).onJob c.job (fun j => { j with
        held := j.held ++ [k], lastStep := if c.op = 0x0102 then some (c.body 0 4) else j.lastStep })
      d.tryRelease c.job

/-- A held step command whose release has become possible. -/
def Dev.stepHeld (d : Dev) (k : Nat) (c : Cmd) : Bool :=
  c.started &&
  (match d.jobById c.job with
   | some j => j.held.head? == some k && d.mayRelease j && !j.abandoned
   | none => false)

/-- A step or generate command: taken, or released once everything that held it back is gone. -/
def runStep (op k : Nat) (s : State) : Host.Outcome State Fault Refusal :=
  match sget? s.dev.cmds k with
  | none => .fault .nothingInFlight
  | some c =>
    if c.op = op ∧ s.dev.stepHeld k c = true then .next { s with dev := s.dev.tryRelease c.job }
    else runCmd op k s (fun d c => d.stepTaken k c)

/-- STEP (R35, R122). -/
def execStep (k : Nat) (s : State) : Host.Outcome State Fault Refusal := runStep 0x0102 k s
/-- GENERATE (R120, R508). -/
def execGenerate (k : Nat) (s : State) : Host.Outcome State Fault Refusal := runStep 0x0103 k s

/-! ## RESHARD -/

/-- The boundary that a step number names has passed. -/
def Job.passed (j : Job) (n : Nat) : Bool :=
  if j.running || j.abandoned then decide (n < j.step) else j.bounds != 0 && decide (n ≤ j.step)

/-- A re-shard ordered (R330); `width` is the data-parallel width of the configuration that has been loaded (R338; log entry 81). -/
def Dev.orderReshard (d : Dev) (k : Nat) (c : Cmd) (width : Nat) : Dev :=
  match d.jobById c.job with
  | none => d.final k 0x11 0
  | some j =>
    if j.reshard.isSome then d.final k 0x02 0
    else if j.passed (c.body 0 4) || c.body 4 2 != (d.fld dLAYOUT_EPOCH 15 0 + 1) % 2 ^ 16 || 0x1FF < c.body 6 2 ||
        (j.rounded && width != j.width) then d.final k 0x11 0
    else (d.accept k).onJob c.job (fun j => { j with reshard := some ⟨c.body 0 4, c.body 4 2, c.body 6 2, k⟩ })

/-- RESHARD (R330). -/
def execReshard (k width : Nat) (s : State) : Host.Outcome State Fault Refusal :=
  runCmd 0x0104 k s (fun d c => d.orderReshard k c width)

/-! ## JOB_END -/

/-- Nothing of the job's tables runs: its engines are done and its transfers have ended (R193, R508). -/
def Dev.jobQuiet (d : Dev) (id : Nat) : Bool :=
  (d.jobTiles id).all (fun p =>
    let t := d.tile p
    t.state != stRUN && t.state != stWAIT && t.eng.isEmpty && t.loftWait.isEmpty && t.xfers.all (fun x => !x.running))

/-- Every table has ended (R508): no run is under way and no step is held, or the run has stopped or halted for good and all of
it has drained. -/
def Dev.tablesEnded (d : Dev) (j : Job) : Bool :=
  d.jobQuiet j.id && ((!j.running && !j.abandoned && j.held == []) ||
    (d.jobTiles j.id).any (fun p => (d.tile p).state == stSTOPPED || (d.tile p).state == stHALTED) || d.lacksTile j)

/-- A tile leaves its job: its unsent counts go out and its keys are cleared (R118, R156). -/
def Dev.leaveTile (d : Dev) (p : Nat) : Dev :=
  (d.sendWorks p).onTile p (fun t => { (t.dropKeys).setFld tTILE_CTRL 0 0 0 with job := 0, verify := false, rep := false, start := none })

/-- The configuration of a job's barriers, rings and groups is void once the job has ended (log entry 82). -/
def Dev.dropConfigs (d : Dev) (id : Nat) : Dev :=
  let d := ((List.range 64).filter (fun b => d.barReg b dBAR_JOB == id)).foldl (fun (d : Dev) b =>
    (d.setFld (dBAR_CFG + 0x40 * b) 10 10 0).wr (dBAR_HOME + 0x40 * b) 0) d
  let d := ((List.range 16).filter (fun r => d.ringReg r dRING_JOB == id)).foldl (fun (d : Dev) r =>
    d.setFld (dRING_CFG + 0x40 * r) 30 30 0) d
  ((List.range 64).filter (fun g => d.collReg g dCOLL_JOB == id)).foldl (fun (d : Dev) g =>
    d.setFld (dCOLL_CFG + 0x80 * g) 9 9 0) d

/-- The carries of a job dropped at its end (R324). -/
def Dev.dropCarries (d : Dev) (id : Nat) : Dev :=
  let d := (d.carries.filter (fun c => c.job == id)).foldl (fun (d : Dev) c => d.dropCarry c 2) d
  ({ d with carries := d.carries.filter (fun c => c.job != id) } : Dev).showCarries

/-- The step and re-shard commands of a job that its end leaves without a boundary: the spec gives their status no value (log entry
83). -/
def Dev.answerLeft (d : Dev) (j : Job) : Dev :=
  (j.cmd.toList ++ j.held ++ (j.reshard.map (·.cmd)).toList).foldl (fun (d : Dev) k =>
    { d.final k (Config.freeNat d.freeCtr % 256) 0 with freeCtr := d.freeCtr + 1 }) d

/-- The registers of a job slot that is free again (R305, R342, R432, R510). -/
def Dev.freeSlotRegs (d : Dev) (u : Nat) : Dev :=
  let d := (d.wr (slotReg dSNAP_JOB u) 0).wr (slotReg dSNAP_CFG u) 0
  let d := ((d.wr (slotReg dBI_BASE u) 0).wr (slotReg dBI_SIZE u) 0).wr (slotReg dBI_USED u) 0
  ((d.wr (dJOB_RANKS + 8 * u) 0).wr (dJOB_RANKS_HI + 8 * u) 0).showJobs

/-- The logical tile that the repair table maps to a physical tile. -/
def Dev.mappedAs (d : Dev) (p : Nat) : Option Nat := (List.range 256).find? (fun l => d.physOf l == some p)

/-- The verifiers and voters of a job go back: a spare is free again, a tile that stands for a logical tile stays mapped (R382,
R383). -/
def Dev.freeMirrors (d : Dev) (id : Nat) : Dev :=
  let ms := d.mirrors.filter (fun m => m.job == id)
  let vs := (ms.flatMap (fun m => [m.verifier, m.voter])).eraseDups.filter (fun p => p < 272)
  let d := vs.foldl (fun (d : Dev) p =>
    let l := d.mappedAs p
    let d := if d.fld (dPHYS_STATE + 4 * p) 2 0 = 2 then d.setPhys p (if l.isSome then 0 else 1) else d
    d.onTile p (fun t => { t.dropKeys with verify := false, shadow := none, logical := l })) d
  { d with mirrors := d.mirrors.filter (fun m => m.job != id) }

/-- Job slot `u` ended (R118, R156, R324, R508). -/
def Dev.endJob (d : Dev) (u : Nat) (j : Job) : Dev :=
  let d := (d.answerLeft j).dropCarries j.id
  let d := (d.jobTiles j.id).foldl (fun (d : Dev) p => d.leaveTile p) (d.freeMirrors j.id)
  let d := d.dropConfigs j.id
  let d := if j.replay then d.setFld dBND_STATUS 6 6 0 else d
  let d := { d with jobs := sdel d.jobs u
                    conns := d.conns.filter (fun c => c.1 / 2 ^ 17 != j.id)
                    buckets := d.buckets.filter (fun x => d.collReg x.slot dCOLL_JOB != j.id)
                    homes := d.homes.filter (fun x => d.collReg x.slot dCOLL_JOB != j.id)
                    fences := d.fences.filter (fun f => f.job != j.id)
                    power := { d.power with idlePs := d.clock.ps } }
  ((d.clearInner j.id).showFences.answerFences).freeSlotRegs u

/-- A job-end command whose tables have ended is carried out (R508). -/
def Dev.tryEnd (d : Dev) (id : Nat) : Dev :=
  match d.jobSlot id, d.jobById id with
  | some u, some j =>
    match j.ending with
    | some k =>
      if d.tablesEnded j then
        let d := d.endJob u j
        (if d.anyJob then d else d.applyStaged).final k 0 0
      else d
    | none => d
  | _, _ => d

/-- A job-end command taken. -/
def Dev.jobEndTaken (d : Dev) (k : Nat) (c : Cmd) : Dev :=
  match d.jobById c.job with
  | none => d.final k 0x11 0
  | some j =>
    if j.ending.isSome then d.final k 0x11 0
    else if d.tablesEnded j then (d.onJob c.job (fun j => { j with ending := some k })).tryEnd c.job
    else (d.accept k).onJob c.job (fun j => { j with ending := some k })

/-- A job-end command that can be carried out now. -/
def Dev.endReady (d : Dev) (k : Nat) (c : Cmd) : Bool :=
  match d.jobById c.job with
  | some j => j.ending == some k && d.tablesEnded j
  | none => false

/-- JOB_END (R324, R508). -/
def execJobEnd (k : Nat) (s : State) : Host.Outcome State Fault Refusal :=
  match sget? s.dev.cmds k with
  | none => .fault .nothingInFlight
  | some c =>
    if c.op = 0x0105 ∧ s.dev.endReady k c = true then .next { s with dev := s.dev.tryEnd c.job }
    else runCmd 0x0105 k s (fun d c => d.jobEndTaken k c)

/-! ## Urgent commands (R505) -/

/-- The jobs that an urgent command names. -/
def Dev.namedJobs (d : Dev) (job : Nat) : List Nat :=
  if job = 0xFFFFFFFF then d.jobs.map (·.2.id) else if (d.jobById job).isSome then [job] else []

/-- HALT (R195, R505). -/
def execHalt (k : Nat) (s : State) : Host.Outcome State Fault Refusal :=
  runDone 0x0F01 k s (fun d c =>
    if d.namedJobs c.job = [] then (d, 0x11, 0)
    else ((d.namedJobs c.job).foldl (fun (d : Dev) id => d.haltJob id) d, 0x00, 0))

/-- The epoch that a fence or drain names: all where SCOPE is 0 (R333). -/
def Cmd.scope (c : Cmd) : Option Nat := if c.body 0 1 = 0 then none else some (c.body 1 2)

/-- A fence or drain ordered: refused, or answered when it is reported complete (R333, R334, R505). -/
def Dev.orderFence (d : Dev) (k : Nat) (c : Cmd) (f : Dev → Nat → Dev) : Dev :=
  if d.namedJobs c.job = [] ∨ 1 < c.body 0 1 then d.final k 0x11 0
  else (d.namedJobs c.job).foldl f (d.accept k)

/-- FENCE (R333, R505). -/
def execFence (k : Nat) (s : State) : Host.Outcome State Fault Refusal :=
  runCmd 0x0F02 k s (fun d c => d.orderFence k c (fun d id => d.fenceJob id c.scope false))

/-- DRAIN (R334, R505). -/
def execDrain (k : Nat) (s : State) : Host.Outcome State Fault Refusal :=
  runCmd 0x0F03 k s (fun d c => d.orderFence k c (fun d id => d.drainJob id c.scope))

/-- FENCE_LIFT (R333). -/
def execFenceLift (k : Nat) (s : State) : Host.Outcome State Fault Refusal :=
  runDone 0x0F04 k s (fun d c =>
    if d.namedJobs c.job = [] then (d, 0x11, 0)
    else (((d.namedJobs c.job).foldl (fun (d : Dev) id => d.liftFences id) d).answerFences, 0x00, 0))

end Sys2Proof.Machine
end

