-- ==== Sys2Proof/Machine/Windows.lean ====
section
/-! DEFINITION. The commands of space 0x02, windows and host copies (R272 to R276, R452, R461); of space 0x05 on the Granary (R265,
R267, R268); partitions (R449). -/

namespace Sys2Proof.Machine

/-! ## Windows -/

/-- A window's register: peer windows 0 to 31, host windows 32 to 47. -/
def Dev.winReg (d : Dev) (w off : Nat) : Nat := d.rd (off + 0x20 * w)
/-- A window is open. -/
def Dev.winOpen (d : Dev) (w : Nat) : Bool := bit (d.winReg w dWIN_CFG) 31

/-- A window written (R276). -/
def Dev.openWindow (d : Dev) (w job tenant cfg base size : Nat) : Dev :=
  let b := 0x20 * w
  let d := ((d.wr (dWIN_JOB + b) job).wr (dWIN_CFG + b) (cfg + 2 ^ 31)).wr (dWIN_BASE_LO + b) (base % 2 ^ 32)
  let d := (d.wr (dWIN_BASE_HI + b) (base / 2 ^ 32)).wr (dWIN_SIZE + b) size
  { d with winTenant := sput d.winTenant w tenant }

/-- A window closed. -/
def Dev.shutWindow (d : Dev) (w : Nat) : Dev :=
  { d.setFld (dWIN_CFG + 0x20 * w) 31 31 0 with winTenant := sdel d.winTenant w }

/-- A window stands open for another job (log entry 85). -/
def Dev.winForeign (d : Dev) (w job : Nat) : Bool := d.winOpen w && d.winReg w dWIN_JOB != job

/-- PEER_WINDOW (R272, R276, R449). -/
def execPeerWindow (k : Nat) (s : State) : Host.Outcome State Fault Refusal :=
  runDone 0x0201 k s (fun d c =>
    let w := c.body 0 1
    let base := c.body 4 8
    let size := c.body 12 4
    match d.jobById c.job with
    | none => (d, 0x11, 0)
    | some j =>
      if 32 ≤ w ∨ 3 < c.body 3 1 ∨ 0x7FFF < c.body 1 2 ∨ d.winForeign w c.job = true ∨
          d.areaOk j.tenant base (65536 * size) = false then (d, 0x11, 0)
      else (d.openWindow w c.job j.tenant (c.body 1 2 + c.body 3 1 * 2 ^ 16) base size, 0x00, 0))

/-- A locked operation refused (R461, R465). -/
def Dev.lockedOut (d : Dev) (c : Cmd) (n : Nat) : Dev × Nat × Nat := (d.tcLog 14 0x13 c.tenant c.job n, 0x13, 0)

/-- HOST_WINDOW (R273, R276, R461). -/
def execHostWindow (k : Nat) (s : State) : Host.Outcome State Fault Refusal :=
  runDone 0x0202 k s (fun d c =>
    let w := c.body 0 1
    match d.jobById c.job with
    | none => (d, 0x11, 0)
    | some j =>
      if bit (d.rd dTC_LOCK) 5 then d.lockedOut c 5
      else if 16 ≤ w ∨ d.winForeign (32 + w) c.job = true then (d, 0x11, 0)
      else (d.openWindow (32 + w) c.job j.tenant 0 (c.body 4 8) (c.body 12 4), 0x00, 0))

/-- A transfer of a tile moves words of host window `w` (R273). -/
def Dev.inHostWindow (d : Dev) (job w : Nat) (f : Xfer) : Bool :=
  let q := Desc.ofNat (if f.kind = .dmaIn then f.src.toNat else f.dst.toNat)
  (f.kind == .dmaIn || f.kind == .dmaOut) && q.space == 3 && d.hwFor job q.span.1 q.span.2 == some w

/-- The transfers in a host window ended with ST_TIMEOUT (R274). -/
def Dev.endInWindow (d : Dev) (w : Nat) : Dev :=
  let xs := d.tiles.flatMap (fun e => (e.2.xfers.filter (fun f => f.running && d.inHostWindow e.2.job w f)).map (fun f => (e.1, f)))
  xs.foldl (fun (d : Dev) x => d.endAny x.1 x.2 0x40) d

/-- WINDOW_CLOSE (R274, R276). -/
def execWindowClose (k : Nat) (s : State) : Host.Outcome State Fault Refusal :=
  runDone 0x0203 k s (fun d c =>
    let kind := c.body 0 1
    let w := c.body 1 1
    let n := if kind = 0 then w else 32 + w
    if 1 < kind ∨ (if kind = 0 then 32 else 16) ≤ w ∨ d.winOpen n = false ∨ d.winReg n dWIN_JOB ≠ c.job then (d, 0x11, 0)
    else ((if kind = 1 then d.endInWindow w else d).shutWindow n, 0x00, 0))

/-- The checks of a host copy: whole pages of an open window of the job, and the data part of its tenant (R449, R452). -/
def Dev.copyOk (d : Dev) (c : Cmd) : Bool :=
  let w := c.body 0 1
  match d.jobById c.job with
  | none => false
  | some j =>
    d.hwOpen w && d.hwReg w dWIN_JOB == c.job && c.body 1 1 ≤ 1 && c.body 4 8 % 4096 == 0 && c.body 20 4 % 4096 == 0 &&
    c.body 4 8 + c.body 20 4 ≤ d.hwData w && d.areaOk j.tenant (c.body 12 8) (c.body 20 4)

/-- A host copy carried out: whole pages, to the device or to the host (R452). -/
def Dev.hostCopy (d : Dev) (c : Cmd) : Dev × Nat × Nat :=
  if !d.copyOk c then (d, 0x11, 0)
  else if c.body 1 1 = 0 then
    let r := d.hwRead (c.body 0 1) (c.body 4 8) (c.body 20 4)
    (r.1.jobWrite (c.body 12 8) r.2.1, r.2.2, 0)
  else
    let r := d.hwWrite (c.body 0 1) (c.body 4 8) (d.grnRead (c.body 12 8) (c.body 20 4))
    (r.1, r.2, 0)

/-- HOST_COPY (R404, R405, R452): a copy to persistent chunks waits until its write may land. -/
def execHostCopy (k : Nat) (s : State) : Host.Outcome State Fault Refusal :=
  match sget? s.dev.cmds k with
  | none => .fault .nothingInFlight
  | some c =>
    if c.body 1 1 ≠ 0 ∨ s.dev.copyOk c = false ∨ s.dev.mayLand (c.body 12 8) (c.body 20 4) = true then
      runDone 0x0204 k s (fun d c => d.hostCopy c)
    else .fault .conditionNotMet

/-! ## Retirement -/

/-- An order's status as a final reply: a queued order is answered ST_QUEUED (R267). -/
def execRetirePage (k : Nat) (s : State) : Host.Outcome State Fault Refusal :=
  runDone 0x0501 k s (fun d c =>
    if c.body 0 1 < 24 ∧ c.body 4 4 < d.progPages then
      let r := d.orderPage (c.body 0 1) (c.body 4 4)
      (r.1, r.2, 0)
    else (d, 0x11, 0))

/-- RETIRE_STACK (R268, R269). -/
def execRetireStack (k : Nat) (s : State) : Host.Outcome State Fault Refusal :=
  runDone 0x0502 k s (fun d c =>
    if c.body 0 1 < 24 then
      let r := d.orderStack (c.body 0 1)
      (r.1, r.2, 0)
    else (d, 0x11, 0))

/-! ## Partitions (R449) -/

/-- The bytes of a range zeroed; every word of it is written anew. -/
def Dev.zeroFill (d : Dev) (a n : Nat) : Dev :=
  { d with grnMem := d.grnMem.filter (fun c => !(a ≤ c.1 && c.1 < a + n))
           grnErr := d.grnErr.filter (fun e => !(a ≤ 16 * e.1 && 16 * e.1 < a + n)) }

/-- Gibibytes as bytes. -/
def gib (n : Nat) : Nat := n * 2 ^ 30

/-- The lowest free entry of the partition registers. -/
def Dev.freePart (d : Dev) : Option Nat := (List.range 16).find? (fun n => bits (d.rd (dTC_PART + 16 * n)) 21 11 == 0)

/-- PART_ALLOC's status, 0 where it is granted. -/
def Dev.partRefusal (d : Dev) (base size : Nat) : Nat :=
  if size = 0 ∨ d.top < gib (base + size) then 0x11
  else if d.parts.any (fun p => p.base < gib (base + size) && gib base < p.base + p.size) then 0x15
  else if d.freePart.isNone then 0x02
  else 0

/-- A partition granted: zero-filled first (R449). -/
def Dev.partAlloc (d : Dev) (tenant base size : Nat) : Dev :=
  let n := d.freePart.getD 0
  let d := d.zeroFill (gib base) (gib size)
  let d := { d with parts := d.parts ++ [Part.mk tenant (gib base) (gib size)] }
  (d.wr (dTC_PART + 16 * n) (base + size * 2 ^ 11)).wr (dTC_PART_HI + 16 * n) tenant

/-- PART_ALLOC (R449). -/
def execPartAlloc (k : Nat) (s : State) : Host.Outcome State Fault Refusal :=
  runDone 0x0704 k s (fun d c =>
    let st := d.partRefusal (c.body 0 2) (c.body 2 2)
    if st = 0 then (d.partAlloc c.tenant (c.body 0 2) (c.body 2 2), 0x00, 0) else (d, st, 0))

/-- A partition zero-filled and freed (R449). -/
def Dev.partFree (d : Dev) (p : Part) : Dev :=
  let d := d.zeroFill p.base p.size
  let d := { d with parts := d.parts.filter (fun q => q.base != p.base) }
  (List.range 16).foldl (fun (d : Dev) n =>
    if bits (d.rd (dTC_PART + 16 * n)) 21 11 ≠ 0 ∧ gib (bits (d.rd (dTC_PART + 16 * n)) 10 0) = p.base then
      (d.wr (dTC_PART + 16 * n) 0).wr (dTC_PART_HI + 16 * n) 0
    else d) d

/-- PART_FREE (R449): a partition of the tenant that starts there. -/
def execPartFree (k : Nat) (s : State) : Host.Outcome State Fault Refusal :=
  runDone 0x0705 k s (fun d c =>
    match d.parts.find? (fun p => p.tenant == c.tenant && p.base == gib (c.body 0 2)) with
    | some p => (d.partFree p, 0x00, 0)
    | none => (d, 0x11, 0))

end Sys2Proof.Machine
end

