-- ==== Sys2Proof/Machine/Trust.lean ====
section
/-! DEFINITION. The commands of the trust core (R437, R440, R441, R443 to R445, R448, R454, R455, R457, R458, R461), of persistent
configuration (R430), and the owner's integrity commands (R385, R394); log entries 96 to 98. -/

namespace Sys2Proof.Machine

/-! ## Signatures and reports -/

/-- M0, which the AK derives from (R436). -/
def Dev.m0 (d : Dev) : List Nat := d.meas 0
/-- The AK's public keys. -/
def Dev.akKeys (d : Dev) : List Nat := natBytes 2689 (Config.akPublic d.m0)

/-- A signature block of `n` bytes by the AK over bytes (R457): `hmac` fills the 48 bytes of form 3. -/
def Dev.akBlock (d : Dev) (form n : Nat) (signed hmac : List Nat) : List Nat :=
  let b := natBytes 2 form ++ [0, 0] ++ sha384 d.akKeys ++ natBytes 4723 (Config.akSign d.m0 (sha384 signed)) ++ hmac
  b ++ List.replicate (n - b.length) 0

/-- The AK certificate (R437). -/
def Dev.akCert (d : Dev) : List Nat :=
  let head := natBytes 4 0x5A435254 ++ deviceId ++ [4] ++ d.m0 ++ d.akKeys.take 97 ++ d.akKeys.drop 97
  head ++ List.replicate (4096 - head.length) 0 ++ natBytes 8192 (Config.akCertBlock d.m0)

/-- SHA-384 over the owner's public keys, zero without an owner. -/
def Dev.ownerDigest (d : Dev) : List Nat :=
  match d.persist.owner with | some o => sha384 o.keys | none => List.replicate 48 0

/-- The body of an attestation report (R458). -/
def Dev.reportBody (d : Dev) (nonce : List Nat) (eph : Nat) : List Nat :=
  let b := natBytes 4 0x5A415454 ++ natBytes 4 1 ++ natBytes 8 d.stamp ++ nonce ++ deviceId ++
    natBytes 1 d.fuses.grade ++ natBytes 1 d.fuses.refRev ++ natBytes 2 (d.rd dTC_STATUS) ++ natBytes 4 (d.rd dTC_LOCK) ++
    [0, 1, 2, 3].flatMap (fun c => natBytes 2 (d.minSvn c)) ++ List.replicate 8 0 ++
    (List.range 8).flatMap (fun k => d.meas k) ++ d.ownerDigest ++ sha384 (natBytes 1665 (Config.ephPublic eph)) ++
    natBytes 4 (d.rd dCFG_SEQ_LO) ++ natBytes 4 (d.rd dCFG_SEQ_HI)
  b ++ List.replicate (1024 - b.length) 0

/-- An attestation made (R445 step 1): a fresh ephemeral pair, the report with its block, the certificates. -/
def Dev.attest (d : Dev) (c : Cmd) : Dev × Nat × Nat :=
  if c.buf.length < 32 then (d, 0x11, 0)
  else
    let body := d.reportBody (toNats (c.buf.take 32)) d.freeCtr
    let out := body ++ d.akBlock 1 7168 body (List.replicate 48 0) ++ natBytes 12288 Config.dikCert ++ d.akCert
    let d := { d with trust := { d.trust with report := some ⟨d.clock.ps, sha384 body, d.freeCtr⟩ }, freeCtr := d.freeCtr + 1 }
    (d.putBuf c (toBytes out), 0x00, 0)

/-- ATTEST (R445). -/
def execAttest (k : Nat) (s : State) : Host.Outcome State Fault Refusal := runDone 0x0701 k s (fun d c => d.attest c)

/-! ## Sessions -/

/-- TC_SESSIONS kept equal to the sessions open. -/
def Dev.showSessions (d : Dev) : Dev := d.wr dTC_SESSIONS d.trust.sessions.length

/-- A tenant identifier that nobody holds: the spec leaves the choice open. -/
def Dev.freshTenant (d : Dev) : Nat :=
  let r := Config.freeNat d.freeCtr
  let used (t : Nat) : Bool := d.trust.sessions.any (fun s => s.tenant == t) || d.parts.any (fun p => p.tenant == t)
  (((List.range 64).map (fun i => 1 + (r + i) % 0xFFFE)).find? (fun t => !used t)).getD 1

/-- A session opened (R445 steps 3 and 4; log entry 97 places the buffer's fields). -/
def Dev.sessionOpen (d : Dev) (c : Cmd) : Dev × Nat × Nat :=
  let b := toNats c.buf
  if b.length < 1713 then (d, 0x11, 0)
  else
    match d.trust.report with
    | none => (d.authFail 1 0 0 c.seq, 0x20, 0)
    | some r =>
      if r.ps + 60000000000000 < d.clock.ps then (d.authFail 1 0 0 c.seq, 0x20, 0)
      else if 8 ≤ d.trust.sessions.length then (d, 0x22, 0)
      else
        let z := natBytes 80 (Config.sharedSecret r.eph (b.take 1665))
        let ks := kdf z (label4 'Z' 'S' 'E' 'S') (r.digest ++ sha384 (b.take 97)) 96
        let kt := ks.drop 64
        let ct := (b.drop 1665).take 32
        if gcmTag kt (List.replicate 12 0) [] ct ≠ (b.drop 1697).take 16 then (d.authFail 1 0 0 c.seq, 0x20, 0)
        else
          let trk := gcmCrypt kt (List.replicate 12 0) ct
          if d.trust.sessions.any (fun s => s.trk == trk) then (d, 0x22, 0)
          else
            let t := d.freshTenant
            let s : Session := ⟨t, ks.take 32, (ks.drop 32).take 32, kt, trk, 0, []⟩
            let d := { d with trust := { d.trust with sessions := d.trust.sessions ++ [s], report := none }, freeCtr := d.freeCtr + 1 }
            (d.showSessions.tcLog 10 0 t 0 0, 0x00, t)

/-- SESSION_OPEN (R445, R465). -/
def execSessionOpen (k : Nat) (s : State) : Host.Outcome State Fault Refusal := runDone 0x0702 k s (fun d c => d.sessionOpen c)

/-- What the close of a tenant's session does in turn (R448): keys, host windows, partitions, identifier. -/
def Dev.closeSession (d : Dev) (t : Nat) : Dev :=
  let d := { d with trust := { d.trust with sessions := d.trust.sessions.filter (fun s => s.tenant != t) } }
  let ws := (d.winTenant.filter (fun (w : Nat × Nat) => w.2 == t && 32 ≤ w.1)).map (·.1)
  let d := ws.foldl (fun (d : Dev) w => (d.endInWindow (w - 32)).shutWindow w) d
  let d := (d.parts.filter (fun p => p.tenant == t)).foldl (fun (d : Dev) p => d.partFree p) d
  d.showSessions.tcLog 11 0 t 0 0

/-- A session-close command: refused while a job of the tenant runs; the reply carries the tag of the session it ends. -/
def Dev.sessionClose (d : Dev) (k : Nat) (c : Cmd) : Dev :=
  if d.jobs.any (fun e => e.2.tenant == c.tenant) then d.final k 0x24 0
  else
    let kr := d.replyKey c
    let d := d.closeSession c.tenant
    let d := (d.putReply c.src c.seq 0x00 true c.head 0 kr).freeSource c.src
    { d with cmds := sdel d.cmds k }

/-- SESSION_CLOSE (R448). -/
def execSessionClose (k : Nat) (s : State) : Host.Outcome State Fault Refusal := runCmd 0x0703 k s (fun d c => d.sessionClose k c)

/-! ## Firmware (R440, R441) -/

/-- A command's payload behind the owner's block (R444; log entry 74). -/
def Cmd.payload (c : Cmd) : List Byte := c.buf.drop ownerArea
/-- A TC_LOCK bit. -/
def Dev.locked (d : Dev) (n : Nat) : Bool := bit (d.rd dTC_LOCK) n

/-- An image that a buffer carries, with its class. -/
def imageOf (bs : List Nat) : Nat × Image :=
  let h := Config.imageHeader bs
  (h.1, ⟨h.2.1, h.2.2.1, sha384 (bs.drop 8192), h.2.2.2⟩)

/-- The status of a load, 0 where the image passes (R439 to R441, R461). -/
def Dev.loadStatus (d : Dev) (cls : Nat) (x : Nat × Image) : Nat :=
  if 3 < cls ∨ 64 < x.2.svn then 0x11
  else if !x.2.ok || x.1 != cls then 0x20
  else if x.2.svn < d.minSvn cls then 0x23
  else 0

/-- An image written to the slot that its class was not booted from (R440). -/
def Dev.storeImage (d : Dev) (cls : Nat) (i : Image) : Dev :=
  let p := d.imagesOf cls
  let p := if d.trust.booted.getD cls 2 = 0 then (p.1, some i) else (some i, p.2)
  { d with persist := { d.persist with images := d.persist.images.set cls p } }

/-- A load carried out: it takes effect at once where no job slot is in use, at the next step boundary where one is; a trust-core image
at the next cold reset (R440). -/
def Dev.fwLoad (d : Dev) (k : Nat) (c : Cmd) : Dev :=
  let cls := c.body 12 1
  let x := imageOf (toNats c.payload)
  if d.locked 0 then
    let r := d.lockedOut c 0
    r.1.final k r.2.1 0
  else
    let st := d.loadStatus cls x
    if st ≠ 0 then
      let d := if st = 0x23 then d.orBits dTC_FLAGS 4 else d
      (if st = 0x11 then d else d.tcLog 12 st 0 0 x.2.svn).final k st 0
    else
      let d := (d.storeImage cls x.2).tcLog 12 0 0 0 x.2.svn
      if cls = 0 then d.final k 0x00 0
      else if d.anyJob then { d.accept k with trust := { d.trust with staged := d.trust.staged ++ [(cls, x.2)] } }
      else (d.applyImage (cls, x.2)).final k 0x00 0

/-- FW_LOAD (R440). -/
def execFwLoad (k : Nat) (s : State) : Host.Outcome State Fault Refusal := runCmd 0x0706 k s (fun d c => d.fwLoad k c)

/-- The image that a class was booted from. -/
def Dev.bootedImage (d : Dev) (cls : Nat) : Option Image :=
  match d.trust.booted.getD cls 2 with
  | 0 => (d.imagesOf cls).1
  | 1 => (d.imagesOf cls).2
  | _ => none

/-- FUSE_SVN (R441). -/
def execFuseSvn (k : Nat) (s : State) : Host.Outcome State Fault Refusal :=
  runDone 0x0707 k s (fun d c =>
    let cls := c.body 12 1
    if d.locked 3 then d.lockedOut c 3
    else
      match if cls < 4 then d.bootedImage cls else none with
      | some i =>
        (({ d with persist := { d.persist with svn := d.persist.svn.set cls (max (d.minSvn cls) i.svn) } } : Dev).showSvn, 0x00, 0)
      | none => (d, 0x11, 0))

/-! ## Ownership and locks (R443, R461) -/

/-- The base-32 character of five bits (log entry 98). -/
def base32 (n : Nat) : Nat := if n < 26 then 65 + n else 24 + n
/-- The claim code (R443): the first 50 bits of the KDF's output as ten characters. -/
def claimCode : List Nat :=
  let v := beNat ((kdf (natBytes 32 Config.uds) (label4 'Z' 'C' 'L' 'M') [] 32).take 7) / 64
  (List.range 10).map (fun i => base32 (v / 2 ^ (45 - 5 * i) % 32))

/-- Bytes of the two public keys of an owner (R443, R457). -/
def ownerKeyBytes : Nat := 2689

/-- A wrong claim (R443). -/
def Dev.claimFail (d : Dev) (c : Cmd) : Dev :=
  let n := d.trust.claims + 1
  let d := ({ d with trust := { d.trust with claims := n } } : Dev).setFld dTC_STATUS 5 5 (b2n (8 ≤ n))
  (d.orBits dTC_FLAGS 1).tcLog 8 0x20 0 0 c.seq

/-- An owner record installed. -/
def Dev.installOwner (d : Dev) (o : Owner) : Dev := ({ d with persist := { d.persist with owner := some o } } : Dev).showOwner

/-- OWNER_CLAIM (R443; log entry 98 places the buffer's fields). -/
def execOwnerClaim (k : Nat) (s : State) : Host.Outcome State Fault Refusal :=
  runDone 0x0708 k s (fun d c =>
    let b := toNats c.buf
    if b.length < 16 + ownerKeyBytes then (d, 0x11, 0)
    else if d.persist.owner.isSome || 8 ≤ d.trust.claims then ((d.orBits dTC_FLAGS 1).tcLog 8 0x20 0 0 c.seq, 0x20, 0)
    else if b.take 10 = claimCode then (d.installOwner ⟨(b.drop 16).take ownerKeyBytes, 0⟩, 0x00, 0)
    else (d.claimFail c, 0x20, 0))

/-- OWNER_TRANSFER (R443): the payload is the new record, keys and counter. -/
def execOwnerTransfer (k : Nat) (s : State) : Host.Outcome State Fault Refusal :=
  runDone 0x0709 k s (fun d c =>
    let b := toNats c.payload
    if d.locked 2 then d.lockedOut c 2
    else if b.length < ownerKeyBytes + 8 then (d, 0x11, 0)
    else (d.installOwner ⟨b.take ownerKeyBytes, bytesNat ((b.drop ownerKeyBytes).take 8)⟩, 0x00, 0))

/-- LOCK (R461). -/
def execLockBits (k : Nat) (s : State) : Host.Outcome State Fault Refusal :=
  runDone 0x070A k s (fun d c =>
    if 64 ≤ c.body 12 1 then (d, 0x11, 0) else ((d.orBits dTC_LOCK (c.body 12 1)).tcLog 14 0 0 0 (c.body 12 1), 0x00, 0))

/-! ## Persistent configuration (R430) -/

/-- Daybook entries written from bytes. -/
def Dev.putEntries (d : Dev) (a : Nat) (bs : List Nat) : Dev :=
  (List.range ((bs.length + 63) / 64)).foldl (fun (d : Dev) i =>
    { d with integ := { d.integ with
        daybook := sput d.integ.daybook (a + i) (BitVec.ofNat 512 (bytesNat ((bs.drop (64 * i)).take 64))) } }) d

/-- A slot written in R430's order; the payload is the body's length, the body, the signatures (log entry 92). -/
def Dev.writeSlot (d : Dev) (s : Nat) (body sig : List Nat) : Dev :=
  let seq := d.rd dCFG_SEQ_LO + d.rd dCFG_SEQ_HI * 2 ^ 32 + 1
  let d := d.putEntries (slotBase s + 511) (List.replicate 64 0)
  let head := natBytes 4 0x5A434647 ++ natBytes 4 1 ++ natBytes 8 seq ++ natBytes 4 body.length ++ List.replicate 44 0
  let d := d.putEntries (slotBase s) head
  let d := (d.putEntries (slotBase s + 1) (body ++ List.replicate (431 * 64 - body.length) 0)).putEntries (slotBase s + 432) sig
  d.putEntries (slotBase s + 511) (natBytes 4 0x5A434D54 ++ natBytes 8 seq ++ natBytes 4 (crc32c (toBytes head)))

/-- CFG_WRITE (R430): into the slot not in use; it waits for a cold reset. -/
def execCfgWrite (k : Nat) (s : State) : Host.Outcome State Fault Refusal :=
  runDone 0x0306 k s (fun d c =>
    let b := toNats c.payload
    let n := bytesNat (b.take 4)
    if d.locked 1 then d.lockedOut c 1
    else if n % 16 ≠ 0 ∨ 431 * 64 < n ∨ b.length < 4 + n then (d, 0x11, 0)
    else
      let sl := if d.fld dCFG_STATUS 3 3 = 1 then 0 else 1 - d.fld dCFG_STATUS 0 0
      let d := d.writeSlot sl ((b.drop 4).take n) ((b.drop (4 + n)).take (79 * 64))
      ((d.setFld dCFG_STATUS (1 + sl) (1 + sl) (b2n (d.validSlot sl).isSome)).setFld dCFG_STATUS 4 4 1, 0x00, 0))

/-! ## Link keys (R454, R455) -/

/-- SAK_INSTALL (R455): the payload is the port, the direction, the association, a reserved byte, the identifier, the key (log entry
98). -/
def execSakInstall (k : Nat) (s : State) : Host.Outcome State Fault Refusal :=
  runDone 0x0307 k s (fun d c =>
    let b := toNats c.payload
    let port := b.headD 0
    let dir := (b.drop 1).headD 0
    if b.length < 40 ∨ 32 ≤ port ∨ 2 ≤ dir ∨ 4 ≤ (b.drop 2).headD 0 ∨ d.direct (port / 4) (port % 4) = true then (d, 0x11, 0)
    else
      let key := b.take 3 ++ (b.drop 4).take 36
      let saks := d.persist.saks.filter (fun x => !(x.headD 0 == port && (x.drop 1).headD 0 == dir)) ++ [key]
      let d := { d with persist := { d.persist with saks := saks } }
      (if d.sakReady port then d.orBits (psOff (port / 4) (port % 4)) 4 else d, 0x00, 0))

/-- The latest key agreement of a port: its association, its time, whether it failed. -/
def Dev.agreement (d : Dev) (port : Nat) : Option (Nat × Nat × Bool) := sget? d.trust.agreed port

/-- An agreement's outcome on a port (R454): the next association, or LINK_FAIL. -/
def Dev.agreed (d : Dev) (port : Nat) (ok : Bool) : Dev :=
  let an := match d.agreement port with | some a => (a.1 + 1) % 4 | none => 0
  if ok then
    ({ d with trust := { d.trust with agreed := sput d.trust.agreed port (an, d.clock.ps, false) } } : Dev).orBits
      (psOff (port / 4) (port % 4)) 4
  else
    let d := { d with trust := { d.trust with agreed := sput d.trust.agreed port ((an + 3) % 4, d.clock.ps, true) } }
    ((d.setFld (psOff (port / 4) (port % 4)) 2 2 0).orBits dTC_FLAGS 8).tcLog 9 0x20 0 0 port

/-- The ports of an agreement: a direct-mode port whose link is up, with the trust core running. -/
def Dev.agreePort (d : Dev) (port : Nat) : Bool :=
  d.direct (port / 4) (port % 4) && bit (d.rd (psOff (port / 4) (port % 4))) 0 && 2 ≤ d.fld dGLB_START 4 1

/-- KEY_AGREEMENT_RX (R454): a frame of the partner. `ok` that its chain and signature verify, `admitted` that it presents an
owner-admission certificate; `last` that it completes the agreement. -/
def execKeyAgreementRx (port : Nat) (ok admitted last : Bool) (s : State) : Host.Outcome State Fault Refusal :=
  if port < 32 then
    if s.dev.agreePort port then
      let good := ok && (admitted || s.dev.trust.admission.isNone)
      if good && !last then .next { s with dev := s.dev.send (.link port .keyFrame) }
      else .next { s with dev := s.dev.agreed port good }
    else .fault .conditionNotMet
  else .fault .noSuchUnit

/-- The time in ps at which a port's next agreement is due: at once without one, 1 s after a failure, else 24 h. -/
def Dev.agreeDue (d : Dev) (port : Nat) : Nat :=
  match d.agreement port with
  | some (_, ps, failed) => ps + (if failed then 1 else 86400) * 1000000000000
  | none => d.clock.ps

/-- KEY_AGREEMENT_TIMER (R454): the device starts an agreement. -/
def execKeyAgreementTimer (port : Nat) (s : State) : Host.Outcome State Fault Refusal :=
  if port < 32 then
    if s.dev.agreePort port then
      let d := s.dev.advancePs (s.dev.agreeDue port)
      let a : Nat × Nat × Bool := match d.agreement port with | some x => (x.1, d.clock.ps, false) | none => (3, d.clock.ps, false)
      .next { s with dev := ({ d with trust := { d.trust with agreed := sput d.trust.agreed port a } } : Dev).send (.link port .keyFrame) }
    else .fault .conditionNotMet
  else .fault .noSuchUnit

/-! ## The owner's integrity commands -/

/-- QUARANTINE_RELEASE (R385): `ok` that the tile passes its destructive march and its known-answer tests. -/
def execQuarantineRelease (k : Nat) (ok : Bool) (s : State) : Host.Outcome State Fault Refusal :=
  runDone 0x0503 k s (fun d c =>
    let p := c.body 12 2
    if 272 ≤ p || d.fuses.fusedOff.contains p then (d, 0x12, 0)
    else if d.fld (dPHYS_STATE + 4 * p) 2 0 ≠ 3 then (d, 0x11, 0)
    else
      let d := (d.leaveIdle.tileReset p).onTile p (fun t => { t with loft := [], loftErr := [], loftCe := [], ieeeOk := ok })
      if ok then
        (({ d with persist := { d.persist with quarantine := d.persist.quarantine.filter (fun q => q != p) } } : Dev).setPhys p 1, 0x00, 0)
      else (d, 0x32, 0))

/-- FIRST_FAILURE_CLEAR (R394). -/
def execFirstFailureClear (k : Nat) (s : State) : Host.Outcome State Fault Refusal :=
  runDone 0x0504 k s (fun d _ =>
    (({ d with integ := { d.integ with daybook := d.integ.daybook.filter (fun e => !(16384 ≤ e.1 && e.1 < 17408)), ffLeft := 0,
                                       ffNext := 0 } } : Dev).setFld dDBK_FF 0 0 0, 0x00, 0))

end Sys2Proof.Machine
end

