-- ==== Sys2Proof/Machine/Parity.lean ====
section
/-! DEFINITION. Before-images, peer parity and the commit (R403 to R411, R421). -/

namespace Sys2Proof.Machine

/-! ## Before-images (R404, R406) -/

/-- Before-images written back. -/
def Dev.writeBack (d : Dev) (bs : List (Nat × List Byte)) : Dev := bs.foldl (fun (d : Dev) b => d.grnWrite b.1 b.2) d

/-- A job in a slot changed. -/
def Dev.onSlot (d : Dev) (u : Nat) (f : Job → Job) : Dev :=
  match sget? d.jobs u with
  | some j => { d with jobs := sput d.jobs u (f j) }
  | none => d

/-- BI_USED kept equal to the before-images that a job slot's job holds. -/
def Dev.showUsed (d : Dev) (u : Nat) : Dev :=
  match sget? d.jobs u with
  | some j => d.showBefore u (j.before.length + j.beforeNext.length)
  | none => d

/-- The writes of a job's present run undone: its before-images written back (R36, R406, R420). -/
def Dev.rollRun (d : Dev) (u : Nat) : Dev :=
  match sget? d.jobs u with
  | some j =>
    if j.committed then ((d.writeBack j.before).onSlot u (fun j => { j with before := [] })).showUsed u
    else ((d.writeBack j.beforeNext).onSlot u (fun j => { j with beforeNext := [] })).showUsed u
  | none => d

/-- Every before-image of a job written back: the state of its latest committed boundary (R420, R421). -/
def Dev.rollAll (d : Dev) (u : Nat) : Dev :=
  match sget? d.jobs u with
  | some j =>
    (((d.writeBack j.beforeNext).writeBack j.before).onSlot u (fun j => { j with before := [], beforeNext := [] })).showUsed u
  | none => d

/-- A tile of a job put back to the start of its run, for a job that does not run (R406, R420). -/
def Dev.rewindTiles (d : Dev) (id : Nat) : Dev := (d.jobTiles id).foldl (fun (d : Dev) p => d.rewindTile p) d

/-- BI_USED has reached BI_SIZE. -/
def Dev.beforeFull (d : Dev) (u : Nat) : Bool := d.rd (slotReg dBI_SIZE u) ≤ d.rd (slotReg dBI_USED u)

/-- A first write that finds the before-image area full (R406): the job halted, its step undone and answered. -/
def Dev.beforeOverflow (d : Dev) (u : Nat) (j : Job) : Dev :=
  let d := ((d.haltJob j.id).rollRun u).answerStep j.id 0x37 0
  let d := (d.orBits dSLO_STATUS 8).errRecord { type := Config.errType 107, status := 0x37, cls := 9, die := 4, job := j.id, step := j.step }
  (d.rewindTiles j.id).onSlot u (fun j => { j with running := false, abandoned := false, halted := false })

/-- BEFORE_IMAGE_COPY (R404 to R406): the first write of the step to a chunk is at its controller. -/
def execBeforeImageCopy (u chunk : Nat) (s : State) : Host.Outcome State Fault Refusal :=
  match sget? s.dev.jobs u with
  | none => .fault .nothingInFlight
  | some j =>
    if j.running && j.committed && j.chunks.contains chunk && !j.dirty chunk then
      .next { s with dev := if s.dev.beforeFull u then s.dev.beforeOverflow u j else s.dev.captureChunk u j chunk }
    else .fault .conditionNotMet

/-! ## Stripes (R407 to R409) -/

/-- G of a job slot; 0 without a group. -/
def Dev.parG (d : Dev) (u : Nat) : Nat := d.fld (slotReg dSNAP_CFG u) 25 22
/-- The device's position x. -/
def Dev.parPos (d : Dev) (u : Nat) : Nat := d.fld (slotReg dSNAP_CFG u) 28 26
/-- The rank of a position. -/
def Dev.parRank (d : Dev) (u x : Nat) : Nat := d.fld (slotReg dPAR_RANKS u) 14 0 + x * d.fld (slotReg dPAR_RANKS u) 30 16
/-- Where the parity region starts. -/
def Dev.parBase (d : Dev) (u : Nat) : Nat := d.fld (slotReg dPAR_BASE u) 28 0 * 4096

/-- Chunks of a parity half, by G and C (R408). -/
def parHalf (g c : Nat) : Nat := if g < 3 then 0 else 2 * ((c + g - 3) / (g - 2))
/-- Chunks of a slot's parity half. -/
def Dev.parChunks (d : Dev) (u : Nat) : Nat := parHalf (d.parG u) (d.rd (slotReg dPAR_CHUNKS u))

/-- The share index of position `x` in a stripe (R408). -/
def shareIndex (g s x : Nat) : Nat := (s % g + 2 * g - x - 1) % g
/-- The stripe in which chunk `j` of position `x` is a data share (R408). -/
def stripeOf (g x j : Nat) : Nat := g * (j / (g - 2)) + (j % (g - 2) + x + 1) % g
/-- The positions of a stripe's P and Q shares (R408). -/
def holderP (g s : Nat) : Nat := (s % g + 1) % g
def holderQ (g s : Nat) : Nat := s % g
/-- The chunk of position `y`'s parity half that holds its share of a stripe: P and Q in turn for each q (log entry 101). -/
def parSlot (g s y : Nat) : Nat := 2 * (s / g) + (if holderP g s = y then 0 else 1)

/-- Byte-by-byte exclusive or. -/
def xorBytes (a b : List Byte) : List Byte := List.zipWith (· ^^^ ·) a b
/-- α^c times each byte (R409). -/
def gfScale (c : Nat) (bs : List Byte) : List Byte := bs.map (fun b => BitVec.ofNat 8 (gfMul (gfPow c) b.toNat))

/-! ## Changes sent (R410) -/

/-- The stripes of a member's chunks that position `y` holds parity of. -/
def stripesFor (g x y : Nat) (js : List Nat) : List Nat :=
  (js.map (stripeOf g x)).filter (fun s => holderP g s == y || holderQ g s == y)

/-- The changes of chunks, by index, sent to every holder of the group, with their counts (R410). -/
def Dev.sendDeltas (d : Dev) (u : Nat) (j : Job) (js : List Nat) : Dev :=
  let g := d.parG u
  let x := d.parPos u
  ((List.range g).filter (fun y => y != x)).foldl (fun (d : Dev) y =>
    let ss := stripesFor g x y js
    if ss = [] then d.message j.id (d.parRank u y) 2 0x1FF (.delta j.commitTo 0xFFFFFFFF 0)
    else ss.foldl (fun (d : Dev) s => d.message j.id (d.parRank u y) 2 0x1FF (.delta j.commitTo s ss.length)) d) d

/-- The indices of a job's dirty chunks (R404, R407). -/
def Job.dirtyIndices (j : Job) : List Nat :=
  (j.chunks.zipIdx.filter (fun (c : Nat × Nat) => j.before.any (fun b => b.1 == c.1))).map (·.2)

/-! ## The commit (R411) -/

/-- The job's commit home: its lowest rank that is not lost. -/
def Dev.commitHome (d : Dev) (j : Job) : Nat := ((List.range j.ranks).find? (fun r => !d.rankLost j.id r)).getD 0
/-- The ranks that the home hears from. -/
def Dev.liveRanks (d : Dev) (j : Job) : List Nat := (List.range j.ranks).filter (fun r => !d.rankLost j.id r)

/-- A report to the commit home. -/
def Dev.tellHome (d : Dev) (j : Job) (m : Msg) : Dev :=
  if d.commitHome j = j.rank then d.innerMsg j.id m else d.message j.id (d.commitHome j) 0 0x1FF m

/-- The inbox applied to the parity and cleared (R411). -/
def Dev.applyInbox (d : Dev) (u : Nat) : Dev :=
  let n := d.parChunks u * chunkBytes
  let a := d.parBase u
  (d.grnWrite a (xorBytes (d.grnRead a n) (d.grnRead (a + n) n))).zeroFill (a + n) n

/-- The commit carried out on this device (R411): inbox, before-images, PAR_COMMIT, held writes, snapshot flag. -/
def Dev.applyCommit (d : Dev) (u : Nat) (j : Job) : Dev :=
  let d := if d.parG u = 0 then d else d.applyInbox u
  let d := (d.onSlot u (fun j => { j with before := j.beforeNext, beforeNext := [], committed := true, deltas := [], inboxes := [],
                                          snapDone := [], snapPend := false })).showUsed u
  let d := d.wr (slotReg dPAR_COMMIT u) j.commitTo
  if j.running then d.setSnapFlag u j.id else d

/-- The home has what it waits for (R411, R416). -/
def Dev.commitReady (d : Dev) (u : Nat) (j : Job) : Bool :=
  (d.parG u == 0 || (d.liveRanks j).all (fun r => j.inboxes.contains r)) &&
  (!j.snapPend || (d.liveRanks j).all (fun r => j.snapDone.contains r))

/-- The commit of the latest boundary, where it may come now: of a job without a group and without a snapshot pending at once, else
by the home's announcement (R411). -/
def Dev.tryCommit (d : Dev) (u : Nat) : Dev :=
  match sget? d.jobs u with
  | some j =>
    if j.committed then d
    else if d.parG u = 0 ∧ j.snapPend = false then d.applyCommit u j
    else if d.commitHome j = j.rank ∧ d.commitReady u j = true then
      (((d.liveRanks j).filter (fun r => r != j.rank)).foldl (fun (d : Dev) r => d.message j.id r 0 0x1FF (.commit j.commitTo)) d).applyCommit u j
    else d
  | none => d

/-- A holder has every change that its group's counts announce (R411). -/
def Dev.inboxFull (d : Dev) (u : Nat) (j : Job) : Bool :=
  ((List.range (d.parG u)).filter (fun x => x != d.parPos u)).all (fun x =>
    match sget? j.deltas x with | some n => decide (n.2 ≤ n.1) | none => false)

/-- Which commit a change belongs to: that in progress, or that of the boundary of the step that runs. -/
def Job.expects (j : Job) (t : Nat) : Bool := if j.committed then j.running && t == j.step + 1 else t == j.commitTo

/-- A change that arrives at a holder (R410): of the stripe's share that position `x` holds. -/
def Dev.deltaRx (d : Dev) (u : Nat) (j : Job) (x t stripe announced : Nat) (bs : List Byte) : Dev :=
  let g := d.parG u
  let y := d.parPos u
  let d := d.heard j.id (d.parRank u x)
  let d := if bs = [] then d
    else
      let a := d.parBase u + (d.parChunks u + parSlot g stripe y) * chunkBytes
      d.grnWrite a (xorBytes (d.grnRead a chunkBytes) (if holderP g stripe = y then bs else gfScale (shareIndex g stripe x) bs))
  let n := match sget? j.deltas x with | some n => n.1 | none => 0
  let ds := sput j.deltas x (if bs = [] then n else n + 1, announced)
  let d := d.onSlot u (fun j => { j with deltas := ds })
  if d.inboxFull u { j with deltas := ds } then d.tellHome j (.inboxComplete t j.rank) else d

/-- PARITY_DELTA_RX (R410): a change of member `x` for a stripe that this device holds P or Q of, in the commit to start step `t`, with
the announced count; without bytes, a count alone. -/
def execParityDeltaRx (u x t stripe announced : Nat) (bytes : List Nat) (s : State) : Host.Outcome State Fault Refusal :=
  match sget? s.dev.jobs u with
  | none => .fault .nothingInFlight
  | some j =>
    let g := s.dev.parG u
    let y := s.dev.parPos u
    let known := bytes == [] || (bytes.length == chunkBytes && decide (stripe / g < s.dev.parChunks u / 2) &&
      (holderP g stripe == y || holderQ g stripe == y) && decide (shareIndex g stripe x < g - 2))
    if decide (3 ≤ g) && decide (x < g) && x != y && j.expects t && known then
      .next { s with dev := s.dev.deltaRx u j x t stripe announced (toBytes bytes) }
    else .fault .conditionNotMet

/-- A report at the home. -/
def Dev.homeReport (d : Dev) (u : Nat) (j : Job) (rank : Nat) (snap : Bool) : Dev :=
  let d := if rank = j.rank then d else d.heard j.id rank
  let d := if snap then d.onSlot u (fun j => { j with snapDone := j.snapDone ++ [rank] })
    else d.onSlot u (fun j => { j with inboxes := j.inboxes ++ [rank] })
  d.tryCommit u

/-- The report of this device's own that is on its way to itself. -/
def Dev.ownReport (d : Dev) (j : Job) (snap : Bool) : Option Msg :=
  (d.inner.find? (fun m => m.1 == j.id &&
    (match m.2 with | .inboxComplete _ _ => !snap | .snapDone _ _ => snap | _ => false))).map (·.2)

/-- INBOX_COMPLETE (R411): a report reaches the commit home, of a complete inbox or, with `snap`, of a snapshot's marker (R416); this
device's own once it has been sent. -/
def execInboxComplete (u rank : Nat) (snap : Bool) (s : State) : Host.Outcome State Fault Refusal :=
  match sget? s.dev.jobs u with
  | none => .fault .nothingInFlight
  | some j =>
    if s.dev.commitHome j = j.rank ∧ (s.dev.liveRanks j).contains rank = true ∧ (if snap then j.snapDone else j.inboxes).contains rank = false then
      if rank = j.rank then
        match s.dev.ownReport j snap with
        | some m => .next { s with dev := (s.dev.dropInner j.id m).homeReport u j rank snap }
        | none => .fault .nothingInFlight
      else .next { s with dev := s.dev.homeReport u j rank snap }
    else .fault .conditionNotMet

/-- COMMIT_RX (R411): the home's announcement reaches a device that waits for it. -/
def execCommitRx (u : Nat) (s : State) : Host.Outcome State Fault Refusal :=
  match sget? s.dev.jobs u with
  | none => .fault .nothingInFlight
  | some j =>
    if !j.committed && s.dev.commitHome j != j.rank then
      .next { s with dev := (s.dev.heard j.id (s.dev.commitHome j)).applyCommit u j }
    else .fault .conditionNotMet

/-! ## Configuration (R407, R406) -/

/-- A job's run is under way or a commit of it is. -/
def Job.busy (j : Job) : Bool := j.running || !j.committed

/-- An area of whole chunks that a job may have beside its regions (R400, R449). -/
def Dev.apartOk (d : Dev) (j : Job) (a n : Nat) : Bool :=
  a % chunkBytes == 0 && d.areaOk j.tenant a n && !meets j.regions a n

/-- The parity is formed anew: the region zeroed, every chunk sent as a change against zero, and a commit to follow (R410, R420). -/
def Dev.parityAnew (d : Dev) (u t : Nat) : Dev :=
  match sget? d.jobs u with
  | some j =>
    let n := d.parChunks u * chunkBytes
    let d := (d.zeroFill (d.parBase u) (2 * n)).onSlot u (fun j => { j with committed := false, commitTo := t, deltas := [], inboxes := [] })
    d.sendDeltas u { j with commitTo := t } (List.range j.chunks.length)
  | none => d

/-- A group configured for a job: `base` the parity region and `chunks` C, which the Reeve fixes (log entry 101). -/
def Dev.parityCfg (d : Dev) (c : Cmd) (base chunks : Nat) : Dev × Nat × Nat :=
  match d.jobById c.job, d.jobSlot c.job with
  | some j, some u =>
    let g := c.body 0 1
    let x := c.body 1 1
    let first := c.body 2 2
    let stride := c.body 4 2
    if j.busy then (d, 0x02, 0)
    else if !(3 ≤ g && g ≤ 8) || g ≤ x || stride == 0 || 32768 ≤ first + (g - 1) * stride || first + x * stride != j.rank ||
        chunks < j.chunks.length || !d.apartOk j base (2 * parHalf g chunks * chunkBytes) then (d, 0x11, 0)
    else
      let d := (d.setFld (slotReg dSNAP_CFG u) 25 22 g).setFld (slotReg dSNAP_CFG u) 28 26 x
      let d := (d.wr (slotReg dPAR_RANKS u) (first + stride * 2 ^ 16)).wr (slotReg dPAR_BASE u) (base / 4096)
      ((d.wr (slotReg dPAR_CHUNKS u) chunks).parityAnew u (d.rd (slotReg dPAR_COMMIT u)), 0x00, 0)
  | _, _ => (d, 0x11, 0)

/-- PARITY_CFG (R407). -/
def execParityCfg (k base c : Nat) (s : State) : Host.Outcome State Fault Refusal :=
  runDone 0x0601 k s (fun d cmd => d.parityCfg cmd base c)

/-- BI_RESIZE (R406): the before-image area enlarged or moved. -/
def execBiResize (k : Nat) (s : State) : Host.Outcome State Fault Refusal :=
  runDone 0x0605 k s (fun d c =>
    match d.jobById c.job, d.jobSlot c.job with
    | some j, some u =>
      let a := c.body 8 4 * chunkBytes
      if c.body 0 8 % 4096 == 0 && d.areaOk j.tenant (c.body 0 8) a && !meets j.regions (c.body 0 8) a &&
          decide (j.before.length + j.beforeNext.length ≤ c.body 8 4) then
        ((d.wr (slotReg dBI_BASE u) (c.body 0 8 / 4096)).wr (slotReg dBI_SIZE u) (c.body 8 4), 0x00, 0)
      else (d, 0x11, 0)
    | _, _ => (d, 0x11, 0))

end Sys2Proof.Machine
end

