-- ==== Sys2Proof/Machine/Tables.lean ====
section
/-! DEFINITION. The commands of space 0x04: tables (R196 to R200), descriptors (R205), barrier slots, rings and groups (R238, R244,
R250, R307, R342), layout tables (R328). -/

namespace Sys2Proof.Machine

/-- A tile that a command of a job names: its physical tile, or the status that refuses it (R222). -/
def Dev.jobTileOf (d : Dev) (j : Job) (l : Nat) : Nat ⊕ Nat :=
  if d.gradeTiles ≤ l then .inr 0x12
  else if j.tiles.testBit l then
    match d.physOf l with
    | some p => .inl p
    | none => .inr 0x34
  else .inr 0x11

/-! ## Tables -/

/-- A word of 32 bytes. -/
def word32 (bs : List Byte) (i : Nat) : BitVec 256 := BitVec.ofNat 256 (leNat ((bs.drop (32 * i)).take 32))

/-- A bank's entries and metadata written; words written anew carry fresh check bits (R197, R225). -/
def Tile.putTable (t : Tile) (b n : Nat) (bs : List Byte) : Tile :=
  let es := (List.range n).foldl (fun (m : Sparse (BitVec 256)) i => sset 0 m (4096 * b + i) (word32 bs (i + 1)))
    (t.entries.filter (fun e => e.1 / 4096 != b))
  let t := { t with entries := es, entryErr := t.entryErr.filter (fun e => e.1 / 8192 != b) }
  let t := (t.wr (tTBL_META + 16 * b) (valAt bs 0 4)).wr (tTBL_META_NUM + 16 * b) (valAt bs 4 4 &&& 0xFFF1F)
  t.wr (tTBL_META_ENT + 16 * b) n

/-- A switch that waited for its load takes place (R199, R226). -/
def Dev.waitedSwitch (d : Dev) (p : Nat) : Dev :=
  let t := d.tile p
  if t.switchWait ∧ t.ready (1 - t.bank) = true then
    d.setTile p { (t.switchBank).setFld tSEQ_STATUS 6 6 0 with switchWait := false }
  else d

/-- TABLE_LOAD of a tile's bank: the status (R196, R197); `readback` that every entry reads back without an uncorrectable word. -/
def Dev.loadTable (d : Dev) (j : Job) (p b : Nat) (bs : List Byte) (readback : Bool) : Dev × Nat :=
  let t := d.tile p
  if 1 < b then (d, 0x11)
  else if b = t.bank then (d, 0x16)
  else
    let n := valAt bs 8 4 % 2 ^ 13
    let d := d.onTile p (fun t => t.setReady b false)
    if bs.length < 32 ∨ 4096 < n ∨ bs.length ≠ 32 + 32 * n then (d, 0x11)
    else
      let d := d.onTile p (fun t => t.putTable b n bs)
      if readback && valAt bs 4 1 % 32 == j.numCtrl then ((d.onTile p (fun t => t.setReady b true)).waitedSwitch p, 0x00)
      else (d, 0x11)

/-- TABLE_LOAD (R197). -/
def execTableLoad (k : Nat) (readback : Bool) (s : State) : Host.Outcome State Fault Refusal :=
  runDone 0x0401 k s (fun d c =>
    match d.jobById c.job with
    | none => (d, 0x11, 0)
    | some j =>
      match d.jobTileOf j (c.body 12 2) with
      | .inr st => (d, st, 0)
      | .inl p =>
        let r := d.loadTable j p (c.body 14 1) c.buf readback
        (r.1.tryRelease c.job, r.2, 0))

/-- Descriptors written by the Reeve, TENANT the job's (R205). -/
def Tile.putDescs (t : Tile) (tenant first n : Nat) (bs : List Byte) : Tile :=
  (List.range n).foldl (fun (t : Tile) i =>
    let h := first + i
    let w := setBits (word32 bs i).toNat 245 230 tenant
    { t with desc := sset 0 t.desc h (BitVec.ofNat 256 w), descErr := sdel (sdel t.descErr (2 * h)) (2 * h + 1) }) t

/-- DESC_WRITE (R205). -/
def execDescWrite (k : Nat) (s : State) : Host.Outcome State Fault Refusal :=
  runDone 0x0402 k s (fun d c =>
    match d.jobById c.job with
    | none => (d, 0x11, 0)
    | some j =>
      match d.jobTileOf j (c.body 12 2) with
      | .inr st => (d, st, 0)
      | .inl p =>
        let first := c.body 14 1
        let n := c.body 15 1 + 1
        let st := (d.tile p).state
        if !(st == stIDLE || st == stDONE || st == stSTOPPED) then (d, 0x02, 0)
        else if 256 < first + n ∨ c.buf.length < 32 * n then (d, 0x11, 0)
        else (d.onTile p (fun t => t.putDescs j.tenant first n c.buf), 0x00, 0))

/-- The physical tiles a bank-switch command names, or the status that refuses it. -/
def Dev.switchTiles (d : Dev) (j : Job) (l : Nat) : List Nat ⊕ Nat :=
  if l = 0xFFFF then .inl (d.jobTiles j.id)
  else
    match d.jobTileOf j l with
    | .inl p => .inl [p]
    | .inr st => .inr st

/-- A switch at once (R200): every tile named is idle and its other bank READY. -/
def Dev.switchNow (d : Dev) (ps : List Nat) : Dev × Nat :=
  if ps.any (fun p => (d.tile p).state != stIDLE) then (d, 0x02)
  else if ps.any (fun p => !(d.tile p).ready (1 - (d.tile p).bank)) then (d, 0x11)
  else (ps.foldl (fun (d : Dev) p => d.onTile p Tile.switchBank) d, 0x00)

/-- A switch armed for the next boundary (R199). -/
def Dev.switchArm (d : Dev) (ps : List Nat) : Dev := ps.foldl (fun (d : Dev) p => d.onTile p (fun t => t.setFld tSEQ_STATUS 6 6 1)) d

/-- A bank-switch command of the kind a row stands for; the two rows share the opcode 0x0403. A kind that R508 does not list answers
ST_BAD_PARAM in the row that arms. -/
def runSwitch (when_ k : Nat) (s : State) : Host.Outcome State Fault Refusal :=
  match sget? s.dev.cmds k with
  | none => .fault .nothingInFlight
  | some c =>
    if (c.body 2 1 == 0) = (when_ == 0) then
      runDone 0x0403 k s (fun d c =>
        match d.jobById c.job with
        | none => (d, 0x11, 0)
        | some j =>
          match d.switchTiles j (c.body 0 2) with
          | .inr st => (d, st, 0)
          | .inl ps =>
            if c.body 2 1 = 0 then ((d.switchNow ps).1.tryRelease c.job, (d.switchNow ps).2, 0)
            else if c.body 2 1 = 1 then (d.switchArm ps, 0x00, 0)
            else (d, 0x11, 0))
    else .fault .conditionNotMet

/-- TABLE_BANK_SWITCH_NOW (R200). -/
def execTableBankSwitchNow (k : Nat) (s : State) : Host.Outcome State Fault Refusal := runSwitch 0 k s
/-- TABLE_BANK_SWITCH_ARM (R199). -/
def execTableBankSwitchArm (k : Nat) (s : State) : Host.Outcome State Fault Refusal := runSwitch 1 k s

/-! ## Barrier slots, rings, groups -/

/-- A register image written at a slot: words at their offsets in it, each under a mask of the bits that are fields (log entry 84). -/
def Dev.putImage (d : Dev) (base : Nat) (bs : List Byte) (fields : List (Nat × Nat)) : Dev :=
  fields.foldl (fun (d : Dev) f => d.wr (base + f.1) (valAt bs f.1 4 &&& f.2)) d

/-- The words of a 256-bit mask at offset `o` of an image. -/
def maskWords (o : Nat) : List (Nat × Nat) := (List.range 8).map (fun w => (o + 4 * w, 0xFFFFFFFF))

/-- A configuration command: its buffer is the register image of the slot, of a job of the tenant (R446). -/
def runConfig (op k : Nat) (s : State) (len jobAt : Nat) (f : Dev → Job → Nat → List Byte → Dev × Nat) :
    Host.Outcome State Fault Refusal :=
  runDone op k s (fun d c =>
    if c.buf.length < len then (d, 0x11, 0)
    else
      match d.jobById (valAt c.buf jobAt 4) with
      | none => (d, 0x11, 0)
      | some j => if j.tenant ≠ c.tenant then (d, 0x20, 0) else let r := f d j (c.body 12 1) c.buf; (r.1, r.2, 0))

/-- A barrier slot written (R238, R250). -/
def Dev.putBarrier (d : Dev) (j : Job) (b : Nat) (bs : List Byte) : Dev × Nat :=
  let valid := bit (valAt bs 0 4) 10
  let devices := valAt bs 10 2
  if 64 ≤ b ∨ (valid = true ∧ ¬(1 ≤ devices ∧ devices ≤ 32768)) then (d, 0x11)
  else
    let base := 0x40 * b
    let d := d.putImage (dBAR_CFG + base) bs ([(0, 0x7FF), (8, 0xFFFF7FFF)] ++ maskWords 0x20)
    let d := (d.wr (dBAR_JOB + base) j.id).wr (dBAR_HOME + base) (if valid then valAt bs 8 4 &&& 0xFFFF7FFF else valAt bs 8 2 % 2 ^ 15)
    let d := { d with barRanks := sdel d.barRanks b, barSent := sdel d.barSent b }
    ((d.wr (dBAR_STATE + base) 0).wr (dBAR_HOME_ARRIVED + base) 0, 0x00)

/-- BARRIER_CFG (R238, R250). -/
def execBarrierCfg (k : Nat) (s : State) : Host.Outcome State Fault Refusal :=
  runConfig 0x0404 k s 0x40 4 (fun d j b bs => d.putBarrier j b bs)

/-- The consumer's bank of a ring on this device is a ring bank (R170, R244). -/
def Dev.ringBankOk (d : Dev) (j : Job) (consumer consRank bank : Nat) : Bool :=
  consRank != j.rank || (match d.physOf consumer with | some p => (d.tile p).isRing bank | none => false)

/-- A ring written (R244, R250): it starts empty. -/
def Dev.putRing (d : Dev) (j : Job) (r : Nat) (bs : List Byte) : Dev × Nat :=
  let cfg := valAt bs 0 4
  let peers := valAt bs 4 4
  let geom := valAt bs 8 4
  let n := bits geom 7 0 + 1
  let rows := bits geom 17 8
  if 16 ≤ r ∨ (bit cfg 30 = true ∧ (n < 2 ∨ rows = 0 ∨ 512 < rows ∨ 1024 < bits geom 30 21 + n * rows ∨ 40 ≤ bits cfg 23 18 ∨
      40 ≤ bits cfg 29 24 ∨ d.ringBankOk j (bits cfg 17 9) (bits peers 30 16) (bits geom 20 18) = false)) then (d, 0x11)
  else
    let base := 0x40 * r
    let d := d.putImage (dRING_CFG + base) bs [(0, 0x7FFFFFFF), (4, 0x7FFF7FFF), (8, 0x7FFFFFFF)]
    let d := (((d.wr (dRING_JOB + base) j.id).wr (dRING_PUSHES + base) 0).wr (dRING_POPS + base) 0).wr (dRING_FULL_TC + base) 0
    let d := { d.wr (dRING_LEFTOVER + base) 0 with ringK := sdel d.ringK r, ringFullFrom := sdel d.ringFullFrom r }
    (if bit cfg 30 then d.setRing r n 0 0 false else d.wr (dRING_STATE + base) 0, 0x00)

/-- RING_CFG (R244, R250). -/
def execRingCfg (k : Nat) (s : State) : Host.Outcome State Fault Refusal :=
  runConfig 0x0405 k s 0x40 0x0C (fun d j r bs => d.putRing j r bs)

/-- A group slot written (R307, R342). -/
def Dev.putGroup (d : Dev) (j : Job) (g : Nat) (bs : List Byte) : Dev × Nat :=
  let cfg := valAt bs 0 4
  let first := valAt bs 8 2 % 2 ^ 15
  let count := valAt bs 10 2
  let stride := valAt bs 12 2 % 2 ^ 15
  let home := valAt bs 14 2 % 2 ^ 15
  if 64 ≤ g ∨ (bit cfg 9 = true ∧ (count = 0 ∨ 32768 < count ∨ stride = 0 ∨ 32767 < first + (count - 1) * stride ∨
      bits cfg 11 10 = 3 ∨ bits cfg 15 13 = 0 ∨ ((List.range count).any (fun i => first + i * stride == home)) = false)) then (d, 0x11)
  else
    let base := 0x80 * g
    let d := d.putImage (dCOLL_CFG + base) bs ([(0, 0xFFFFFFFF), (8, 0xFFFF7FFF), (12, 0x7FFF7FFF), (16, 0xFFFFFFFF)] ++ maskWords 0x40)
    let d := d.wr (dCOLL_JOB + base) j.id
    let d := ((d.wr (dCOLL_OPEN + base) 0).wr (dCOLL_SHORT + base) 0).wr (dCOLL_SELF_OUT + base) 0
    (d.wr (dCOLL_LAST_WAIT + base) 0, 0x00)

/-- GROUP_CFG (R307, R342). -/
def execGroupCfg (k : Nat) (s : State) : Host.Outcome State Fault Refusal :=
  runConfig 0x0406 k s 0x60 4 (fun d j g bs => d.putGroup j g bs)

/-! ## Layout tables -/

/-- A layout entry from its bytes (R328). -/
def Layout.ofBytes (bs : List Byte) : Layout :=
  ⟨valAt bs 0 4, valAt bs 4 6, valAt bs 10 6, valAt bs 16 2, valAt bs 18 2 % 2 ^ 9, valAt bs 20 1, valAt bs 24 8⟩

/-- The bytes of a layout entry (R328). -/
def Layout.bytes (y : Layout) : List Byte :=
  leBytes 4 y.tid ++ leBytes 6 y.first ++ leBytes 6 y.count ++ leBytes 2 y.rank ++ leBytes 2 y.tile ++ leBytes 1 y.kind ++
  leBytes 3 0 ++ leBytes 8 y.addr

/-- Layout entries put into the pending table from an index up; a gap before them is filled with empty entries. -/
def putLayouts (old new : List Layout) (first : Nat) : List Layout :=
  let pad := List.replicate (first - old.length) (Layout.mk 0 0 0 0 0 0 0)
  (old.take first) ++ pad ++ new ++ old.drop (first + new.length)

/-- LAYOUT_LOAD (R328). -/
def execLayoutLoad (k : Nat) (s : State) : Host.Outcome State Fault Refusal :=
  runDone 0x0407 k s (fun d c =>
    let first := c.body 12 4
    let n := c.body 16 4
    let es := (List.range n).map (fun i => Layout.ofBytes ((c.buf.drop (32 * i)).take 32))
    if (d.jobById c.job).isNone || 65536 < first + n || c.buf.length < 32 * n || es.any (fun y => 15 < y.kind) then (d, 0x11, 0)
    else ({ d with layoutNext := putLayouts d.layoutNext es first }, 0x00, 0))

end Sys2Proof.Machine
end

