-- ==== Sys2Proof/Machine/Snap.lean ====
section
/-! DEFINITION. Snapshots, their generations in the Silo, and a restart from one (R401, R402, R412 to R418, R423 to R427, R453). -/

namespace Sys2Proof.Machine

/-! ## Keys (R436, R453; log entry 102) -/

/-- The key TRK of a job's tenant. -/
def Dev.jobTrk (d : Dev) (j : Job) : List Nat := match d.session j.tenant with | some s => s.trk | none => []
/-- Ks1 and Ks2. -/
def Dev.siloKeys (d : Dev) (j : Job) : List Nat := kdf (d.jobTrk j) (label4 'Z' 'S' 'L' 'O') (natBytes 4 j.id) 64
/-- Kb. -/
def Dev.blobKey (d : Dev) (j : Job) : List Nat := kdf (d.jobTrk j) (label4 'Z' 'B' 'L' 'B') (natBytes 4 j.id) 32
/-- Krec. -/
def Dev.recordKey (d : Dev) (j : Job) : List Nat := kdf (d.jobTrk j) (label4 'Z' 'R' 'E' 'C') (natBytes 4 j.id) 32

/-! ## The control area (R401, R402) -/

/-- The job's regions as the header lists them. -/
def regionBytes (rs : List (Nat × Nat)) : List Byte :=
  let b := rs.flatMap (fun r => leBytes 8 r.1 ++ leBytes 4 r.2 ++ leBytes 4 0)
  b ++ List.replicate (1024 - b.length) 0

/-- ESC_NEXT of the job's logical tiles; 0 for another tile. -/
def Dev.escNexts (d : Dev) (j : Job) : List Byte :=
  (List.range 256).flatMap (fun l =>
    leBytes 4 (if j.tiles.testBit l then (match d.physOf l with | some p => (d.tile p).rd tESC_NEXT | none => 0) else 0))

/-- The parameter-group table as the registers hold it. -/
def Dev.groupBytes (d : Dev) : List Byte := (List.range 2048).flatMap (fun w => leBytes 4 (d.rd (dUPD_GROUP + 4 * w)))

/-- Chunk 0 of the control area: the header of the start state of step `n`. -/
def Dev.headerChunk (d : Dev) (j : Job) (n : Nat) : List Byte :=
  let b := leBytes 4 j.id ++ leBytes 4 n ++ leBytes 8 j.cursor ++ leBytes 2 (d.fld dLAYOUT_EPOCH 15 0) ++
    leBytes 2 (d.fld dLAYOUT_EPOCH 31 16) ++ leBytes 2 j.rank ++ leBytes 2 j.regions.length ++ leBytes 4 (d.fld dLAYOUT_CUR 16 0) ++
    leBytes 4 (d.fld dLAYOUT_PREV 16 0) ++ leBytes 4 (d.fld dLEDGER_COUNT 20 0) ++ leBytes 28 0 ++ regionBytes j.regions ++
    d.escNexts j ++ d.groupBytes
  b ++ List.replicate (chunkBytes - b.length) 0

/-- A layout table as 32 chunks hold it. -/
def layoutChunks (ys : List Layout) : List Byte :=
  let b := ys.flatMap Layout.bytes
  b ++ List.replicate (32 * chunkBytes - b.length) 0

/-- The control area written, the last write of the step (R402). -/
def Dev.writeControl (d : Dev) (j : Job) (n : Nat) : Dev :=
  match j.regions with
  | (a, _) :: _ => d.jobWrite a (d.headerChunk j n ++ layoutChunks d.layoutCur ++ layoutChunks d.layoutPrev)
  | [] => d

/-! ## Images (R412, R413, R453) -/

/-- A chunk as the start of the step has it: its before-image, or in place. -/
def Dev.startChunk (d : Dev) (j : Job) (c : Nat) : List Byte :=
  match (j.before ++ j.beforeNext).find? (fun b => b.1 == c) with
  | some b => b.2
  | none => d.grnRead c chunkBytes

/-- Data units of 4 KiB encrypted, from unit `i` on. -/
def xtsUnits (k1 k2 : List Nat) (seq : Nat) : Nat → Nat → List Nat → List Nat
  | 0, _, _ => []
  | n + 1, i, bs => xts k1 k2 (seq * 2 ^ 64 + i) (bs.take 4096) ++ xtsUnits k1 k2 seq n (i + 1) (bs.drop 4096)

/-- Data units decrypted. -/
def xtsUnunits (k1 k2 : List Nat) (seq : Nat) : Nat → Nat → List Nat → List Nat
  | 0, _, _ => []
  | n + 1, i, bs => xtsDec k1 k2 (seq * 2 ^ 64 + i) (bs.take 4096) ++ xtsUnunits k1 k2 seq n (i + 1) (bs.drop 4096)

/-- Sections 1 and 2 in the plain: regions and parity half. -/
def Dev.plainImage (d : Dev) (u : Nat) (j : Job) : List Byte :=
  j.chunks.flatMap (fun c => d.startChunk j c) ++ d.grnRead (d.parBase u) (d.parChunks u * chunkBytes)

/-- The chain digest before step `m` (R453, R459). -/
def Job.chainAt (j : Job) (m : Nat) : List Nat := (sget? j.chains m).getD j.chain

/-- The nonce of the key blob. -/
def blobNonce (seq rank : Nat) : List Nat := natBytes 8 seq ++ natBytes 2 rank ++ [0, 0]

/-- The key blob of the start of step `m` (R453). -/
def Dev.keyBlob (d : Dev) (j : Job) (seq m : Nat) : List Nat :=
  let head := natBytes 4 0x5A424C42 ++ natBytes 4 j.id ++ natBytes 4 m ++ [j.keys.foldl (fun n k => n ||| 2 ^ k.1) 0, 0, 0, 0] ++ j.chainAt m
  let plain := (List.range 8).flatMap (fun k => natBytes 16 (match j.keys.find? (fun x => x.1 == k) with | some x => x.2 | none => 0))
  let kb := d.blobKey j
  let ct := gcmCrypt kb (blobNonce seq j.rank) plain
  head ++ ct ++ gcmTag kb (blobNonce seq j.rank) head ct ++ List.replicate 3888 0

/-- The image as it is stored. -/
def Dev.imageOfStart (d : Dev) (u : Nat) (j : Job) (seq m : Nat) : List Nat :=
  let bs := toNats (d.plainImage u j)
  let ks := d.siloKeys j
  xtsUnits (ks.take 32) (ks.drop 32) seq (bs.length / 4096) 0 bs ++ d.keyBlob j seq m

/-! ## Records (R414) -/

/-- What a header at the front of an image says of its start state: cursor and epoch; none where it is not that step's (no boundary has
written it). -/
def headerOf (id m : Nat) (img : List Byte) : Option (Nat × Nat) :=
  if valAt img 0 4 = id ∧ valAt img 4 4 = m then some (valAt img 8 8, valAt img 16 2) else none

/-- The first 256 bytes of a generation record. -/
def Dev.recordHead (d : Dev) (u : Nat) (j : Job) (seq m extent : Nat) (image : List Nat) : List Nat :=
  let h := (headerOf j.id m (d.plainImage u j)).getD (d.rd (slotReg dDATA_CURSOR_LO u) + d.rd (slotReg dDATA_CURSOR_HI u) * 2 ^ 32,
    d.fld dLAYOUT_EPOCH 15 0)
  natBytes 4 0x5A534E50 ++ natBytes 4 1 ++ natBytes 8 seq ++ natBytes 4 j.id ++ natBytes 2 j.tenant ++ natBytes 2 j.rank ++ natBytes 4 m ++
  natBytes 2 h.2 ++ natBytes 2 (d.parPos u + 16 * d.parG u) ++ natBytes 8 image.length ++ natBytes 8 h.1 ++ natBytes 4 extent ++
  sha384 image ++ List.replicate 156 0

/-- The record with its form-3 block (R414, R457). -/
def Dev.genRecord (d : Dev) (j : Job) (head : List Nat) : List Nat :=
  head ++ d.akBlock 3 7936 head (hmac384 (d.recordKey j) (sha384 head))

/-! ## Taking a snapshot (R412, R415, R416, R425) -/

/-- A job's allotment. -/
def Dev.jobAllot (d : Dev) (j : Job) : Option Allot := d.allotOf j.id j.tenant

/-- An allotment put back. -/
def Dev.putAllot (d : Dev) (id : Nat) (a : Allot) : Dev :=
  { d with persist := { d.persist with silo := { d.persist.silo with allots := sput d.persist.silo.allots id a } } }

/-- The highest sequence number of a generation with a marker. -/
def Allot.top (a : Allot) : Nat := a.gens.foldl (fun n g => if g.2.marker then max n g.2.seq else n) 0

/-- The slot that does not hold the newest generation with a marker (R415). -/
def Allot.olderSlot (a : Allot) : Nat :=
  match a.gens.find? (fun g => g.2.marker && g.2.seq == a.top) with
  | some g => 1 - g.1
  | none => 0

/-- A snapshot of the start of step PAR_COMMIT is due and has neither been taken nor refused. -/
def Job.wantsSnap (j : Job) : Bool :=
  (if j.committed then j.running && j.snapDue else j.snapPend) && j.snapping.isNone && !j.snapDone.contains j.rank

/-- A report that the snapshot here is done: on the way to the home (R416); this rank's own is noted at once. -/
def Dev.snapReport (d : Dev) (u : Nat) (j : Job) : Dev :=
  let m := d.rd (slotReg dPAR_COMMIT u)
  let d := d.onSlot u (fun j => { j with snapping := none })
  if d.commitHome j = j.rank then d.innerMsg j.id (.snapDone m j.rank)
  else (d.message j.id (d.commitHome j) 0 0x1FF (.snapDone m j.rank)).onSlot u (fun j => { j with snapDone := j.snapDone ++ [j.rank] })

/-- The snapshot begins (R412, R415): the marker of the slot it goes into is cleared. -/
def Dev.snapshotStart (d : Dev) (u : Nat) (j : Job) (a : Allot) : Dev :=
  let m := d.rd (slotReg dPAR_COMMIT u)
  let d := d.putAllot j.id { a with gens := a.gens.filter (fun g => g.1 != a.olderSlot) ++ [(a.olderSlot, ⟨a.top + 1, m, [], [], false⟩)] }
  ((d.onSlot u (fun j => { j with snapping := some m })).wr (slotReg dSNAP_DONE u) 0).showGens u j.id

/-- The report of this device's own snapshot is on its way to itself. -/
def Dev.snapOnWay (d : Dev) (j : Job) : Bool := (d.ownReport j true).isSome

/-- SNAPSHOT_START (R412): a Silo that takes no snapshot, and a job without an allotment, let the job run on without it (R426). -/
def execSnapshotStart (u : Nat) (s : State) : Host.Outcome State Fault Refusal :=
  match sget? s.dev.jobs u with
  | none => .fault .nothingInFlight
  | some j =>
    if s.dev.fld dSLO_CTRL 0 0 = 1 ∧ j.wantsSnap = true ∧ s.dev.snapOnWay j = false then
      match s.dev.jobAllot j with
      | some a =>
        .next { s with dev := if s.dev.fld dSLO_STATUS 0 0 = 1 then s.dev.snapReport u j else s.dev.snapshotStart u j a }
      | none => .next { s with dev := s.dev.snapReport u j }
    else .fault .conditionNotMet

/-- Rated endurance in bytes (R425). -/
def ratedBytes : Nat := 96 * 10 ^ 15

/-- Bytes written to the Silo counted (R425, R432). -/
def Dev.countWritten (d : Dev) (n : Nat) : Dev :=
  let w := d.persist.silo.written + n
  let d := { d with persist := { d.persist with silo := { d.persist.silo with written := w } } }
  let d := (d.wr dSLO_WRITTEN (w / 2 ^ 30 % 2 ^ 32)).setFld dSLO_WEAR 15 0 (min 65535 (w * 10000 / ratedBytes))
  if ratedBytes ≤ w then d.setFld dSLO_STATUS 2 2 1 else d

/-- A generation stored in a slot with its marker. -/
def Dev.storeGen (d : Dev) (id : Nat) (a : Allot) (slot : Nat) (g : Gen) : Dev :=
  (d.putAllot id { a with gens := a.gens.filter (fun x => x.1 != slot) ++ [(slot, g)] }).countWritten (g.image.length + g.record.length)

/-- The image, the record and the marker are written (R415). -/
def Dev.snapshotDone (d : Dev) (u : Nat) (j : Job) (a : Allot) (m : Nat) : Dev :=
  let seq := a.top + 1
  let image := d.imageOfStart u j seq m
  let record := d.genRecord j (d.recordHead u j seq m (Config.freeNat d.freeCtr % 7424) image)
  let d := { d with freeCtr := d.freeCtr + 1 }
  let d := d.storeGen j.id a a.olderSlot ⟨seq, m, toBytes image, toBytes record, true⟩
  ((d.wr (slotReg dSNAP_DONE u) (image.length / 2 ^ 30)).showGens u j.id).snapReport u j

/-- SNAPSHOT_COMMITTED (R415): the marker of the snapshot in progress is written. -/
def execSnapshotCommitted (u : Nat) (s : State) : Host.Outcome State Fault Refusal :=
  match sget? s.dev.jobs u with
  | none => .fault .nothingInFlight
  | some j =>
    match j.snapping, s.dev.jobAllot j with
    | some m, some a => .next { s with dev := s.dev.snapshotDone u j a m }
    | _, _ => .fault .nothingInFlight

/-- SNAP_NOW (R412, R426, R431). -/
def execSnapNow (k : Nat) (s : State) : Host.Outcome State Fault Refusal :=
  runDone 0x0602 k s (fun d c =>
    match d.jobById c.job with
    | none => (d, 0x11, 0)
    | some j =>
      if (d.jobAllot j).isNone then (d, 0x39, 0)
      else if d.fld dSLO_STATUS 0 0 = 1 then (d, 0x36, 0)
      else (d.onJob c.job (fun j => { j with snapNow := true }), 0x00, 0))

/-! ## Allotments, export and import (R417, R418) -/

/-- ALLOT_RELEASE (R417): of a job that is not in a slot. -/
def execAllotRelease (k : Nat) (s : State) : Host.Outcome State Fault Refusal :=
  runDone 0x0606 k s (fun d c =>
    if (d.jobById c.job).isSome then (d, 0x02, 0)
    else
      match d.allotOf c.job c.tenant with
      | some a =>
        let silo := { d.persist.silo with allots := sdel d.persist.silo.allots c.job }
        (({ d with persist := { d.persist with silo := silo } } : Dev).setFld dSLO_FREE 12 0 (d.fld dSLO_FREE 12 0 + a.extents), 0x00, 0)
      | none => (d, 0x11, 0))

/-- A generation with its marker, by start step. -/
def Allot.genAt (a : Allot) (m : Nat) : Option Gen := (a.gens.find? (fun g => g.2.marker && g.2.m == m)).map (·.2)

/-- A host window that a job of the tenant may use (R273). -/
def Dev.ownWindow (d : Dev) (c : Cmd) (w : Nat) : Bool := d.hwOpen w && d.hwTenant w == c.tenant

/-- A generation exported: its record, then its image (R418; log entry 103). -/
def Dev.exportGen (d : Dev) (c : Cmd) : Dev × Nat × Nat :=
  let w := c.body 0 1
  let off := c.body 4 8
  if !d.ownWindow c w || off % 4096 != 0 then (d, 0x11, 0)
  else
    match (d.allotOf c.job c.tenant).bind (fun a => a.genAt (c.body 12 4)) with
    | none => (d, 0x35, 0)
    | some g =>
      let bs := g.record ++ g.image
      if d.hwData w < off + bs.length then (d, 0x11, 0)
      else
        let r := d.hwWrite w off bs
        (r.1, r.2, 0)

/-- EXPORT (R418). -/
def execExportGen (k : Nat) (s : State) : Host.Outcome State Fault Refusal := runDone 0x0607 k s (fun d c => d.exportGen c)

/-- A generation imported into the slot that does not hold the newest one; it is checked when it is restored (R418). -/
def Dev.importGen (d : Dev) (c : Cmd) : Dev × Nat × Nat :=
  let w := c.body 0 1
  let off := c.body 4 8
  if !d.ownWindow c w || off % 4096 != 0 || d.hwData w < off + 8192 then (d, 0x11, 0)
  else if (match d.jobById c.job with | some j => j.snapping.isSome | none => false) then (d, 0x02, 0)
  else
    match d.allotOf c.job c.tenant with
    | none => (d, 0x39, 0)
    | some a =>
      if d.fld dSLO_STATUS 0 0 = 1 then (d, 0x36, 0)
      else
        let r := d.hwRead w off 8192
        if r.2.2 ≠ 0 then (r.1, r.2.2, 0)
        else
          let n := valAt r.2.1 32 8
          if r.1.hwData w < off + 8192 + n then (r.1, 0x11, 0)
          else if a.extents * 2 ^ 29 < n then (r.1, 0x39, 0)
          else
            let q := r.1.hwRead w (off + 8192) n
            if q.2.2 ≠ 0 then (q.1, q.2.2, 0)
            else
              let d := q.1.storeGen c.job a a.olderSlot ⟨valAt r.2.1 8 8, valAt r.2.1 24 4, q.2.1, r.2.1, true⟩
              ((match d.jobSlot c.job with | some u => d.showGens u c.job | none => d), 0x00, 0)

/-- IMPORT (R418). -/
def execImportGen (k : Nat) (s : State) : Host.Outcome State Fault Refusal := runDone 0x0608 k s (fun d c => d.importGen c)

/-! ## A restart from a snapshot (R415, R423) -/

/-- A generation's record is its job's, its tenant MAC is right, its AK signature verifies (`akOk`), and the image matches (R415,
R457): 0 where all holds, 1 where a signature fails, 2 where something else does. -/
def Dev.genCheck (d : Dev) (j : Job) (m : Nat) (g : Gen) (akOk : Bool) : Nat :=
  let r := toNats g.record
  let f (o n : Nat) := bytesNat ((r.drop o).take n)
  let head := r.take 256
  if !(f 0 4 == 0x5A534E50 && f 4 4 == 1 && f 8 8 == g.seq && f 16 4 == j.id && f 24 4 == m && f 32 8 == g.image.length) then 2
  else if !(akOk && (r.drop 5031).take 48 == hmac384 (d.recordKey j) (sha384 head)) then 1
  else if (r.drop 52).take 48 != sha384 (toNats g.image) then 2
  else 0

/-- The keys and chain digest of a key blob; none where its tag fails (R453). -/
def Dev.openBlob (d : Dev) (j : Job) (seq rank : Nat) (blob : List Nat) : Option (List (Nat × Nat) × List Nat) :=
  let kb := d.blobKey j
  let head := blob.take 64
  let ct := (blob.drop 64).take 128
  if gcmTag kb (blobNonce seq rank) head ct = (blob.drop 192).take 16 then
    let plain := gcmCrypt kb (blobNonce seq rank) ct
    let mask := blob.getD 12 0
    some ((ones8 mask).map (fun k => (k, bytesNat ((plain.drop (16 * k)).take 16))), (blob.drop 16).take 48)
  else none

/-- A restore refused (R423, R433). -/
def Dev.restoreFail (d : Dev) (j : Job) (auth : Bool) : Dev × Nat × Nat :=
  let d := (d.orBits dSLO_STATUS 32).errRecord { type := Config.errType 106, status := 0x35, cls := 7, die := 4, job := j.id, step := j.step }
  (if auth then d.tcLog 16 0x35 j.tenant j.id 0 else d, 0x35, 0)

/-- Regions that a header records. -/
def headerRegions (img : List Byte) : List (Nat × Nat) :=
  (List.range (min 64 (valAt img 22 2))).map (fun i => (valAt img (64 + 16 * i) 8, valAt img (72 + 16 * i) 4))

/-- A layout table of `n` entries from its chunks. -/
def tableOf (n : Nat) (bs : List Byte) : List Layout :=
  (List.range (min 65536 n)).map (fun i => Layout.ofBytes ((bs.drop (32 * i)).take 32))

/-- The registers of the layout tables kept equal to them (R343). -/
def Dev.showLayouts (d : Dev) (cur prev : Nat) (held : Bool) : Dev :=
  ((d.wr dLAYOUT_EPOCH (cur + prev * 2 ^ 16)).wr dLAYOUT_CUR d.layoutCur.length).wr dLAYOUT_PREV (d.layoutPrev.length + b2n held * 2 ^ 31)

/-- The data cursor of a job slot (R403). -/
def Dev.showCursor (d : Dev) (u cursor : Nat) : Dev :=
  (d.wr (slotReg dDATA_CURSOR_LO u) (cursor % 2 ^ 32)).wr (slotReg dDATA_CURSOR_HI u) (cursor / 2 ^ 32)

/-- The Reeve sets what the control area holds (R423 step 3): layout tables, epochs, group table, ESC_NEXT, ledger count, cursor. -/
def Dev.loadControl (d : Dev) (u : Nat) (j : Job) (img : List Byte) : Dev :=
  let cur := valAt img 16 2
  let d := { d with layoutCur := tableOf (valAt img 24 4) (img.drop chunkBytes), layoutPrev := tableOf (valAt img 28 4) (img.drop (33 * chunkBytes)) }
  let d := d.showLayouts cur (valAt img 18 2) (d.layoutPrev != [])
  let n := valAt img 32 4 % 2 ^ 21
  let led := ledgerEntries (d.grnRead (d.fld dLEDGER_BASE 28 0 * 4096) (64 * n))
  let d := ({ d with ledger := d.ledger.filter (fun (e : Ledger) => e.job != j.id) ++ led } : Dev).wr dLEDGER_COUNT n
  let d := (List.range 2048).foldl (fun (d : Dev) w => d.wr (dUPD_GROUP + 4 * w) (valAt img (2112 + 4 * w) 4)) d
  let d := (maskTiles j.tiles).foldl (fun (d : Dev) l =>
    match d.physOf l with
    | some p => d.onTile p (fun t => (t.wr tESC_NEXT (valAt img (1088 + 4 * l) 4)).setFld tJOB_IDS 15 0 cur)
    | none => d) d
  d.showCursor u (valAt img 8 8)

/-- A generation loaded (R423 steps 3 and 5). -/
def Dev.loadGen (d : Dev) (u : Nat) (j : Job) (m : Nat) (g : Gen) (keys : List (Nat × Nat)) (chain : List Nat) (led : List Ledger) : Dev :=
  let ks := d.siloKeys j
  let n := g.image.length - 4096
  let img := toBytes (xtsUnunits (ks.take 32) (ks.drop 32) g.seq (n / 4096) 0 (toNats (g.image.take n)))
  let known := (headerOf j.id m img).isSome
  let d := d.rewindTiles j.id
  let regions := if known then headerRegions img else j.regions
  let d := (regions.foldl (fun (x : Dev × List Byte) r =>
    (x.1.grnWrite r.1 (x.2.take (chunkBytes * r.2)), x.2.drop (chunkBytes * r.2))) (d, img)).1
  let par := img.drop (regions.foldl (fun n r => n + chunkBytes * r.2) 0)
  let d := (d.grnWrite (d.parBase u) (par.take (d.parChunks u * chunkBytes))).zeroFill (d.parBase u + d.parChunks u * chunkBytes)
    (d.parChunks u * chunkBytes)
  let d := if known then d.loadControl u j img else d
  let d := (d.jobTiles j.id).foldl (fun (d : Dev) p => d.onTile p (fun t => (t.loadKeys keys).wr tTHR_STEP m)) d
  let d := d.onSlot u (fun j => { j with
    step := m, cursor := if known then valAt img 8 8 else 0, regions := regions, keys := keys, chain := chain, chains := [], sealedS := none,
    before := [], beforeNext := [], committed := true, commitTo := m, deltas := [], inboxes := [], snapping := none, snapDone := [],
    snapPend := false, abandoned := false, rebuild := false, halted := false, replay := true,
    replayEnd := led.foldl (fun n (e : Ledger) => max n e.step) 0 })
  let d := { d with honoured := d.honoured.filter (fun (e : Ledger) => e.job != j.id) ++ led, carries := d.carries.filter (fun (x : Carry) => x.job != j.id) }
  ((d.wr (slotReg dPAR_COMMIT u) m).showUsed u).orBits dBND_STATUS 64

/-- A restore (R423): of a job in a slot that does not run. -/
def Dev.restore (d : Dev) (c : Cmd) (akOk : Bool) : Dev × Nat × Nat :=
  match d.jobById c.job, d.jobSlot c.job with
  | some j, some u =>
    let m := c.body 12 4
    if j.running || !d.jobQuiet j.id then (d, 0x02, 0)
    else if c.buf.length % 64 ≠ 0 then (d, 0x11, 0)
    else
      match (d.jobAllot j).bind (fun a => a.genAt m) with
      | none => d.restoreFail j false
      | some g =>
        let r := d.genCheck j m g akOk
        if r ≠ 0 then d.restoreFail j (r == 1)
        else
          let blob := toNats (g.image.drop (g.image.length - 4096))
          match d.openBlob j g.seq (valAt g.record 22 2) blob with
          | none => d.restoreFail j true
          | some b => (d.loadGen u j m g b.1 b.2 (ledgerEntries c.buf), 0x00, 0)
  | _, _ => (d, 0x11, 0)

/-- RESTORE (R423): `akOk` that the AK signature verifies against the certificate that the host supplies (R457). -/
def execRestore (k : Nat) (akOk : Bool) (s : State) : Host.Outcome State Fault Refusal :=
  runDone 0x0604 k s (fun d c => let r := d.restore c akOk; (r.1.tryRelease c.job, r.2))

/-! ## The Silo's scrub (R370, R373, R425 to R427) -/

/-- A block retired: its place taken from the hidden reserve, `left` what is left of it in 0.01 % (R425, R426). -/
def Dev.siloRetire (d : Dev) (left : Nat) : Dev :=
  let d := d.bump dSLO_RETIRED 1
  if d.fld dSLO_WEAR 31 16 = 0 then
    if d.fld dSLO_STATUS 0 0 = 1 then d
    else (d.setFld dSLO_STATUS 0 0 1).errRecord { type := Config.errType 108, status := 0x36, cls := 7, die := 4 }
  else
    let d := d.setFld dSLO_WEAR 31 16 left
    if left < 100 then d.setFld dSLO_STATUS 1 1 1 else d

/-- A page of the Silo scrubbed: words corrected in it, whether it has held its data for 90 days, whether it holds an uncorrectable word,
the reserve left where a block was retired, and whether the pass ends with it. -/
def Dev.siloScrub (d : Dev) (corrected : Nat) (aged ue : Bool) (retired : Option Nat) (last : Bool) : Dev :=
  let d := if corrected = 0 then d else d.errRecord { type := 1, cls := 7, die := 4, detail := corrected }
  let d := if ue then d.errRecord { type := 2, status := 0x30, cls := 7, die := 4 } else d
  let d := if d.fld dSLO_LIMITS 7 0 < corrected || aged then (d.orBits dSLO_STATUS 64).bump dSLO_RELOCS 1 else d
  let d := match retired with | some n => d.siloRetire n | none => d
  if last then
    let late := d.fld dGLN_PERIOD 31 16 * 3600 * 1000000000000 < d.clock.ps - d.siloPs
    let d := { d with siloPs := d.clock.ps }
    if late then (d.errRecord { type := 16, cls := 7, die := 4 }).bump dGLN_LATE 1 else d
  else d

/-- SILO_SCRUB (R427): with background work and the Silo active. -/
def execSiloScrub (corrected : Nat) (aged ue : Bool) (retired : Option Nat) (last : Bool) (s : State) : Host.Outcome State Fault Refusal :=
  if s.dev.fld dINT_CTRL 0 0 = 1 ∧ s.dev.fld dSLO_CTRL 0 0 = 1 then
    .next { s with dev := s.dev.siloScrub corrected aged ue retired last }
  else .fault .conditionNotMet

end Sys2Proof.Machine
end

