-- ==== Sys2Proof/Machine/Boundary.lean ====
section
/-! DEFINITION. The step boundary and the repeat point (R35, R36, R199, R330, R331, R365, R366, R371, R374, R383, R384, R402, R403,
R410), and peer recovery (R419 to R421). -/

namespace Sys2Proof.Machine

/-! ## What has ended -/

/-- Every table of the job's run has reached its end entry, and its engines and transfers are done. -/
def Dev.runDone (d : Dev) (id : Nat) : Bool := d.jobQuiet id && (d.jobTiles id).all (fun p => (d.tile p).state == stDONE)

/-- Every table has reached its end entry, stopped or halted, and every transfer has ended (R35). -/
def Dev.runOver (d : Dev) (id : Nat) : Bool :=
  d.jobQuiet id && (d.jobTiles id).all (fun p => [stDONE, stSTOPPED, stHALTED].contains (d.tile p).state)

/-- No hold flag of the Winnower stands on a tile of the job (R377). -/
def Dev.noHold (d : Dev) (id : Nat) : Bool := (d.jobTiles id).all (fun p => !bit ((d.tile p).rd tFLAGS_HI) 11)

/-- No flag set of the job is on its way within the device (R229). -/
def Dev.noSets (d : Dev) (id : Nat) : Bool :=
  d.inner.all (fun m => !(m.1 == id && (match m.2 with | .set _ _ _ => true | _ => false)))

/-! ## Position 1: failed tiles (R382 to R384) -/

/-- The tiles that have become failed units, of a job or of none, in ascending logical index. -/
def Dev.failedTiles (d : Dev) (id : Nat) : List Nat :=
  let ps := (d.tiles.filter (fun (e : Nat × Tile) => e.2.failed && (e.2.job == id || e.2.job == 0))).map (·.1)
  let mapped := (List.range 256).filterMap (fun l => (d.physOf l).filter (fun p => ps.contains p))
  mapped ++ ps.filter (fun p => !mapped.contains p)

/-- Position 1: verifiers and voters return, failed tiles are quarantined and replaced. `whole` that the run was not abandoned. A job
left without a tile has its held step answered. -/
def Dev.position1 (d : Dev) (id : Nat) (whole : Bool) : Dev :=
  let d := d.freeMirrors id
  let d := (d.failedTiles id).foldl (fun (d : Dev) p => d.substitute p (whole && !(d.tile p).loftFailed)) d
  match d.jobById id with
  | some j =>
    if d.lacksTile j then
      let d := j.held.foldl (fun (d : Dev) k => d.final k 0x34 0) (d.onJob id (fun j => { j with held := [] }))
      if j.abandoned then d.answerStep id 0x34 0 else d
    else d
  | none => d

/-! ## Position 2: bank switches (R199) -/

/-- Armed switches take place, or wait for their load. -/
def Dev.position2 (d : Dev) (id : Nat) : Dev :=
  (d.jobTiles id).foldl (fun (d : Dev) p =>
    d.onTile p (fun t =>
      if t.fld tSEQ_STATUS 6 6 = 0 then t
      else if t.ready (1 - t.bank) then t.switchBank.setFld tSEQ_STATUS 6 6 0
      else { t with switchWait := true })) d

/-! ## Position 3: the layout epoch (R330 to R332) -/

/-- Carries held under the old epoch remapped (R332). -/
def Dev.remapCarries (d : Dev) (id : Nat) : Dev :=
  let cs := d.carries.filter (fun c => c.job == id)
  let d := { d with carries := d.carries.filter (fun c => c.job != id) }
  (cs.foldl (fun (d : Dev) c =>
    (d.remapTo id c.tid c.step c.elems).noteRemap id c.gid c.bucket (d.selfRank id) c.elems.length) d).showCarries

/-- Bytes that reach this device's Granary, as address and byte in turn. -/
def Dev.placeBytes (d : Dev) (mem : List (Nat × Nat)) : Dev :=
  mem.foldl (fun (d : Dev) (m : Nat × Nat) => d.jobWrite m.1 [BitVec.ofNat 8 m.2]) d

/-- The change of epoch: the elements that PERMUTE brings, the tables, the tiles' epoch, the ledger entry, the carries (R330). -/
def Dev.changeEpoch (d : Dev) (id epoch : Nat) (moved : List (Nat × Nat)) : Dev :=
  let d := d.placeBytes moved
  let old := d.fld dLAYOUT_EPOCH 15 0
  let d := ({ d with layoutPrev := d.layoutCur, layoutCur := d.layoutNext, layoutNext := [] } : Dev).showLayouts epoch old true
  let d := (d.jobTiles id).foldl (fun (d : Dev) p => d.onTile p (fun t => t.setFld tJOB_IDS 15 0 epoch)) d
  (d.ledgerOwn id 3 (d.selfRank id) epoch).remapCarries id

/-- A re-shard that this boundary carries out. -/
def Job.reshardNow (j : Job) : Option Reshard :=
  match j.reshard with
  | some r => if r.step = j.step then some r else none
  | none => none

/-- Position 3 at a boundary. -/
def Dev.position3 (d : Dev) (j : Job) (moved : List (Nat × Nat)) : Dev :=
  match j.reshardNow with
  | some r =>
    ((d.changeEpoch j.id r.epoch moved).onJob j.id (fun j => { j with reshard := none })).final r.cmd 0x00 0
  | none => d

/-! ## The Loft scrub and the marches of R370 (R374) -/

/-- The banks of a tile that a march is ordered on: a row with an uncorrectable word, or with CE_ROW corrected reads. -/
def Dev.marchBanks (d : Dev) (p : Nat) : Nat :=
  let n := d.fld dGLN_LIMITS 15 8
  ((d.tile p).loftCe.filter (fun (e : Nat × Nat) => 256 ≤ e.2 || (0 < e.2 && n ≤ e.2))).foldl (fun m e => m ||| 2 ^ (e.1 / 1024 % 8)) 0

/-- A word read by the Loft scrub: a corrected one is rewritten, an uncorrectable one stored poisoned (R371, R372). -/
def Dev.scrubLoftWord (d : Dev) (p w : Nat) : Dev :=
  let t := d.tile p
  let f := (sget 0 t.loftErr w).toNat
  let o := (sheafRead 0 f).2
  let d := d.codeReport o f { type := 0, cls := 2, die := dieOfTile p, unit := p, sub := bankOfWord w, job := t.job,
                              step := t.rd tTHR_STEP, op := 0xE2, addr := 16 * w, tile := t.logical.getD 0x1FF }
  let count (n : Nat) (t : Tile) : Tile := { t with loftCe := sput t.loftCe (w / 32) (sget 0 t.loftCe (w / 32) + n) }
  match o with
  | .uncorrectable => d.onTile p (fun t => { count 256 t with loftErr := sput t.loftErr w (BitVec.ofNat 144 poisonFlips) })
  | _ => d.onTile p (fun t => { count 1 t with loftErr := sdel t.loftErr w })

/-- The ordered march of a tile, with the rows that it finds faulty, and the scrub of its other banks. -/
def Dev.scrubTile (d : Dev) (scrub : Bool) (faulty : List (Nat × Nat)) (p : Nat) : Dev :=
  let banks := d.marchBanks p
  let d := d.onTile p (fun t => { t with loftCe := [] })
  let ws := (d.tile p).loftErr.map (·.1)
  let d :=
    if banks = 0 then d
    else
      let r := ((faulty.filter (fun f => f.1 == p && banks.testBit (f.2 / 2048))).map (·.2)).foldl (Dev.marchRepair p) (d, [])
      (ws.filter (fun w => banks.testBit (bankOfWord w))).foldl (fun (d : Dev) w => d.marchWord p r.2 w) r.1
  if scrub then (ws.filter (fun w => !banks.testBit (bankOfWord w))).foldl (fun (d : Dev) w => d.scrubLoftWord p w) d else d

/-- The Loft scrub is due at this boundary (R372). -/
def Dev.scrubDue (d : Dev) (j : Job) : Bool :=
  let n := d.fld dGLN_LOFT 15 0
  d.fld dINT_CTRL 0 0 == 1 && n != 0 && (j.bounds + 1) % n == 0

/-- A table bank that the scrub found an uncorrectable word in, written again from the Reeve's copy (R371, R372). -/
def Tile.reloadTable (t : Tile) : Tile :=
  match t.start with
  | some s =>
    if t.entryErr.any (fun (e : Nat × BitVec 144) => e.1 / 8192 == s.bank && (sheafRead 0 e.2.toNat).2 == .uncorrectable) then
      { t with entries := s.entries.foldl (fun (m : Sparse (BitVec 256)) (e : Nat × BitVec 256) => sput m e.1 e.2)
                 (t.entries.filter (fun (e : Nat × BitVec 256) => e.1 / 4096 != s.bank))
               entryErr := t.entryErr.filter (fun (e : Nat × BitVec 144) => e.1 / 8192 != s.bank) }
    else t
  | none => t

/-- Scrubs and marches after position 4, and the time that the release waits for them. -/
def Dev.boundaryScrub (d : Dev) (j : Job) (faulty : List (Nat × Nat)) : Dev :=
  let ps := d.jobTiles j.id
  let scrub := d.scrubDue j
  let march := ps.any (fun p => d.marchBanks p != 0)
  let d := ps.foldl (fun (d : Dev) p => (d.onTile p Tile.reloadTable).scrubTile scrub faulty p) d
  d.advance (if march then 11440 else if scrub then 1040 else 0)

/-! ## The step record (R112, R135, R157, R182, R224, R249, R341, R365, R366) -/

/-- The status registers of a tile that the Reeve copies, with the bits that it clears. -/
def statusRegs : List (Nat × Nat) :=
  [(tNUM_STATUS, 0xFFFFFFFF), (tACC_STATUS, 0xFFFFFFFF), (tSCOUT_STATUS, 0xFFFFFFFF), (tENG_STATUS, 0xFFFFFFFF),
   (tLOFT_STATUS, 0xFFFFFFFF), (tSEQ_STATUS, 0x700), (tFLAG_STATUS, 0xFFFFFFFF), (tOVERSET_LO, 0xFFFFFFFF), (tOVERSET_HI, 0xFFFFFFFF)]

/-- A tile's status and log copied into the step record, and cleared. -/
def Dev.copyTile (d : Dev) (id p : Nat) : Dev :=
  let t := d.tile p
  let l := t.logical.getD 0x1FF
  let d := d.stepRecord id 3 l (statusRegs.flatMap (fun r => leBytes 4 (t.rd r.1)))
  let d := d.stepRecord id 4 l ((List.range (8 * t.fld tLOG_COUNT 6 0)).flatMap (fun w => leBytes 4 (t.rd (tLOG + 4 * w))))
  d.onTile p (fun t =>
    let t := statusRegs.foldl (fun (t : Tile) r => t.wr r.1 (t.rd r.1 &&& (0xFFFFFFFF - r.2))) t
    (List.range 64).foldl (fun (t : Tile) s => (t.wr (tSTALL_TC + 8 * s) 0).wr (tSTALL_N + 8 * s) 0) (t.setFld tLOG_COUNT 6 0 0))

/-- The Binder log copied and cleared. -/
def Dev.copyBinderLog (d : Dev) (id : Nat) : Dev :=
  let n := d.fld dBND_LOG_COUNT 6 0
  (d.stepRecord id 5 0x1FF ((List.range (8 * n)).flatMap (fun w => leBytes 4 (d.rd (dBND_LOG + 4 * w))))).setFld dBND_LOG_COUNT 6 0 0

/-- The 16 words of each norm entry. -/
def normEntries (ws : List Nat) : List (List Nat) := (List.range (ws.length / 16)).map (fun i => (ws.drop (16 * i)).take 16)

/-- Norm entries are in ascending tensor identifier (R365). -/
def normsRise : List Nat → Bool
  | a :: b :: r => a < b && normsRise (b :: r)
  | _ => true

/-- What a norm entry says in its byte 9. -/
def normFlag (e : List Nat) (i : Nat) : Bool := bit (e.getD 2 0) (8 + i)

/-- NF of the group that an entry names. -/
def Dev.groupNf (d : Dev) (e : List Nat) : Bool := bit (d.rd (dUPD_GROUP + 0x80 * (e.getD 2 0 % 64))) 22

/-- The norm entries of step `n` written, and what they say of the update (R365 to R367). -/
def Dev.writeNorms (d : Dev) (id n : Nat) (es : List (List Nat)) : Dev :=
  let es := es.map (fun e => e.set 1 n)
  let d := ((es.take 4096).zipIdx).foldl (fun (d : Dev) e =>
    (e.1.zipIdx).foldl (fun (d : Dev) w => d.wr (dUPD_NORM + 0x40 * e.2 + 4 * w.2) w.1) d) d
  let d := ((d.wr dUPD_NORM_COUNT (min 4096 es.length)).wr dUPD_NORM_STEP n).bump dUPD_NORM_LOST (es.length - 4096)
  let any (i : Nat) : Bool := es.any (fun e => normFlag e i)
  let skip := es.any (fun e => normFlag e 1 && ((!normFlag e 0 && !normFlag e 3) || (normFlag e 0 && d.groupNf e)))
  let d := d.orBits dUPD_STATUS (b2n (any 0) + 2 * b2n skip + 4 * b2n (any 3) + 8 * b2n (any 4) + 16 * b2n (any 5))
  let d := d.bump dUPD_SKIPPED (es.filter (fun e => normFlag e 1)).length
  let d := d.bump dUPD_ROOT_KEPT (es.filter (fun e => normFlag e 4 || normFlag e 5)).length
  let d := d.stepRecord id 8 0x1FF (es.flatMap (fun e => e.flatMap (leBytes 4)))
  (d.stepRecord id 3 0x1FF (leBytes 4 (d.rd dUPD_STATUS))).wr dUPD_STATUS 0

/-! ## The boundary (R35) -/

/-- What the boundary of a run waits for. -/
def Dev.atBoundary (d : Dev) (j : Job) : Bool :=
  j.running && !j.abandoned && j.sealed && j.committed && d.runDone j.id && d.noHold j.id && d.noSets j.id

/-- The replay of a job ends after the last step that the host's ledger names (R423). -/
def Dev.endReplay (d : Dev) (j : Job) : Dev :=
  if j.replay ∧ j.replayEnd ≤ j.step then
    (({ d with honoured := d.honoured.filter (fun e => e.job != j.id) } : Dev).onJob j.id (fun j => { j with replay := false })).setFld
      dBND_STATUS 6 6 0
  else d

/-- Δs of the boundary sent and its commit begun (R410, R411). -/
def Dev.beginCommit (d : Dev) (u : Nat) : Dev :=
  match sget? d.jobs u with
  | some j =>
    let j' := { j with committed := false, commitTo := j.step + 1, snapPend := j.snapDue }
    let d := { d with jobs := sput d.jobs u j' }
    (if d.parG u = 0 then d else d.sendDeltas u j' j.dirtyIndices).tryCommit u
  | none => d

/-- The boundary of a job's step in R35's order, up to the release. -/
def Dev.boundary (d : Dev) (u : Nat) (j : Job) (norms : List Nat) (moved faulty : List (Nat × Nat)) : Dev :=
  let id := j.id
  let d := (d.position1 id true).position2 id
  let d := ((d.position3 j moved).applyStaged).boundaryScrub j faulty
  let d := (d.jobTiles id).foldl (fun (d : Dev) p => (d.sendWorks p).copyTile id p) d
  let d := (d.writeNorms id j.step (normEntries norms)).copyBinderLog id
  let d := (d.writeControl j (j.step + 1)).showCursor u j.cursor
  let d := (d.endReplay j).onJob id (fun j => { j with running := false, again := [], bounds := j.bounds + 1 })
  let d := d.answerStep id 0x00 d.ptpNs
  d.beginCommit u

/-- STEP_BOUNDARY (R35): of the job in slot `u`. `norms` are the entries of the tensors it updated, 16 words each; `moved` the bytes
that a permutation brings to this device; `faulty` the Loft rows that an ordered march finds faulty, by tile. -/
def execStepBoundary (u : Nat) (norms : List Nat) (moved faulty : List (Nat × Nat)) (s : State) : Host.Outcome State Fault Refusal :=
  match sget? s.dev.jobs u with
  | none => .fault .nothingInFlight
  | some j =>
    if s.dev.atBoundary j && norms.length % 16 == 0 && normsRise ((normEntries norms).map (fun e => e.headD 0)) then
      .next { s with dev := ((s.dev.boundary u j norms moved faulty).tryRelease j.id).tryEnd j.id }
    else .fault .conditionNotMet

/-! ## The repeat point (R35, R36, R371) -/

/-- The ledger entries written again where an undone run has taken them back: what a repeat honours stays (R327; log entry 104). -/
def Dev.keepLedger (d : Dev) : Dev :=
  if d.ledger.length = d.fld dLEDGER_COUNT 20 0 then
    (d.ledger.zipIdx).foldl (fun (d : Dev) e => d.jobWrite (d.fld dLEDGER_BASE 28 0 * 4096 + 64 * e.2) e.1.bytes) d
  else d

/-- A run that has to be repeated has come to its end; or state is to be rebuilt while none runs. -/
def Dev.atRepeat (d : Dev) (j : Job) : Bool :=
  !d.peerLost j.id && ((j.running && j.abandoned && d.runOver j.id) || (!j.running && j.rebuild))

/-- The start state could not be rebuilt from parity: a job without a group whose state holds an uncorrectable word (R371). -/
def Dev.needsRestore (d : Dev) (u : Nat) (j : Job) : Bool := d.parG u == 0 && (j.rebuild || j.cause == 0x30)

/-- The repeat point of a job (R35): position 1, the run's writes undone, rebuilt chunks written, the tiles put back. -/
def Dev.repeatPoint (d : Dev) (u : Nat) (j : Job) (rebuilt : List (Nat × Nat)) : Dev :=
  let d := ((d.position1 j.id false).rollRun u).keepLedger
  if d.needsRestore u j then
    (d.answerStep j.id 0x30 0).onSlot u (fun j => { j with running := false, abandoned := false, rebuild := true })
  else
    let d := rebuilt.foldl (fun (d : Dev) (m : Nat × Nat) => d.grnWrite m.1 [BitVec.ofNat 8 m.2]) d
    let d := if j.running then d.rewindTiles j.id else d
    d.onSlot u (fun j => { j with running := false, rebuild := false })

/-- REPEAT_POINT (R35, R36): `rebuilt` are the bytes of chunks rebuilt from their stripes. -/
def execRepeatPoint (u : Nat) (rebuilt : List (Nat × Nat)) (s : State) : Host.Outcome State Fault Refusal :=
  match sget? s.dev.jobs u with
  | none => .fault .nothingInFlight
  | some j =>
    if s.dev.atRepeat j then .next { s with dev := ((s.dev.repeatPoint u j rebuilt).tryRelease j.id).tryEnd j.id }
    else .fault .conditionNotMet

/-! ## Peer recovery (R419 to R421) -/

/-- A group of the job lost more than two members (R419). -/
def Dev.parityLost (d : Dev) (j : Job) : Dev :=
  let d := (d.answerStep j.id 0x38 0).orBits dSLO_STATUS 16
  let d := d.errRecord { type := Config.errType 105, status := 0x38, cls := 9, die := 4, job := j.id, step := j.step }
  d.onJob j.id (fun j => { j with running := false, abandoned := false, rebuild := true })

/-- The recovery step `c` fixed on a device (R421): the writes of a run of `c` undone and the boundary before it committed, or the
writes of both steps undone. -/
def Dev.fixStep (d : Dev) (u : Nat) (j : Job) (c : Nat) : Dev :=
  if j.committed then d.rollRun u
  else if c = j.commitTo then (d.rollRun u).applyCommit u { j with running := false }
  else
    let n := d.parChunks u * chunkBytes
    ((d.rollAll u).zeroFill (d.parBase u + n) n).onSlot u (fun j => { j with
      committed := true, deltas := [], inboxes := [], snapDue := j.snapPend, snapPend := false })

/-- The command, the data cursor and the held commands with which step `c` is released: those of its run; else those of a command that
is held for it; else, for the step before the run, what the boundary has recorded. -/
def Dev.recoverCommand (d : Dev) (u : Nat) (j : Job) (c : Nat) : Option Nat × Nat × List Nat :=
  if j.running ∧ c = j.step then (j.cmd, j.cursor, j.held)
  else if j.running then
    (none, d.rd (slotReg dDATA_CURSOR_LO u) + d.rd (slotReg dDATA_CURSOR_HI u) * 2 ^ 32, j.cmd.toList ++ j.held)
  else
    match j.held with
    | k :: rest =>
      match sget? d.cmds k with
      | some x => if x.body 0 4 = c then (some k, x.body 4 8, rest) else (none, j.cursor, j.held)
      | none => (none, j.cursor, rest)
    | [] => (none, j.cursor, [])

/-- Which recovery steps a device can be at: that of its run, or the one before while its commit is missing; any, where it has run no
step since the commit. -/
def Job.mayRecover (j : Job) (c : Nat) : Bool :=
  (!j.running && j.committed) || (j.running && c == j.step) || (!j.committed && (c == j.commitTo || c + 1 == j.commitTo))

/-- RECOVER carried out: `c` the recovery step, `mem` the bytes that rebuilding and permuting bring to this device, `full` that the
group's parity is formed anew. -/
def Dev.recover (d : Dev) (u : Nat) (j : Job) (c epoch : Nat) (mem : List (Nat × Nat)) (full : Bool) : Dev :=
  let d := (((d.fixStep u j c).position1 j.id false).onSlot u (fun j => { j with abandoned := true })).keepLedger
  let d := (mem.foldl (fun (d : Dev) (m : Nat × Nat) => d.grnWrite m.1 [BitVec.ofNat 8 m.2]) d).changeEpoch j.id epoch []
  let d := if full && 3 ≤ d.parG u then d.parityAnew u c else d
  let d := d.rewindTiles j.id
  let k := d.recoverCommand u j c
  d.onSlot u (fun j => { j with step := c, cmd := k.1, cursor := k.2.1, held := k.2.2, running := false, abandoned := true, rebuild := false,
                                halted := false, cause := 0x41 })

/-- RECOVER of space 0x06: refused, or carried out, or found to be beyond what parity holds (`lost`). -/
def Dev.recoverCmd (d : Dev) (cmd : Cmd) (c : Nat) (lost : Bool) (mem : List (Nat × Nat)) (full : Bool) : Dev × Nat × Nat :=
  match d.jobById cmd.job, d.jobSlot cmd.job with
  | some j, some u =>
    if !d.jobQuiet j.id then (d, 0x02, 0)
    else if cmd.body 0 2 ≠ (d.fld dLAYOUT_EPOCH 15 0 + 1) % 2 ^ 16 || !j.mayRecover c then (d, 0x11, 0)
    else if lost then (d.parityLost j, 0x38, 0)
    else ((d.recover u j c (cmd.body 0 2) mem full).tryRelease j.id, 0x00, 0)
  | _, _ => (d, 0x11, 0)

/-- RECOVER (R420). -/
def execRecover (k c : Nat) (lost : Bool) (mem : List (Nat × Nat)) (full : Bool) (s : State) : Host.Outcome State Fault Refusal :=
  runDone 0x0603 k s (fun d cmd => d.recoverCmd cmd c lost mem full)

end Sys2Proof.Machine
end

