-- ==== Sys2Proof/Machine/Integrity.lean ====
section
/-! DEFINITION. The step seal (R319, R422, R459, R460), the Winnower's comparison and vote (R377 to R380), and the background work
of the integrity block on tables, idle tiles and triplicated fields (R368, R371, R372, R386). -/

namespace Sys2Proof.Machine

/-! ## Combined records (R110, R111, R131, R319) -/

/-- Records of one tensor combined with those already combined, in ascending tensor identifier. -/
def joinAt (join : List Byte → List Byte → List Byte) (r : List Byte) : List (List Byte) → List (List Byte)
  | [] => [r]
  | s :: rest =>
    if valAt r 0 4 < valAt s 0 4 then r :: s :: rest
    else if valAt r 0 4 = valAt s 0 4 then join s r :: rest
    else s :: joinAt join r rest

/-- Counts added, lanes added modulo 2^61 − 1, sums of squares added exactly (R319). -/
def joinFp (a b : List Byte) : List Byte :=
  a.take 8 ++ leBytes 8 ((valAt a 8 8 + valAt b 8 8) % 2 ^ 64) ++
  (List.range 4).flatMap (fun k => leBytes 8 ((valAt a (16 + 8 * k) 8 + valAt b (16 + 8 * k) 8) % (2 ^ 61 - 1))) ++
  leBytes 80 (bushelCode (bushelAdd (bushelVal (valAt a 48 80)) (bushelVal (valAt b 48 80))).1).1

/-- A scale code field joined: records that hold 0x80 are left out (R131). -/
def joinCode (pick : Int → Int → Int) (a b : Nat) : Nat :=
  if a = 0x80 then b else if b = 0x80 then a else wrapN (pick (sext a 8) (sext b 8)) 8

/-- Scout fields combined (R131). -/
def joinSc (a b : List Byte) : List Byte :=
  a.take 8 ++ ([8, 16, 24] : List Nat).flatMap (fun o => leBytes 8 ((valAt a o 8 + valAt b o 8) % 2 ^ 64)) ++
  ([32, 36, 40, 44] : List Nat).flatMap (fun o => leBytes 4 ((valAt a o 4 + valAt b o 4) % 2 ^ 32)) ++
  leBytes 1 (joinCode max (valAt a 48 1) (valAt b 48 1)) ++ leBytes 1 (joinCode min (valAt a 49 1) (valAt b 49 1)) ++ a.drop 50

/-- Records of `n` bytes each. -/
def recordsOf (n : Nat) (bs : List Byte) : List (List Byte) := (List.range (bs.length / n)).map (fun i => (bs.drop (n * i)).take n)

/-- The job's own records of a kind in its step record. -/
def Dev.ownRecords (d : Dev) (id kind : Nat) : List (List Byte) :=
  (d.stepRec.filter (fun (r : RecItem) => r.job == id && r.kind == kind)).map (·.bytes)

/-- Combined fingerprint records, with those of the other devices. -/
def Dev.combinedFp (d : Dev) (id : Nat) (others : List (List Byte)) : List (List Byte) :=
  (d.ownRecords id rkFINGERPRINT ++ others).foldl (fun m r => joinAt joinFp r m) []

/-- Combined scout records. -/
def Dev.combinedSc (d : Dev) (id : Nat) (others : List (List Byte)) : List (List Byte) :=
  (d.ownRecords id rkSCOUT ++ others).foldl (fun m r => joinAt joinSc r m) []

/-! ## The seal (R459, R460) -/

/-- S(n). -/
def sealDigest (n : Nat) (fs qs : List (List Byte)) : List Nat :=
  sha384 ([0x5A, 0x53, 0x45, 0x41, 0x4C] ++ natBytes 4 n ++ natBytes 4 fs.length ++ toNats fs.flatten ++ natBytes 4 qs.length ++
    toNats qs.flatten)

/-- The 1,024-byte body of a seal record. -/
def Dev.sealBody (d : Dev) (j : Job) (s c : List Nat) : List Nat :=
  let b := natBytes 4 0x5A534C53 ++ natBytes 4 j.id ++ natBytes 4 j.step ++ natBytes 2 (d.fld dLAYOUT_EPOCH 15 0) ++ natBytes 2 j.rank ++
    natBytes 8 d.stamp ++ s ++ c ++ sha384 ((List.range 8).flatMap (fun k => d.meas k)) ++ deviceId ++ [j.numCtrl % 32, d.fuses.refRev % 256]
  b ++ List.replicate (1024 - b.length) 0

/-- The step's combined records put into the step record in place of its tiles' (R319). -/
def Dev.putCombined (d : Dev) (id : Nat) (fs qs : List (List Byte)) : Dev :=
  let d := { d with stepRec := d.stepRec.filter (fun r => !(r.job == id && (r.kind == rkFINGERPRINT || r.kind == rkSCOUT))) }
  let d := fs.foldl (fun (d : Dev) r => d.stepRecord id rkFINGERPRINT 0x1FF r) d
  qs.foldl (fun (d : Dev) r => d.stepRecord id rkSCOUT 0x1FF r) d

/-- The seal of a completed run signed: one seal per step, the chain carried on (R37, R459, R460). -/
def Dev.sign (d : Dev) (u : Nat) (j : Job) (s : List Nat) : Dev :=
  let c := sha384 (j.chain ++ s)
  let body := d.sealBody j s c
  let record := body ++ d.akBlock 3 7168 body (hmac384 (d.recordKey j) (sha384 body))
  let d := (d.stepRecord j.id 7 0x1FF (toBytes record)).wr (dTC_SEALED + 4 * u) j.step
  d.onSlot u (fun j => { j with
    sealed := true, chain := c, sealedS := some (j.step, s),
    chains := (sput j.chains j.step j.chain).filter (fun (e : Nat × List Nat) => j.step ≤ e.1 + 2) })

/-- A repeated step that was sealed before: the same seal digest, and nothing is signed; another one halts the job (R422, R465). -/
def Dev.sealAgain (d : Dev) (u : Nat) (j : Job) (same : Bool) : Dev :=
  if same then d.onSlot u (fun j => { j with sealed := true })
  else
    let d := d.errRecord { type := 4, status := 0x31, cls := 9, die := 4, unit := 3, job := j.id, step := j.step }
    (d.tcLog 15 0x31 j.tenant j.id j.step).haltJob j.id

/-- The seal of the present run. -/
def Dev.stepSeal (d : Dev) (u : Nat) (j : Job) (fps scouts : List (List Byte)) : Dev :=
  let fs := d.combinedFp j.id fps
  let qs := d.combinedSc j.id scouts
  let s := sealDigest j.step fs qs
  let d := d.putCombined j.id fs qs
  match j.sealedS with
  | some (n, old) => if n = j.step then d.sealAgain u j (old == s) else d.sign u j s
  | none => d.sign u j s

/-- STEP_SEAL (R37, R460): of the job in slot `u`, once its run has ended with its closing barrier; `fps` and `scouts` are the
records that the other devices bring (R319). -/
def execStepSeal (u : Nat) (fps scouts : List Nat) (s : State) : Host.Outcome State Fault Refusal :=
  match sget? s.dev.jobs u with
  | none => .fault .nothingInFlight
  | some j =>
    if j.running && !j.abandoned && !j.sealed && !j.halted && s.dev.runDone j.id && s.dev.noHold j.id && s.dev.noSets j.id &&
        fps.length % 128 == 0 && scouts.length % 64 == 0 then
      .next { s with dev := s.dev.stepSeal u j (recordsOf 128 (toBytes fps)) (recordsOf 64 (toBytes scouts)) }
    else .fault .conditionNotMet

/-! ## The Winnower (R377 to R381) -/

/-- The mirror of a sampled tile. -/
def Dev.mirrorOf (d : Dev) (p : Nat) : Option Mirror := d.mirrors.find? (fun m => m.phys == p)

/-- A mirror put in its place. -/
def Dev.putMirror (d : Dev) (m : Mirror) : Dev := { d with mirrors := d.mirrors.map (fun x => if x.phys = m.phys then m else x) }

/-- Bytes of a diagnosis slot (R378, R509). -/
def captureBytes : Nat := 0x400000
/-- Where the Winnower area starts. -/
def Dev.winnowerBase (d : Dev) : Nat := d.fld dWNW_AREA_BASE 28 0 * 4096

/-- The voter of a mirror: the spare that is held, or in full mode a free one (R375, R381). -/
def Dev.voterOf (d : Dev) (m : Mirror) : Option Nat := if m.voter < 272 then some m.voter else d.freeSpares.head?

/-- The hold flag of a sampled tile cleared. -/
def Dev.dropHold (d : Dev) (p : Nat) : Dev := d.onTile p (fun t => t.setLevel 43 false)

/-- The first difference of a mirror (R378, R380): the verifier stops, the slice goes to the working buffer. A difference in the entries
issued, a slice that is too long, and a want of voters leave no slice vote. -/
def Dev.mismatch (d : Dev) (m : Mirror) (a b : Nat) (slice : Option (List Nat)) : Dev :=
  let t := d.tile m.phys
  let d := (d.errRecord { type := 4, status := 0x31, cls := 1, die := dieOfTile m.phys, unit := m.phys, job := m.job, step := t.rd tTHR_STEP,
                          detail := a % 2 ^ 32 + b % 2 ^ 32 * 2 ^ 32, tile := m.tile }).bump dWNW_MISMATCH 1
  let d := d.onTile m.verifier (fun t => t.setState stSTOPPED)
  match slice, d.voterOf m with
  | some bs, some v =>
    if bs.length ≤ captureBytes then
      (d.grnWrite d.winnowerBase (toBytes bs)).putMirror { m with state := 1, words := (a, b), voter := v }
    else d.putMirror { m with state := 2, words := (a, b) }
  | _, _ => d.putMirror { m with state := 2, words := (a, b) }

/-- A word, or an entry of the record of entries issued, compared (R377). -/
def Dev.compareWord (d : Dev) (m : Mirror) (a b : Nat) (last : Bool) (slice : Option (List Nat)) : Dev :=
  if a = b then
    let m := { m with compared := m.compared + 1 }
    if last then ((d.putMirror { m with state := 3 }).dropHold m.phys).bump dWNW_SAMPLED 1 else d.putMirror m
  else d.mismatch m a b slice

/-- WINNOWER_COMPARE (R377, R378): what the sampled tile `p` and its verifier would write; `last` that it is the last of the run;
`slice` what a vote on a difference needs, none where no slice vote is possible. -/
def execWinnowerCompare (p a b : Nat) (last : Bool) (slice : Option (List Nat)) (s : State) : Host.Outcome State Fault Refusal :=
  match s.dev.mirrorOf p with
  | none => .fault .nothingInFlight
  | some m =>
    if m.state = 0 ∧ (last = false ∨ [stDONE, stSTOPPED, stHALTED].contains (s.dev.tile p).state = true) then
      .next { s with dev := s.dev.compareWord m a b last slice }
    else .fault .conditionNotMet

/-- A tile becomes a failed unit that position 1 quarantines (R370, R379). -/
def Dev.failTile (d : Dev) (p : Nat) : Dev := d.onTile p (fun t => { t with failed := true })

/-- A tile's destructive march and known-answer tests (R379, R380): its Lofts zeroed, and whether it fails. -/
def Dev.testTile (d : Dev) (p : Nat) (bad : Bool) : Dev :=
  let d := d.onTile p (fun t => t.marchZero 0xFF)
  if bad then d.failTile p else d

/-- The run of a mirror's job abandoned, with its cause (R36). -/
def Dev.abandonFor (d : Dev) (m : Mirror) : Dev := d.onJob m.job (fun j => j.abandon 0x31)

/-- The sampled tile loses (R379, R380). -/
def Dev.tileLoses (d : Dev) (m : Mirror) : Dev := ((d.failTile m.phys).abandonFor m).bump dWNW_LOST_TILE 1
/-- The verifier loses. -/
def Dev.verifierLoses (d : Dev) (m : Mirror) : Dev := (d.failTile m.verifier).bump dWNW_LOST_VERIFIER 1

/-- The slice and the three results copied to a free diagnosis slot (R378; log entry 105). -/
def Dev.keepCapture (d : Dev) (m : Mirror) (bs : List Nat) : Dev :=
  match d.jobById m.job with
  | some j =>
    if j.captures < d.fld dWNW_CTRL 15 8 then
      (d.grnWrite (d.winnowerBase + (1 + j.captures) * captureBytes) (toBytes (bs.take captureBytes))).onJob m.job
        (fun j => { j with captures := j.captures + 1 })
    else d.orBits dWNW_STATUS 2
  | none => d

/-- The outcome of a slice vote: the voter agrees with 0 the verifier, 1 the sampled tile, 2 neither (R379). -/
def Dev.sliceVote (d : Dev) (m : Mirror) (agrees : Nat) (bad1 bad2 : Bool) (capture : List Nat) : Dev :=
  let d := d.keepCapture m capture
  match agrees with
  | 0 => d.tileLoses m
  | 1 => d.verifierLoses m
  | _ => ((d.tileLoses m).testTile m.verifier bad1).testTile m.voter bad2

/-- The tests that decide where no slice vote is possible (R380): `bad1` that the sampled tile fails, `bad2` the verifier. -/
def Dev.testVote (d : Dev) (m : Mirror) (bad1 bad2 : Bool) : Dev :=
  let d := (d.testTile m.phys false).testTile m.verifier false
  let d := if bad1 then d.tileLoses m else d
  let d := if bad2 then d.verifierLoses m else d
  if bad1 || bad2 then d
  else (d.abandonFor m).onJob m.job (fun j => { j with again := j.again ++ [m.tile] })

/-- The outcome fixed: VOTE record, and the hold flag cleared (R379). -/
def Dev.voteDone (d : Dev) (m : Mirror) (agrees : Nat) (bad1 bad2 : Bool) (capture : List Nat) : Dev :=
  let step := (d.tile m.phys).rd tTHR_STEP
  let d := if m.state = 1 then d.sliceVote m agrees bad1 bad2 capture else d.testVote m bad1 bad2
  let d := d.errRecord { type := 5, status := 0x31, cls := 1, die := dieOfTile m.phys, unit := m.phys, job := m.job, step := step, tile := m.tile }
  (d.putMirror { m with state := 3 }).dropHold m.phys

/-- VOTE_DONE (R379, R380): of the mirror of sampled tile `p`: which result the voter's agrees with; the tests of the tiles that run
them, verifier and voter after a vote that agrees with neither, sampled tile and verifier where no slice vote is possible, and the
latter once every table of the run has ended. -/
def execVoteDone (p agrees : Nat) (bad1 bad2 : Bool) (capture : List Nat) (s : State) : Host.Outcome State Fault Refusal :=
  match s.dev.mirrorOf p with
  | none => .fault .nothingInFlight
  | some m =>
    if (m.state = 1 ∧ agrees < 3) ∨ (m.state = 2 ∧ s.dev.runOver m.job = true) then
      .next { s with dev := s.dev.voteDone m agrees bad1 bad2 capture }
    else .fault .conditionNotMet

/-! ## The Gleaner on idle tiles and tables (R372) -/

/-- A tile in no job that the Gleaner marches: neither enabled nor in test, fused off, quarantined or in the Winnower's use. -/
def Dev.idleTile (d : Dev) (p : Nat) : Bool :=
  let t := d.tile p
  t.job == 0 && !t.enabled && !t.verify && t.march.isNone && d.fld (dPHYS_STATE + 4 * p) 2 0 < 2

/-- IDLE_S has passed for the tile: a preserving march of every bank, which the Reeve hands to XT, begins. -/
def Dev.idleMarch (d : Dev) (p : Nat) : Dev :=
  let d := d.leaveIdle.advancePs (sget 0 d.marchPs p + d.fld dGLN_LOFT 31 16 * 1000000000000)
  let d := { d with marchPs := sput d.marchPs p d.clock.ps }
  d.onTile p (fun t =>
    let t := t.handAll (List.range 8) mXT (t.toLocal d.clock.now)
    { t.setBusy true with march := some ⟨0xFF, true, false, d.clock.now + marchTc true⟩ })

/-- GLEANER_IDLE_MARCH (R372). -/
def execGleanerIdleMarch (p : Nat) (s : State) : Host.Outcome State Fault Refusal :=
  if p < 272 then
    if s.dev.fld dINT_CTRL 0 0 = 1 ∧ s.dev.idleTile p = true then .next { s with dev := s.dev.idleMarch p } else .fault .conditionNotMet
  else .fault .noSuchUnit

/-- Words of the table banks and the descriptors of a tile. -/
def scrubWords : Nat := 16896

/-- Half `h` of a stored word of 256 bits replaced. -/
def putHalf (w h v : Nat) : Nat := if h = 0 then w / 2 ^ 128 * 2 ^ 128 + v % 2 ^ 128 else w % 2 ^ 128 + v % 2 ^ 128 * 2 ^ 128

/-- The stored word at position `n` of the scrub: its bits, and the pattern of its flipped ones. -/
def Tile.scrubAt (t : Tile) (n : Nat) : Nat × Nat :=
  let w := if n < 16384 then (sget 0 t.entries (n / 2)).toNat else (sget 0 t.desc ((n - 16384) / 2)).toNat
  (w / 2 ^ (128 * (n % 2)) % 2 ^ 128, (if n < 16384 then sget 0 t.entryErr n else sget 0 t.descErr (n - 16384)).toNat)

/-- The stored word at position `n` with other bits and another pattern. -/
def Tile.putScrub (t : Tile) (n data flips : Nat) : Tile :=
  let f := BitVec.ofNat 144 flips
  if n < 16384 then
    let w := putHalf (sget 0 t.entries (n / 2)).toNat (n % 2) data
    { t with entries := sset 0 t.entries (n / 2) (BitVec.ofNat 256 w), entryErr := sset 0 t.entryErr n f }
  else
    let k := n - 16384
    let w := putHalf (sget 0 t.desc (k / 2)).toNat (k % 2) data
    { t with desc := sset 0 t.desc (k / 2) (BitVec.ofNat 256 w), descErr := sset 0 t.descErr k f }

/-- One word checked by a tile's scrub port, `flips` the bits of it that have flipped meanwhile: a corrected word is rewritten, an
uncorrectable one stored poisoned. -/
def Dev.tableScrub (d : Dev) (p flips : Nat) : Dev :=
  let t := d.tile p
  let n := t.scrub
  let d := d.advanceTo (t.scrubTc + 16)
  let old := t.scrubAt n
  let r := strike old.1 old.2 (flips % 2 ^ 144)
  let o := (sheafRead 0 r.2).2
  let d := d.codeReport o r.2 { type := 0, cls := 3, die := dieOfTile p, unit := p, sub := if n < 16384 then n / 8192 else 2, job := t.job,
                                step := t.rd tTHR_STEP, op := 0xE2, tile := t.logical.getD 0x1FF }
  let f := match o with | .uncorrectable => poisonFlips | _ => 0
  d.onTile p (fun t => { t.putScrub n r.1 f with scrub := (n + 1) % scrubWords, scrubTc := t.scrubTc + 16 })

/-- TABLE_SCRUB_TICK (R372): 16 tc after the port's last word. -/
def execTableScrubTick (p flips : Nat) (s : State) : Host.Outcome State Fault Refusal :=
  if p < 272 then
    if s.dev.fld dINT_CTRL 0 0 = 1 then .next { s with dev := s.dev.tableScrub p flips } else .fault .conditionNotMet
  else .fault .noSuchUnit

/-! ## Triplicated fields (R386) -/

/-- One field whose copies differ: how many of them do. Its voted value stands. -/
def Dev.tmrFault (d : Dev) (off copies : Nat) : Dev :=
  let d := d.errRecord { type := 12, status := if copies = 2 then 0x30 else 0, cls := 10, unit := off / 0x10000, addr := off }
  let d := d.bump dTMR_REPAIRS copies
  if copies = 2 then
    if 0x1000000 ≤ off ∧ off / 0x10000 - 0x100 < 272 then d.failTile (off / 0x10000 - 0x100) else { d with failed := true }
  else d

/-- TMR_SWEEP (R386): once per millisecond, with the fields found to differ, by offset, and the number of their copies that do. -/
def execTmrSweep (faults : List (Nat × Nat)) (s : State) : Host.Outcome State Fault Refusal :=
  if !s.dev.power.hub then .fault .unpowered
  else if faults.all (fun f => f.1 % 4 == 0 && f.1 < 0x4000000 && (f.2 == 1 || f.2 == 2)) then
    let d := s.dev.advancePs ((s.dev.clock.ps / 1000000000 + 1) * 1000000000)
    .next { s with dev := faults.foldl (fun (d : Dev) f => d.tmrFault f.1 f.2) d }
  else .fault .conditionNotMet

end Sys2Proof.Machine
end

