-- ==== Sys2Proof/Machine/PowerCmds.lean ====
section
/-! DEFINITION. Power commands and states, resets, supplies, clocks and sensors (R487, R492, R518 to R547). -/

namespace Sys2Proof.Machine

/-! ## Power commands (R521 to R526) -/

/-- Why a power command is refused, 0 where it is not: `sleep` that Sleep is left by it too (R521, R525, R526). -/
def Dev.powerRefusal (d : Dev) (mask : Nat) (fromSleep : Bool) : Nat :=
  if 64 ≤ mask then 0x11
  else if d.anyJob || !(d.pstate == 0 || d.pstate == 1 || (fromSleep && d.pstate == 2)) then 0x02
  else 0

/-- Every session closed, as at a warm reset (R448, R523). -/
def Dev.dropSessions (d : Dev) : Dev :=
  ({ d with trust := d.trust.cleared, parts := [], winTenant := [] } : Dev).wr dTC_SESSIONS 0

/-- Entry of a power state begins after the final reply (R522, R525, R526). -/
def Dev.powerEntry (d : Dev) (k entry mask : Nat) : Dev :=
  let d := d.final k 0x00 0
  let d := ((d.setFld dHK_WAKE 13 8 (mask ||| 5)).setFld dGLB_START 0 0 0).setPstate entry
  let d := { d with power := { d.power with wakes := 0 } }
  if entry = 5 then d else d.dropSessions

/-- A power command: refused, or answered before entry begins. -/
def Dev.powerCommand (d : Dev) (k : Nat) (c : Cmd) (entry : Nat) : Dev :=
  let st := d.powerRefusal (c.body 0 1) (entry != 5)
  if st = 0 then d.powerEntry k entry (c.body 0 1) else d.final k st 0

/-- SLEEP (R525). -/
def execSleep (k : Nat) (s : State) : Host.Outcome State Fault Refusal := runCmd 0x0801 k s (fun d c => d.powerCommand k c 5)
/-- DEEP_SLEEP (R525). -/
def execDeepSleep (k : Nat) (s : State) : Host.Outcome State Fault Refusal := runCmd 0x0802 k s (fun d c => d.powerCommand k c 6)
/-- OFF (R525). -/
def execPowerOff (k : Nat) (s : State) : Host.Outcome State Fault Refusal := runCmd 0x0803 k s (fun d c => d.powerCommand k c 7)
/-- WAKE_TIMER (R525, R527). -/
def execWakeTimer (k : Nat) (s : State) : Host.Outcome State Fault Refusal :=
  runDone 0x0804 k s (fun d c => (d.setTimer (c.body 0 4), 0x00, 0))

/-! ## Entry and exit -/

/-- Entry completes; wakes latched during it start the exit at once (R521, R528). -/
def Dev.entryDone (d : Dev) : Dev :=
  let n := d.pstate
  let m := d.power.wakes
  let d := (if n = 5 then d.sleepIn else if n = 6 then d.deepIn else d.offIn).setPstate (n - 3)
  let d := { d with power := { d.power with wakes := 0 } }
  if m = 0 then d
  else (((d.noteWake (lowestWake m)).orBits dHK_LAST_WAKE (m * 2 ^ 8)).setPstate (exitState (n - 3))).powerExit

/-- POWER_STATE_ENTRY_DONE (R521, R528). -/
def execPowerStateEntryDone (s : State) : Host.Outcome State Fault Refusal :=
  if 5 ≤ s.dev.pstate ∧ s.dev.pstate ≤ 7 then .next { s with dev := s.dev.entryDone } else .fault .conditionNotMet

/-- The exit from Sleep completes (R524, R530, R532). -/
def Dev.sleepExit (d : Dev) : Dev :=
  let d := (d.setPstate 0).setFld dHK_CLK 3 2 3
  let d := { d with clock := { d.clock with ptpRun := true, ptpBase := d.stbyNs, ptpPs := d.clock.ps }
                    power := { d.power with tclk := true, idlePs := d.clock.ps, loadPs := d.clock.ps } }
  d.raisePorts.setFld dGLB_START 0 0 (b2n (!d.recovery && d.allMapped && d.fld dGLB_START 4 1 == 8))

/-- SLEEP_EXIT_DONE (R524). -/
def execSleepExitDone (s : State) : Host.Outcome State Fault Refusal :=
  if s.dev.pstate = 8 then .next { s with dev := s.dev.sleepExit } else .fault .conditionNotMet

/-- No work needs TCLK (R521): no job, no tile enabled, no march, start-up over. -/
def Dev.mayIdle (d : Dev) : Bool :=
  d.power.hub && d.pstate == 0 && d.fld dGLB_START 4 1 == 8 && d.fld dHK_IDLE 15 0 != 0 && !d.anyJob && !d.anyTileOn &&
  d.tiles.all (fun e => e.2.march.isNone)

/-- Idle entered once its delay has run. -/
def Dev.idleEntry (d : Dev) : Dev :=
  let d := (d.advancePs (d.power.idlePs + d.fld dHK_IDLE 15 0 * 1000000)).setPstate 1
  { d with power := { d.power with tclk := false } }

/-- IDLE_ENTRY (R521). -/
def execIdleEntry (s : State) : Host.Outcome State Fault Refusal :=
  if s.dev.mayIdle then .next { s with dev := s.dev.idleEntry } else .fault .conditionNotMet

/-! ## Waking (R527, R528) -/

/-- WAKE_IN_EDGE: a rising edge held high for 1 ms. -/
def execWakeInEdge (s : State) : Host.Outcome State Fault Refusal :=
  if s.dev.power.stby then .next { s with dev := s.dev.wakeUp 1 } else .fault .unpowered

/-- WEIGHHOUSE_ALARM_WAKE (R486, R527): the alarm level has risen. -/
def execWeighhouseAlarmWake (s : State) : Host.Outcome State Fault Refusal :=
  if !s.dev.power.stby then .fault .unpowered
  else if s.dev.whAlarm && !s.dev.wh.seen then .next { s with dev := (s.dev.onWh (fun w => { w with seen := true })).wakeUp 4 }
  else .fault .conditionNotMet

/-- The wake timer runs out: it clears, and wakes where it acts (R528). -/
def Dev.timerExpire (d : Dev) : Dev :=
  let d := d.advancePs (d.power.timerPs + d.rd dHK_TIMER * 1000000000000)
  ((d.wr dHK_TIMER 0).unclaim 0 0x002 0).wakeUp 6

/-- WAKE_TIMER_EXPIRE (R527). -/
def execWakeTimerExpire (s : State) : Host.Outcome State Fault Refusal :=
  if !s.dev.power.stby then .fault .unpowered
  else if s.dev.rd dHK_TIMER ≠ 0 then .next { s with dev := s.dev.timerExpire } else .fault .conditionNotMet

/-! ## Resets and supplies -/

/-- COLD_RESET (R534): the standby rail rises. -/
def execColdReset (s : State) : Host.Outcome State Fault Refusal :=
  if s.dev.power.stby then .fault .conditionNotMet else .next { s with dev := s.dev.coldReset }

/-- PWR_GOOD rises (R534 order 6, R539). -/
def Dev.goodRise (d : Dev) : Dev :=
  let d := { d with power := { d.power with good := true } }
  if d.power.hub then d
  else if d.pstate = 0 then d.powerMain
  else d.powerExit

/-- PWR_GOOD_RISE. -/
def execPwrGoodRise (s : State) : Host.Outcome State Fault Refusal :=
  if !s.dev.power.stby then .fault .unpowered
  else if s.dev.power.good then .fault .conditionNotMet
  else .next { s with dev := s.dev.goodRise }

/-- PERST_RELEASE (R534 order 8, R535 step 5): the rows that follow may run. -/
def execPerstRelease (s : State) : Host.Outcome State Fault Refusal :=
  if s.dev.power.perst then .fault .conditionNotMet
  else .next { s with dev := { s.dev with power := { s.dev.power with perst := true } } }

/-- PERST_N low for 1 µs (R535, R539): ignored where the main domains are off, but for Deep sleep. -/
def Dev.perstLow (d : Dev) : Dev :=
  let d := { d with power := { d.power with perst := false } }
  if d.power.hub || d.pstate == 3 then d.warmReset 2 else d

/-- WARM_RESET (R535). -/
def execWarmReset (s : State) : Host.Outcome State Fault Refusal :=
  if s.dev.power.perst then .next { s with dev := s.dev.perstLow } else .fault .conditionNotMet

/-- PCIE_HOT_RESET (R492, R538): a hot reset, or with `disable` a link disable. -/
def execPcieHotReset (disable : Bool) (s : State) : Host.Outcome State Fault Refusal :=
  if s.dev.endpoint && s.dev.power.link then .next { s with dev := s.dev.warmReset (if disable then 4 else 3) }
  else .fault .conditionNotMet

/-- The link drops: transfers in host windows end, jobs go on (R274, R492). -/
def Dev.pcieDown (d : Dev) : Dev :=
  let d := { d with power := { d.power with link := false } }
  (List.range 16).foldl (fun (d : Dev) w => d.endInWindow w) (d.wr dGLB_LINK 0)

/-- PCIE_LINK_DOWN (R492). -/
def execPcieLinkDown (s : State) : Host.Outcome State Fault Refusal :=
  if s.dev.power.link then .next { s with dev := s.dev.pcieDown } else .fault .conditionNotMet

/-- The link is up at a speed code and a width (R490, R514, R529). -/
def Dev.pcieUp (d : Dev) (speed width : Nat) : Dev :=
  let d := { d with power := { d.power with link := true } }
  (d.wr dGLB_LINK (speed + width * 16)).setFld dHK_WAKE_OUT 1 1 0

/-- PCIE_LINK_UP (R529). -/
def execPcieLinkUp (speed width : Nat) (s : State) : Host.Outcome State Fault Refusal :=
  if 1 ≤ speed ∧ speed ≤ 6 ∧ [1, 2, 4, 8, 16].contains width = true then
    if !s.dev.endpoint then .fault .unpowered
    else if s.dev.power.link then .fault .conditionNotMet
    else .next { s with dev := s.dev.pcieUp speed width }
  else .fault .noSuchUnit

/-- An event of HK_STATUS that management has not read (R540). -/
def Dev.hkEvent (d : Dev) (m : Nat) : Dev :=
  { d.orBits dHK_STATUS m with power := { d.power with unread := d.power.unread ||| m } }

/-- The main domains are powered, the Granary's in Deep sleep too. -/
def Dev.mainUp (d : Dev) : Bool := d.power.hub || d.pstate == 3

/-- A power fault (R541): 0 PWR_GOOD falls, 1 the 54 V input sags, 2 a core rail sags. -/
def Dev.powerFault (d : Dev) (kind : Nat) : Dev :=
  let d := if kind = 0 then { d with power := { d.power with good := false } } else d
  if d.mainUp then ((d.hkEvent 8).powerRecord).fallOff 6 else d

/-- POWER_FAULT (R541). -/
def execPowerFault (r : Nat) (s : State) : Host.Outcome State Fault Refusal :=
  if r < 3 then
    if !s.dev.power.stby then .fault .unpowered
    else if r = 0 then (if s.dev.power.good then .next { s with dev := s.dev.powerFault r } else .fault .conditionNotMet)
    else if s.dev.mainUp then .next { s with dev := s.dev.powerFault r }
    else .fault .unpowered
  else .fault .noSuchUnit

/-- The standby rail is lost (R541): the record comes from the hold-up buffer. -/
def Dev.standbyLoss (d : Dev) : Dev :=
  let d := if d.mainUp then d.powerRecord.haltAll.offIn else d
  { d with power := { d.power with stby := false, wakes := 0 } }

/-- STANDBY_RAIL_LOSS (R541). -/
def execStandbyRailLoss (s : State) : Host.Outcome State Fault Refusal :=
  if s.dev.power.stby then .next { s with dev := s.dev.standbyLoss } else .fault .conditionNotMet

/-! ## The reference clock (R533) -/

/-- Every port's link goes down. -/
def Dev.portsDown (d : Dev) : Dev :=
  (List.range 8).foldl (fun (d : Dev) e => [0, 1, 2, 3].foldl (fun (d : Dev) j => d.linkDown e j) d) d

/-- REFCLK lost: jobs halted, ports down. -/
def Dev.refclkLoss (d : Dev) : Dev :=
  let d := d.haltAll.portsDown
  let d := ((d.hkEvent 16).bump dHK_REFCLK_LOSS 1).powerRecord
  let d := { d with training := [], power := { d.power with refOk := false, refPs := d.clock.ps } }
  d.wr dHK_CLK 0x20

/-- REFCLK_LOSS (R533): ignored while the main domains are off (R539). -/
def execRefclkLoss (s : State) : Host.Outcome State Fault Refusal :=
  if !s.dev.power.hub then .fault .unpowered
  else if s.dev.power.refOk then .next { s with dev := s.dev.refclkLoss }
  else .fault .conditionNotMet

/-- REFCLK has been stable for 10 ms: PLLs relock, ports retrain. -/
def Dev.refclkRelock (d : Dev) : Dev :=
  let d := (d.advancePs (d.power.refPs + 10000000000)).wr dHK_CLK 0x3F
  let d := { d with power := { d.power with refOk := true, refPs := d.clock.ps } }
  (List.range 8).foldl (fun (d : Dev) e => if d.engineOn e then d.lightEngine e else d) d

/-- REFCLK_RELOCK (R533). -/
def execRefclkRelock (s : State) : Host.Outcome State Fault Refusal :=
  if !s.dev.power.hub then .fault .unpowered
  else if s.dev.power.refOk then .fault .conditionNotMet
  else .next { s with dev := s.dev.refclkRelock }

/-- STBY_TIME_LOAD (R532): each second while the PTP clock runs. -/
def Dev.stbyLoad (d : Dev) : Dev :=
  let d := d.advancePs (d.power.loadPs + 1000000000000)
  { d with clock := { d.clock with stbyBase := d.ptpNs, stbyPs := d.clock.ps }, power := { d.power with loadPs := d.clock.ps } }

/-- STBY_TIME_LOAD. -/
def execStbyTimeLoad (s : State) : Host.Outcome State Fault Refusal :=
  if s.dev.clock.ptpRun then .next { s with dev := s.dev.stbyLoad } else .fault .conditionNotMet

/-! ## Sensors and limits (R542, R543, R546) -/

/-- The temperature sensors: their register's offset, or for stack s of the Granary its controller's register, and the limit
class. -/
def tempSensors : List (Nat × Nat) :=
  (List.range 7).map (fun d => (dHK_TEMP + 4 * d, 0)) ++ (List.range 24).map (fun s => (grnOff dGRN_TEMP s, 1)) ++
  [(dHK_COOLANT, 2)] ++ (List.range 8).map (fun e => (dHK_PHOT_TEMP + 4 * e, 3))

/-- The registers that a sample writes: the temperature sensors, rail voltages, input power and voltage. -/
def isSensor (off : Nat) : Bool :=
  tempSensors.any (fun t => t.1 == off) || (dHK_VOLT ≤ off && off < dHK_VOLT + 28 && off % 4 == 0) || off == dHK_PIN

/-- A sensor's reading in 1/16 °C. -/
def Dev.reading (d : Dev) (off : Nat) : Int :=
  if 0x100000 ≤ off then 16 * (BitVec.ofNat 8 (d.rd off)).toInt else (BitVec.ofNat 16 (d.rd off)).toInt

/-- The limit of a class: byte 0 warn, 1 throttle, 2 trip, 3 resume (R546), in 1/16 °C. -/
def Dev.limit (d : Dev) (c i : Nat) : Int := 16 * (bits (d.rd (dHK_TH_LIMIT_0 + 4 * c)) (8 * i + 7) (8 * i) : Nat)

/-- A THERMAL record of a sensor (R390). -/
def Dev.thermalRecord (d : Dev) (off c : Nat) : Dev :=
  let r : ErrIn := match c with
    | 0 => { type := 22, cls := 9, die := (off - dHK_TEMP) / 4 }
    | 1 => { type := 22, cls := 4, die := (off - dGRN_TEMP) / 0x10000 / 6, unit := (off - dGRN_TEMP) / 0x10000 }
    | 3 => { type := 22, cls := 5, die := 5 + (off - dHK_PHOT_TEMP) / 16, unit := (off - dHK_PHOT_TEMP) / 4 }
    | _ => { type := 22, cls := 9 }
  d.errRecord r

/-- One reading taken: a rise to the warn limit is reported. -/
def Dev.sense (d : Dev) (off w : Nat) : Dev :=
  match tempSensors.find? (fun t => t.1 == off) with
  | none => d.wr off w
  | some (_, c) =>
    let was := decide (d.limit c 0 ≤ d.reading off)
    let d := d.wr off (if c = 1 then w % 256 else if c = 2 then w else w % 65536)
    if decide (d.limit c 0 ≤ d.reading off) && !was then (d.hkEvent 1).thermalRecord off c else d

/-- THERMAL_SAMPLE (R542, R546): readings by register offset; with the hub off only the coolant's. -/
def execThermalSample (readings : List (Nat × Nat)) (s : State) : Host.Outcome State Fault Refusal :=
  if readings.all (fun (r : Nat × Nat) => isSensor r.1) then
    if !s.dev.power.stby || (!s.dev.power.hub && readings.any (fun (r : Nat × Nat) => r.1 != dHK_COOLANT)) then .fault .unpowered
    else .next { s with dev := readings.foldl (fun (d : Dev) (r : Nat × Nat) => d.sense r.1 (r.2 % 2 ^ 32)) s.dev }
  else .fault .noSuchUnit

/-- A sensor trips (R542): THERM_TRIP_N low, jobs halted, the main domains down into Off. -/
def Dev.thermalTrip (d : Dev) (off c : Nat) : Dev :=
  let d := (d.hkEvent 4).thermalRecord off c
  let d := if d.mainUp then d.fallOff 7 else d
  { d with power := { d.power with trip := some d.clock.ps } }

/-- THERMAL_TRIP (R542): the reading of the sensor has reached its trip limit. -/
def execThermalTrip (off : Nat) (s : State) : Host.Outcome State Fault Refusal :=
  match tempSensors.find? (fun t => t.1 == off) with
  | none => .fault .noSuchUnit
  | some (_, c) =>
    if !s.dev.power.stby || (!s.dev.power.hub && c != 2) then .fault .unpowered
    else if decide (s.dev.limit c 2 ≤ s.dev.reading off) && s.dev.power.trip.isNone then
      .next { s with dev := s.dev.thermalTrip off c }
    else .fault .conditionNotMet

/-- The least time in ps that THERM_TRIP_N stays low (R542). -/
def tripHold : Nat := 10000000000000

/-- A trip released (R542): after 10 s at least, with the coolant inlet below its resume value. -/
def Dev.tripRelease (d : Dev) (t : Nat) : Dev :=
  let d := d.advancePs (tripHold + t)
  let d := { d with power := { d.power with trip := none } }
  if d.fld dHK_TH_CTRL 0 0 = 1 then d.wakeUp 5 else d

/-- THERM_TRIP_RELEASE (R542). -/
def execThermTripRelease (s : State) : Host.Outcome State Fault Refusal :=
  match s.dev.power.trip with
  | none => .fault .nothingInFlight
  | some t =>
    if !s.dev.power.stby then .fault .unpowered
    else if decide (s.dev.reading dHK_COOLANT < s.dev.limit 2 3) then .next { s with dev := s.dev.tripRelease t }
    else .fault .conditionNotMet

/-- The throttle's sensors: those with a throttle limit (R542). -/
def throttleSensors : List (Nat × Nat) := tempSensors.filter (fun t => t.2 != 2)
/-- A sensor is at or above its throttle limit (R543). -/
def Dev.tooHot (d : Dev) : Bool := throttleSensors.any (fun t => decide (d.limit t.2 1 ≤ d.reading t.1))
/-- The input power exceeds the cap (R543). -/
def Dev.tooMuch (d : Dev) : Bool := decide (d.fld dHK_PWR_CAP 12 0 < d.fld dHK_PIN 15 0)
/-- Every sensor is 3 °C below its throttle limit and the power below 95 % of the cap (R543). -/
def Dev.wellBelow (d : Dev) : Bool :=
  throttleSensors.all (fun t => decide (d.reading t.1 + 48 ≤ d.limit t.2 1)) &&
  decide (100 * d.fld dHK_PIN 15 0 < 95 * d.fld dHK_PWR_CAP 12 0)

/-- The throttle level set; what holds it up is shown (R543, R546). -/
def Dev.setLevel (d : Dev) (l : Nat) : Dev :=
  let d := d.wr dHK_THROTTLE (l + b2n d.tooHot * 16 + b2n d.tooMuch * 32)
  { d with power := { d.power with throttlePs := d.clock.ps } }

/-- The level rises. -/
def Dev.throttleRise (d : Dev) : Dev :=
  let d := d.advancePs (d.power.throttlePs + 1000000000)
  (d.setLevel (d.fld dHK_THROTTLE 3 0 + 1)).orBits dHK_STATUS 2

/-- THROTTLE_RISE (R543). -/
def execThrottleRise (s : State) : Host.Outcome State Fault Refusal :=
  if !s.dev.power.hub then .fault .unpowered
  else if (s.dev.tooHot || s.dev.tooMuch) && s.dev.fld dHK_THROTTLE 3 0 < 8 then .next { s with dev := s.dev.throttleRise }
  else .fault .conditionNotMet

/-- The level falls. -/
def Dev.throttleFall (d : Dev) : Dev :=
  let d := d.advancePs (d.power.throttlePs + 10000000000)
  d.setLevel (d.fld dHK_THROTTLE 3 0 - 1)

/-- THROTTLE_FALL (R543). -/
def execThrottleFall (s : State) : Host.Outcome State Fault Refusal :=
  if !s.dev.power.hub then .fault .unpowered
  else if s.dev.wellBelow && 0 < s.dev.fld dHK_THROTTLE 3 0 then .next { s with dev := s.dev.throttleFall }
  else .fault .conditionNotMet

/-! ## Links within the module (R369, R545) -/

/-- A flit of a link decodes as uncorrectable (R369): `d2d` that the link joins dies; `again` that the flit before it on the link
failed too. A fifth failure in a row marks the link failed. -/
def Dev.flitFail (d : Dev) (l : Nat) (d2d again : Bool) : Dev :=
  let n := if again then sget 0 d.flits l + 1 else 1
  if n < 5 then { d with flits := sset 0 d.flits l n }
  else
    let d := { d with flits := sdel d.flits l, linkFailed := d.linkFailed ++ [l], failed := d.failed || d2d }
    d.errRecord { type := 24, cls := if d2d then 11 else 0, unit := l }

/-- LINK_FLIT_FAIL (R369). -/
def execLinkFlitFail (l : Nat) (d2d again : Bool) (s : State) : Host.Outcome State Fault Refusal :=
  if !s.dev.power.hub then .fault .unpowered
  else if s.dev.linkFailed.contains l then .fault .conditionNotMet
  else .next { s with dev := s.dev.flitFail l d2d again }

/-- D2D_LANE_RETRAIN (R545): a lane retrains while the spare carries its data; one that fails it counts as a flit failure. -/
def execD2dLaneRetrain (l : Nat) (fail : Bool) (s : State) : Host.Outcome State Fault Refusal :=
  if !s.dev.power.hub then .fault .unpowered
  else if s.dev.linkFailed.contains l then .fault .conditionNotMet
  else .next { s with dev := if fail then s.dev.flitFail l true true else s.dev }

/-! ## Management (R540) -/

/-- What MGMT_ALERT_N shows: low while it is true. -/
def Dev.alert (d : Dev) : Bool := (d.rd dHK_STATUS &&& d.power.unread &&& 0x1D) != 0 || d.whAlarm

/-- A housekeeping register read by management. -/
def Dev.mgmtHk (d : Dev) (off : Nat) : Dev :=
  let r := d.readReg 8 (dHK_PSTATE + off)
  let d := r.1.send (.answer 8 (leBytes 4 r.2))
  if dHK_PSTATE + off = dHK_STATUS then { d with power := { d.power with unread := 0 } } else d

/-- A command at the management endpoint, which the standby domain answers. -/
def mgmt (ok : Bool) (s : State) (f : Dev → Dev) : Host.Outcome State Fault Refusal :=
  if ok then (if s.dev.power.stby then .next { s with dev := f s.dev } else .fault .unpowered) else .fault .noSuchUnit

/-- MGMT_READ_HK. -/
def execMgmtReadHk (off : Nat) (s : State) : Host.Outcome State Fault Refusal :=
  mgmt (decide (off < 0x10000) && off % 4 == 0) s (fun d => d.mgmtHk off)

/-- MGMT_READ_DAYBOOK. -/
def execMgmtReadDaybook (n : Nat) (s : State) : Host.Outcome State Fault Refusal :=
  mgmt (decide (n < 1048576)) s (fun d => d.send (.answer 8 (toBytes (d.entryBytes n 1))))

/-- MGMT_READ_STATE. -/
def execMgmtReadState (s : State) : Host.Outcome State Fault Refusal :=
  mgmt true s (fun d => d.send (.answer 8 (leBytes 4 (d.rd dHK_PSTATE) ++ leBytes 4 (d.rd dHK_LAST_WAKE) ++ leBytes 4 (d.rd dHK_RESET_CAUSE))))

/-- MGMT_WAKE: OK, in Run and Idle with no effect. -/
def execMgmtWake (s : State) : Host.Outcome State Fault Refusal :=
  mgmt true s (fun d => (d.wakeUp 3).send (.answer 8 (leBytes 1 0)))

/-- A laser swap asked for by management: phase 0 starts it, 1 enables the new module (R297). -/
def Dev.mgmtLaser (d : Dev) (m phase : Nat) : Dev :=
  let r := if 2 ≤ d.pstate || !d.power.hub then (d, 0x02) else if phase = 0 then d.laserSwapStart m else d.laserSwapEnable m
  r.1.send (.answer 8 (leBytes 1 r.2))

/-- MGMT_LASER_SWAP. -/
def execMgmtLaserSwap (m phase : Nat) (s : State) : Host.Outcome State Fault Refusal :=
  mgmt (decide (m < 4) && decide (phase < 2)) s (fun d => d.mgmtLaser m phase)

/-- MGMT_ALERT_RESPONSE. -/
def execMgmtAlertResponse (s : State) : Host.Outcome State Fault Refusal :=
  mgmt true s (fun d => d.send (.answer 8 (leBytes 1 0x4C)))

end Sys2Proof.Machine
end

