-- ==== Sys2Proof/Machine/Weighhouse.lean ====
section
/-! DEFINITION. What the Weighhouse does (R466 to R473, R476, R480 to R487). -/

namespace Sys2Proof.Machine

/-- A command of the Weighhouse, which has to run (R485). -/
def whRun (s : State) (f : Dev → Dev) : Host.Outcome State Fault Refusal :=
  if s.dev.wh.on then .next { s with dev := (f s.dev).whFell } else .fault .unpowered

/-! ## Energy (R466 to R468) -/

/-- Energy with one sample of `uw` µW for 125 µs added: the mJ, and what is below 1 mJ, in pJ. -/
def addSample (mj rest uw : Nat) : Nat × Nat := (mj + (rest + uw * 125) / 1000000000, (rest + uw * 125) % 1000000000)

/-- A voltage of `cv` × 10 mV and a power of `dw` × 0.1 W taken into a span. -/
def WhSpan.take (x : WhSpan) (cv dw : Nat) : WhSpan :=
  { x with range := some (match x.range with
      | some r => (min r.1 cv, max r.2.1 cv, max r.2.2 dw)
      | none => (cv, cv, dw)) }

/-- The integrators and ranges after a sample: main voltage in mV and power in µW, standby power in µW. -/
def Wh.sample (w : Wh) (mv uw suw : Nat) : Wh :=
  let m := if uw < 2000000 then (w.main, w.mainRest) else addSample w.main w.mainRest uw
  let s := addSample w.stby w.stbyRest suw
  { w with main := m.1, mainRest := m.2, stby := s.1, stbyRest := s.2, volt := mv / 10,
           second := w.second.take (mv / 10) (uw / 100000), hour := w.hour.take (mv / 10) (uw / 100000),
           overSec := w.overSec || 5280000000 < uw, underSec := w.underSec || uw < 220000000 }

/-- OVER_RANGE starts or ends (R468, R489). -/
def Dev.whRange (d : Dev) (uw : Nat) : Dev :=
  if 5280000000 < uw then
    if d.wh.overPs.isNone then (d.onWh (fun w => { w with overPs := some d.clock.ps })).whEvent 12 uw else d
  else if d.wh.overPs.isSome then (d.onWh (fun w => { w with overPs := none })).whEvent 13 uw
  else d

/-- A sample at the next 125 µs (R466). -/
def Dev.whSample (d : Dev) (mv ma smv sma : Nat) : Dev :=
  let d := d.advancePs ((d.clock.ps / 125000000 + 1) * 125000000)
  (d.onWh (fun w => w.sample mv (mv * ma) (smv * sma))).whRange (mv * ma)

/-- WH_SAMPLE (R466): voltages in mV and currents in mA, main and standby. -/
def execWhSample (mv ma smv sma : Nat) (s : State) : Host.Outcome State Fault Refusal :=
  whRun s (fun d => d.whSample mv ma smv sma)

/-! ## INTERVAL and HOURLY records (R476) -/

/-- The fields that INTERVAL and HOURLY records share. -/
def Wh.energyFields (w : Wh) (x : WhSpan) : List Nat :=
  let r := x.range.getD (0, 0, 0)
  natBytes 8 w.main ++ natBytes 8 (w.main - x.mj0) ++ natBytes 8 w.stby ++ natBytes 2 r.1 ++ natBytes 2 r.2.1 ++ natBytes 4 r.2.2

/-- The clock brought to the next whole unit of Weighhouse time, where no unit has begun since the last record. -/
def Dev.whReachUnit (d : Dev) (unit last : Nat) : Dev :=
  if d.whTime / unit = last then d.whReach ((last + 1) * unit) else d

/-- The INTERVAL record of a second, and the push. -/
def Dev.whInterval (d : Dev) : Dev :=
  let d := d.whReachUnit 1000000000 d.wh.lastSec
  let w := d.wh
  let own := 2 * b2n w.overSec + 4 * b2n w.underSec + 16 * b2n w.lost
  let fl := w.flags own
  let d := d.whRecord 1 own 1 false (w.energyFields w.second ++ w.now.flatMap (natBytes 8))
  let d := d.onWh (fun w => { w with second := ⟨none, w.main⟩, now := List.replicate 10 0, overSec := false, underSec := false, lost := false,
                                     power := (w.main - w.second.mj0) / 100, lastSec := d.whTime / 1000000000 })
  d.whPush fl

/-- WH_INTERVAL (R476, R486). -/
def execWhInterval (s : State) : Host.Outcome State Fault Refusal := whRun s Dev.whInterval

/-- The HOURLY record of an hour. -/
def Dev.whHourly (d : Dev) : Dev :=
  let d := d.whReachUnit 3600000000000 d.wh.lastHour
  let w := d.wh
  let d := d.whRecord 2 0 2 true (w.energyFields w.hour ++ w.cum.flatMap (natBytes 16))
  d.onWh (fun w => { w with hour := ⟨none, w.main⟩, lastHour := d.whTime / 3600000000000 })

/-- WH_HOURLY (R476). -/
def execWhHourly (s : State) : Host.Outcome State Fault Refusal := whRun s Dev.whHourly

/-! ## Work messages (R469 to R472) -/

/-- An entry of a list of counts grown. -/
def growAt (l : List Nat) (i n : Nat) : List Nat := l.zipIdx.map (fun x => if x.2 = i then x.1 + n else x.1)

/-- The account column of a class (R471). -/
def whColumn (verify rep : Bool) (cls : Nat) : Nat := cls + (if rep then 20 else if verify then 10 else 0)

/-- An account open for a key; when 32 are open, the one idle longest closes first (R472). -/
def Dev.whOpen (d : Dev) (tenant job : Nat) : Dev :=
  if d.wh.accounts.any (fun a => a.tenant == tenant && a.job == job) then d
  else
    let d := if 32 ≤ d.wh.accounts.length then (match d.wh.idlest with | some a => d.whClose a | none => d) else d
    let t := d.whTime
    d.onWh (fun w => { w with accounts := w.accounts ++
      [WhAccount.mk tenant job (sget 0 w.segments (accountKey tenant job) % 2 ^ 16) t t w.main w.main (List.replicate 30 0) false] })

/-- A count placed (R471). -/
def Dev.whCount (d : Dev) (tenant job cls count : Nat) (verify rep : Bool) : Dev :=
  let d := d.whOpen tenant job
  let t := d.whTime
  d.onWh (fun w => { w with
    cum := growAt w.cum cls count, now := growAt w.now cls count
    accounts := w.accounts.map (fun a =>
      if a.tenant = tenant ∧ a.job = job then
        { a with last := t, mj1 := w.main, counts := growAt a.counts (whColumn verify rep cls) count }
      else a) })

/-- Messages found missing (R470). -/
def Dev.whLost (d : Dev) (n : Nat) : Dev :=
  if n = 0 then d
  else (d.onWh (fun w => { w with gap := w.gap + n, lost := true, accounts := w.accounts.map (fun a => { a with lost := true }) })).whEvent 9 n

/-- A copy of a message that decodes: `second` that it is the second copy, `bad` that a reserved bit is set. -/
def Dev.whMessage (d : Dev) (p tenant job cls count seq : Nat) (verify rep second bad : Bool) : Dev :=
  let want := sget 0 d.wh.expect p
  if seq < want then d
  else
    let d := d.onWh (fun w => { w with expect := sput w.expect p (seq + 1), corr := w.corr + b2n second })
    let d := d.whLost (seq - want)
    if bad || 10 ≤ cls then (d.onWh (fun w => { w with bad := w.bad + 1 })).whEvent 10 p
    else d.whCount tenant job cls count verify rep

/-- WH_WORK_MSG (R469): one copy of a message of physical tile `p` arrives; `ok` that it decodes and finds room in the buffer. -/
def execWhWorkMsg (p tenant job cls count seq : Nat) (verify rep second bad ok : Bool) (s : State) : Host.Outcome State Fault Refusal :=
  if p < 272 then
    whRun s (fun d => if ok then d.whMessage p tenant (job % 2 ^ 32) cls count seq verify rep second bad else d)
  else .fault .noSuchUnit

/-- WH_ACCOUNT_IDLE (R472): account `k` has had no message for ACCOUNT_IDLE. -/
def execWhAccountIdle (k : Nat) (s : State) : Host.Outcome State Fault Refusal :=
  match s.dev.wh.accounts[k]? with
  | some a => whRun s (fun d => (d.whReach (a.last + d.wh.idle * 1000000000)).whClose a)
  | none => .fault .nothingInFlight

/-- WH_LANE_UP (R470). -/
def execWhLaneUp (die : Nat) (s : State) : Host.Outcome State Fault Refusal :=
  if die < 4 then
    if s.dev.wh.laneDown.testBit die then
      whRun s (fun d => d.onWh (fun w => { w with laneDown := w.laneDown - 2 ^ die
                                                  expect := w.expect.filter (fun e => dieOfTile e.1 != die) }))
    else .fault .conditionNotMet
  else .fault .noSuchUnit

/-- WH_LANE_DOWN (R470, R488). -/
def execWhLaneDown (die : Nat) (s : State) : Host.Outcome State Fault Refusal :=
  if die < 4 then
    if s.dev.wh.laneDown.testBit die then .fault .conditionNotMet
    else whRun s (fun d => d.onWh (fun w => { w with laneDown := w.laneDown + 2 ^ die }))
  else .fault .noSuchUnit

/-! ## Seal and supply (R483, R485) -/

/-- SEAL_SENSE opens (R483): seen at once, or latched until power-up while the supercapacitor holds. -/
def Dev.whSealOpen (d : Dev) : Dev :=
  if d.wh.on then (d.onWh (fun w => { w with tamper := true })).whEvent 5 0
  else d.onWh (fun w => { w with latch := w.latch || w.cap })

/-- WH_SEAL_OPEN (R483). -/
def execWhSealOpen (s : State) : Host.Outcome State Fault Refusal := .next { s with dev := s.dev.whSealOpen }

/-- Both rails fall (R485). -/
def Dev.whStop (d : Dev) : Dev :=
  let d := (d.wh.accounts.foldl (fun (d : Dev) a => d.whClose a) d).whEvent 1 0
  d.onWh (fun w => { w with on := false, offPs := d.clock.ps, overPs := none })

/-- WH_RAILS_LOST (R485): the standby rail is gone and the main domains are down. -/
def execWhRailsLost (s : State) : Host.Outcome State Fault Refusal :=
  if s.dev.power.stby || s.dev.power.hub then .fault .conditionNotMet else whRun s Dev.whStop

/-- Power-up (R483, R485): the outage, and an opening latched meanwhile. The time is lost where the supercapacitor ran out. -/
def Dev.whStart (d : Dev) : Dev :=
  let d := if d.wh.cap then d
    else { d.onWh (fun w => { w with base := Config.freeNat d.freeCtr, basePs := d.clock.ps, cap := true }) with freeCtr := d.freeCtr + 1 }
  let d := (d.onWh (fun w => { w with on := true })).whEvent 2 ((d.clock.ps - d.wh.offPs) / 1000)
  if d.wh.latch then (d.onWh (fun w => { w with tamper := true, latch := false })).whEvent 5 0 else d

/-- WH_POWER_UP (R485). -/
def execWhPowerUp (s : State) : Host.Outcome State Fault Refusal :=
  if s.dev.wh.on then .fault .conditionNotMet else .next { s with dev := s.dev.whStart }

/-- The supercapacitor runs out (R473): the time, and what the latch holds, are lost. -/
def Dev.whEmpty (d : Dev) : Dev :=
  let d := d.advancePs (d.wh.offPs + 259200000000000000)
  { d.onWh (fun w => { w with cap := false, timeInvalid := true, latch := decide (Config.freeNat d.freeCtr % 2 = 1) }) with
    freeCtr := d.freeCtr + 1 }

/-- WH_SUPERCAP_EMPTY (R473): at the earliest 72 h after the supply went. -/
def execWhSupercapEmpty (s : State) : Host.Outcome State Fault Refusal :=
  if s.dev.wh.on || !s.dev.wh.cap then .fault .conditionNotMet else .next { s with dev := s.dev.whEmpty }

/-! ## The management address (R487) -/

/-- A reply of the Weighhouse's endpoint: a status byte, then bytes. -/
def Dev.whReply (d : Dev) (status : Nat) (bs : List Nat) : Dev := d.send (.answer 9 (toBytes (status :: bs)))

/-- WH_READ_REG (R487): a register, as the mirror lays it out. -/
def execWhReadReg (off : Nat) (s : State) : Host.Outcome State Fault Refusal :=
  whRun s (fun d =>
    if off % 4 = 0 ∧ off < 0x400 then
      d.whReply 0 (natBytes 4 (((d.whBlock d.wh.pushed).find? (fun r => r.1 == off)).map (·.2) |>.getD 0))
    else d.whReply 0x11 [])

/-- WH_READ_RECORD (R487): a slot of the interval area (0) or of the account area (1). -/
def execWhReadRecord (area k : Nat) (s : State) : Host.Outcome State Fault Refusal :=
  whRun s (fun d =>
    if (area = 0 ∧ k < ivSlots) ∨ (area = 1 ∧ k < acSlots) then
      d.whReply 0 (natBytes 256 (sget 0 d.wh.store (ivSlots * area + k)).toNat)
    else d.whReply 0x11 [])

/-- The metering certificate (R477). -/
def whCert : List Nat :=
  natBytes 4 0x5A574354 ++ whId ++ natBytes 97 Config.whPublic ++ List.replicate 299 0 ++ natBytes 96 Config.whRoot

/-- WH_READ_CERT (R487). -/
def execWhReadCert (s : State) : Host.Outcome State Fault Refusal := whRun s (fun d => d.whReply 0 whCert)

/-- The adjustments of the last 24 h. -/
def Dev.whAdjs (d : Dev) : List (Nat × Int) := d.wh.adjs.filter (fun a => d.whTime < a.1 + 86400000000000)

/-- Weighhouse time set to a value. -/
def Dev.whSetTime (d : Dev) (ns : Nat) : Dev := d.onWh (fun w => { w with base := ns, basePs := d.clock.ps })

/-- A small adjustment (R473). -/
def Dev.whTimeAdj (d : Dev) (v : Int) : Dev :=
  let as := d.whAdjs
  if 1000000000 < v.natAbs ∨ 2000000000 < (v + (as.map (·.2)).foldl (· + ·) 0).natAbs then d.whReply 0x11 []
  else
    let t := d.whTime
    let d := (d.whSetTime ((t : Int) + v).toNat).onWh (fun w => { w with adjs := as ++ [(t, v)] })
    (d.whEvent 3 v.natAbs).whReply 0 []

/-- WH_TIME_ADJ (R473): by `v` ns. -/
def execWhTimeAdj (v : Int) (s : State) : Host.Outcome State Fault Refusal := whRun s (fun d => d.whTimeAdj v)

/-- An authority-signed command (R481, R482): `ctr` its counter, `auth` that key digest and signature are right; `fuse` that it blows a
fuse, which it does before it takes effect; `ok` that its values are in range. -/
def Dev.whAuthority (d : Dev) (ctr : Nat) (auth fuse ok : Bool) (event : Nat) (f : Dev → Dev) : Dev :=
  if !(auth && ctr == (d.wh.counter + 1) % 2 ^ 32) then (d.whEvent 11 0x20).whReply 0x20 []
  else
    let d := d.onWh (fun w => { w with counter := ctr })
    if fuse && 128 ≤ d.wh.seals then (d.whEvent 11 0x21).whReply 0x21 []
    else if !ok then d.whReply 0x11 []
    else
      let d := if fuse then d.onWh (fun w => { w with seals := w.seals + 1, sealChanged := true }) else d
      ((f d).whEvent event 0).whReply 0 []

/-- WH_TIME_SET (R473). -/
def execWhTimeSet (ctr : Nat) (auth : Bool) (ns : Nat) (s : State) : Host.Outcome State Fault Refusal :=
  whRun s (fun d => d.whAuthority ctr auth false (ns < 2 ^ 64) 4 (fun d =>
    (d.whSetTime ns).onWh (fun w => { w with timeInvalid := false })))

/-- A parameter's value is in range: 0 to 7 gains and offsets, 8 rated power, 9 ACCOUNT_IDLE, 10 SMBus address. -/
def whParamOk (kind v : Nat) : Bool := (kind < 8 && v < 2 ^ 32) || ((kind == 8 || kind == 9) && v < 2 ^ 16) || (kind == 10 && v < 128)

/-- A parameter set (R480). -/
def Wh.param (w : Wh) (kind v : Nat) : Wh :=
  if kind = 8 then { w with rated := v } else if kind = 9 then { w with idle := v } else if kind = 10 then { w with address := v }
  else { w with cal := w.cal.set kind v }

/-- WH_PARAM_SET (R480, R482). -/
def execWhParamSet (ctr : Nat) (auth : Bool) (kind v : Nat) (s : State) : Host.Outcome State Fault Refusal :=
  whRun s (fun d => d.whAuthority ctr auth true (whParamOk kind v) 7 (fun d => d.onWh (fun w => w.param kind v)))

/-- WH_FW_LOAD (R480, R482): version and bytes of the image. -/
def execWhFwLoad (ctr : Nat) (auth : Bool) (version : Nat) (image : List Nat) (s : State) : Host.Outcome State Fault Refusal :=
  whRun s (fun d => d.whAuthority ctr auth true (version < 2 ^ 16) 8 (fun d =>
    d.onWh (fun w => { w with fw := version, fwDigest := sha384 image })))

/-- WH_TAMPER_CLEAR (R483). -/
def execWhTamperClear (ctr : Nat) (auth : Bool) (s : State) : Host.Outcome State Fault Refusal :=
  whRun s (fun d => d.whAuthority ctr auth true true 6 (fun d => d.onWh (fun w => { w with tamper := false })))

end Sys2Proof.Machine
end

