-- ==== Sys2Proof/Machine/Dispatch.lean ====
section
/-! DEFINITION. The dispatch of a command to its meaning, one arm per row of the table of operations and events. -/

namespace Sys2Proof.Machine

def exec (i : Instr) (s : State) : Host.Outcome State Fault Refusal :=
  match i with
  | .nop p => Sys2Proof.Machine.execNop p s
  | .endTable p => Sys2Proof.Machine.execEndTable p s
  | .loopSet p => Sys2Proof.Machine.execLoopSet p s
  | .loopBack p => Sys2Proof.Machine.execLoopBack p s
  | .bankSwitch p => Sys2Proof.Machine.execBankSwitch p s
  | .flagClr p => Sys2Proof.Machine.execFlagClr p s
  | .descSet p => Sys2Proof.Machine.execDescSet p s
  | .descStep p => Sys2Proof.Machine.execDescStep p s
  | .loftHand p => Sys2Proof.Machine.execLoftHand p s
  | .escReset p => Sys2Proof.Machine.execEscReset p s
  | .flush p => Sys2Proof.Machine.execFlush p s
  | .mma p => Sys2Proof.Machine.execMma p s
  | .escSlotArrive p tc => Sys2Proof.Machine.execEscSlotArrive p tc s
  | .pocketLoad p => Sys2Proof.Machine.execPocketLoad p s
  | .store p => Sys2Proof.Machine.execStore p s
  | .scout p => Sys2Proof.Machine.execScout p s
  | .scoreMax p => Sys2Proof.Machine.execScoreMax p s
  | .vop p => Sys2Proof.Machine.execVop p s
  | .vfunc p => Sys2Proof.Machine.execVfunc p s
  | .vcvt p => Sys2Proof.Machine.execVcvt p s
  | .vdraw p => Sys2Proof.Machine.execVdraw p s
  | .vsort p => Sys2Proof.Machine.execVsort p s
  | .vdot p => Sys2Proof.Machine.execVdot p s
  | .vred64 p => Sys2Proof.Machine.execVred64 p s
  | .vtest p => Sys2Proof.Machine.execVtest p s
  | .vpout p => Sys2Proof.Machine.execVpout p s
  | .commandComplete p eng => Sys2Proof.Machine.execCommandComplete p eng s
  | .dmaIn p => Sys2Proof.Machine.execDmaIn p s
  | .dmaOut p => Sys2Proof.Machine.execDmaOut p s
  | .dmaComplete p flag status data => Sys2Proof.Machine.execDmaComplete p flag status data s
  | .flagSend p => Sys2Proof.Machine.execFlagSend p s
  | .barrier p => Sys2Proof.Machine.execBarrier p s
  | .ringPush p => Sys2Proof.Machine.execRingPush p s
  | .ringPushComplete p ring status => Sys2Proof.Machine.execRingPushComplete p ring status s
  | .collective p => Sys2Proof.Machine.execCollective p s
  | .collectiveComplete p flag others => Sys2Proof.Machine.execCollectiveComplete p flag others s
  | .tileTrigger p => Sys2Proof.Machine.execTileTrigger p s
  | .waitTimeout p => Sys2Proof.Machine.execWaitTimeout p s
  | .loftWaitTimeout p master => Sys2Proof.Machine.execLoftWaitTimeout p master s
  | .loftAtomic p master op a v => Sys2Proof.Machine.execLoftAtomic p master op a v s
  | .marchStart p w => Sys2Proof.Machine.execMarchStart p w s
  | .marchDone p faulty => Sys2Proof.Machine.execMarchDone p faulty s
  | .flagSetArrive l f job src => Sys2Proof.Machine.execFlagSetArrive l f job src s
  | .barArrive slot rank round job => Sys2Proof.Machine.execBarArrive slot rank round job s
  | .barRelease slot round => Sys2Proof.Machine.execBarRelease slot round s
  | .ringSlotArrive ring slot desc data => Sys2Proof.Machine.execRingSlotArrive ring slot desc data s
  | .ringSlotReturn ring => Sys2Proof.Machine.execRingSlotReturn ring s
  | .workMsgSend p => Sys2Proof.Machine.execWorkMsgSend p s
  | .workMsgSecondCopy p => Sys2Proof.Machine.execWorkMsgSecondCopy p s
  | .tileReset p => Sys2Proof.Machine.execTileReset p s
  | .tileEnable p => Sys2Proof.Machine.execTileEnable p s
  | .stepBoundary u norms moved faulty => Sys2Proof.Machine.execStepBoundary u norms moved faulty s
  | .repeatPoint u rebuilt => Sys2Proof.Machine.execRepeatPoint u rebuilt s
  | .stepSeal u fps scouts => Sys2Proof.Machine.execStepSeal u fps scouts s
  | .winnowerCompare p a b last slice => Sys2Proof.Machine.execWinnowerCompare p a b last slice s
  | .voteDone p agrees bad1 bad2 capture => Sys2Proof.Machine.execVoteDone p agrees bad1 bad2 capture s
  | .grnRefresh k bank pc rows cycles => Sys2Proof.Machine.execGrnRefresh k bank pc rows cycles s
  | .granaryAccess a v flips odecc act p => Sys2Proof.Machine.execGranaryAccess a v flips odecc act p s
  | .grnCalPass k temp repaired failed => Sys2Proof.Machine.execGrnCalPass k temp repaired failed s
  | .pageRetirement k => Sys2Proof.Machine.execPageRetirement k s
  | .granuleCopyDone k => Sys2Proof.Machine.execGranuleCopyDone k s
  | .stackRetirement k => Sys2Proof.Machine.execStackRetirement k s
  | .laneFailing e lane peerSpare => Sys2Proof.Machine.execLaneFailing e lane peerSpare s
  | .laneSwap e lane ns => Sys2Proof.Machine.execLaneSwap e lane ns s
  | .laneSwapApply e lane => Sys2Proof.Machine.execLaneSwapApply e lane s
  | .portRetrained e j => Sys2Proof.Machine.execPortRetrained e j s
  | .feedLoss e lost => Sys2Proof.Machine.execFeedLoss e lost s
  | .laserPresentChange m present => Sys2Proof.Machine.execLaserPresentChange m present s
  | .laserStable m => Sys2Proof.Machine.execLaserStable m s
  | .wainDataRx port job rank cls seq epoch flits ok decodes ce what a n data => Sys2Proof.Machine.execWainDataRx port job rank cls seq epoch flits ok decodes ce what a n data s
  | .wainAckRx job rank cls ack sack ok ce => Sys2Proof.Machine.execWainAckRx job rank cls ack sack ok ce s
  | .wainCreditRx port cls cells => Sys2Proof.Machine.execWainCreditRx port cls cells s
  | .refuseRx job rank status kind a b c => Sys2Proof.Machine.execRefuseRx job rank status kind a b c s
  | .keepaliveRx job rank ok => Sys2Proof.Machine.execKeepaliveRx job rank ok s
  | .keepaliveSend job rank => Sys2Proof.Machine.execKeepaliveSend job rank s
  | .creditSend port => Sys2Proof.Machine.execCreditSend port s
  | .wainRto job rank cls seq => Sys2Proof.Machine.execWainRto job rank cls seq s
  | .peerLoss job rank => Sys2Proof.Machine.execPeerLoss job rank s
  | .ecnWindowGrow job rank cls => Sys2Proof.Machine.execEcnWindowGrow job rank cls s
  | .pfcPauseRx port prio quanta => Sys2Proof.Machine.execPfcPauseRx port prio quanta s
  | .haltPacket job rank ok => Sys2Proof.Machine.execHaltPacket job rank ok s
  | .fencePacket job rank ok epoch => Sys2Proof.Machine.execFencePacket job rank ok epoch s
  | .drainPacket job rank ok epoch => Sys2Proof.Machine.execDrainPacket job rank ok epoch s
  | .fenceComplete job => Sys2Proof.Machine.execFenceComplete job s
  | .ptpMessageRx port ns => Sys2Proof.Machine.execPtpMessageRx port ns s
  | .ppsEdge => Sys2Proof.Machine.execPpsEdge s
  | .keyAgreementRx port ok admitted last => Sys2Proof.Machine.execKeyAgreementRx port ok admitted last s
  | .keyAgreementTimer port => Sys2Proof.Machine.execKeyAgreementTimer port s
  | .bucketReady g rank bucket step => Sys2Proof.Machine.execBucketReady g rank bucket step s
  | .bucketDeadline g bucket step => Sys2Proof.Machine.execBucketDeadline g bucket step s
  | .bucketSetRx g bucket step ns ranks => Sys2Proof.Machine.execBucketSetRx g bucket step ns ranks s
  | .gleanerGranaryScrub flips => Sys2Proof.Machine.execGleanerGranaryScrub flips s
  | .gleanerIdleMarch p => Sys2Proof.Machine.execGleanerIdleMarch p s
  | .tableScrubTick p flips => Sys2Proof.Machine.execTableScrubTick p flips s
  | .siloScrub corrected aged ue retired last => Sys2Proof.Machine.execSiloScrub corrected aged ue retired last s
  | .tmrSweep faults => Sys2Proof.Machine.execTmrSweep faults s
  | .linkFlitFail l d2d again => Sys2Proof.Machine.execLinkFlitFail l d2d again s
  | .beforeImageCopy u chunk => Sys2Proof.Machine.execBeforeImageCopy u chunk s
  | .parityDeltaRx u x t stripe announced bytes => Sys2Proof.Machine.execParityDeltaRx u x t stripe announced bytes s
  | .inboxComplete u rank snap => Sys2Proof.Machine.execInboxComplete u rank snap s
  | .commitRx u => Sys2Proof.Machine.execCommitRx u s
  | .snapshotCommitted u => Sys2Proof.Machine.execSnapshotCommitted u s
  | .snapshotStart u => Sys2Proof.Machine.execSnapshotStart u s
  | .whSample mv ma smv sma => Sys2Proof.Machine.execWhSample mv ma smv sma s
  | .whInterval => Sys2Proof.Machine.execWhInterval s
  | .whHourly => Sys2Proof.Machine.execWhHourly s
  | .whWorkMsg p tenant job cls count seq verify rep second bad ok => Sys2Proof.Machine.execWhWorkMsg p tenant job cls count seq verify rep second bad ok s
  | .whLaneUp die => Sys2Proof.Machine.execWhLaneUp die s
  | .whAccountIdle k => Sys2Proof.Machine.execWhAccountIdle k s
  | .whSealOpen => Sys2Proof.Machine.execWhSealOpen s
  | .whRailsLost => Sys2Proof.Machine.execWhRailsLost s
  | .whPowerUp => Sys2Proof.Machine.execWhPowerUp s
  | .whSupercapEmpty => Sys2Proof.Machine.execWhSupercapEmpty s
  | .whReadReg off => Sys2Proof.Machine.execWhReadReg off s
  | .whReadRecord area k => Sys2Proof.Machine.execWhReadRecord area k s
  | .whReadCert => Sys2Proof.Machine.execWhReadCert s
  | .whTimeAdj v => Sys2Proof.Machine.execWhTimeAdj v s
  | .whTimeSet ctr auth ns => Sys2Proof.Machine.execWhTimeSet ctr auth ns s
  | .whParamSet ctr auth kind v => Sys2Proof.Machine.execWhParamSet ctr auth kind v s
  | .whFwLoad ctr auth version image => Sys2Proof.Machine.execWhFwLoad ctr auth version image s
  | .whTamperClear ctr auth => Sys2Proof.Machine.execWhTamperClear ctr auth s
  | .sqTailWrite q v mem => Sys2Proof.Machine.execSqTailWrite q v mem s
  | .packetTake q ok bufOk => Sys2Proof.Machine.execPacketTake q ok bufOk s
  | .qEnable q => Sys2Proof.Machine.execQEnable q s
  | .qDisable q => Sys2Proof.Machine.execQDisable q s
  | .urgDoorbell k => Sys2Proof.Machine.execUrgDoorbell k s
  | .tsEnable k => Sys2Proof.Machine.execTsEnable k s
  | .tsSampleTick k late => Sys2Proof.Machine.execTsSampleTick k late s
  | .regWritePlain off v be => Sys2Proof.Machine.execRegWritePlain off v be s
  | .jobStart k kcvOk => Sys2Proof.Machine.execJobStart k kcvOk s
  | .step k => Sys2Proof.Machine.execStep k s
  | .generate k => Sys2Proof.Machine.execGenerate k s
  | .reshard k width => Sys2Proof.Machine.execReshard k width s
  | .jobEnd k => Sys2Proof.Machine.execJobEnd k s
  | .peerWindow k => Sys2Proof.Machine.execPeerWindow k s
  | .hostWindow k => Sys2Proof.Machine.execHostWindow k s
  | .windowClose k => Sys2Proof.Machine.execWindowClose k s
  | .hostCopy k => Sys2Proof.Machine.execHostCopy k s
  | .regRead k => Sys2Proof.Machine.execRegRead k s
  | .regWrite k => Sys2Proof.Machine.execRegWrite k s
  | .rankSet k => Sys2Proof.Machine.execRankSet k s
  | .laserSwapStart k => Sys2Proof.Machine.execLaserSwapStart k s
  | .laserSwapEnable k => Sys2Proof.Machine.execLaserSwapEnable k s
  | .timeSet k => Sys2Proof.Machine.execTimeSet k s
  | .cfgWrite k => Sys2Proof.Machine.execCfgWrite k s
  | .sakInstall k => Sys2Proof.Machine.execSakInstall k s
  | .tableLoad k readback => Sys2Proof.Machine.execTableLoad k readback s
  | .descWrite k => Sys2Proof.Machine.execDescWrite k s
  | .tableBankSwitchNow k => Sys2Proof.Machine.execTableBankSwitchNow k s
  | .tableBankSwitchArm k => Sys2Proof.Machine.execTableBankSwitchArm k s
  | .barrierCfg k => Sys2Proof.Machine.execBarrierCfg k s
  | .ringCfg k => Sys2Proof.Machine.execRingCfg k s
  | .groupCfg k => Sys2Proof.Machine.execGroupCfg k s
  | .layoutLoad k => Sys2Proof.Machine.execLayoutLoad k s
  | .retirePage k => Sys2Proof.Machine.execRetirePage k s
  | .retireStack k => Sys2Proof.Machine.execRetireStack k s
  | .quarantineRelease k ok => Sys2Proof.Machine.execQuarantineRelease k ok s
  | .firstFailureClear k => Sys2Proof.Machine.execFirstFailureClear k s
  | .parityCfg k base c => Sys2Proof.Machine.execParityCfg k base c s
  | .snapNow k => Sys2Proof.Machine.execSnapNow k s
  | .recover k c lost mem full => Sys2Proof.Machine.execRecover k c lost mem full s
  | .restore k akOk => Sys2Proof.Machine.execRestore k akOk s
  | .biResize k => Sys2Proof.Machine.execBiResize k s
  | .allotRelease k => Sys2Proof.Machine.execAllotRelease k s
  | .exportGen k => Sys2Proof.Machine.execExportGen k s
  | .importGen k => Sys2Proof.Machine.execImportGen k s
  | .attest k => Sys2Proof.Machine.execAttest k s
  | .sessionOpen k => Sys2Proof.Machine.execSessionOpen k s
  | .sessionClose k => Sys2Proof.Machine.execSessionClose k s
  | .partAlloc k => Sys2Proof.Machine.execPartAlloc k s
  | .partFree k => Sys2Proof.Machine.execPartFree k s
  | .fwLoad k => Sys2Proof.Machine.execFwLoad k s
  | .fuseSvn k => Sys2Proof.Machine.execFuseSvn k s
  | .ownerClaim k => Sys2Proof.Machine.execOwnerClaim k s
  | .ownerTransfer k => Sys2Proof.Machine.execOwnerTransfer k s
  | .lockBits k => Sys2Proof.Machine.execLockBits k s
  | .sleep k => Sys2Proof.Machine.execSleep k s
  | .deepSleep k => Sys2Proof.Machine.execDeepSleep k s
  | .powerOff k => Sys2Proof.Machine.execPowerOff k s
  | .wakeTimer k => Sys2Proof.Machine.execWakeTimer k s
  | .telemSample k => Sys2Proof.Machine.execTelemSample k s
  | .halt k => Sys2Proof.Machine.execHalt k s
  | .fence k => Sys2Proof.Machine.execFence k s
  | .drain k => Sys2Proof.Machine.execDrain k s
  | .fenceLift k => Sys2Proof.Machine.execFenceLift k s
  | .startupRow row ok bad => Sys2Proof.Machine.execStartupRow row ok bad s
  | .coldReset => Sys2Proof.Machine.execColdReset s
  | .pwrGoodRise => Sys2Proof.Machine.execPwrGoodRise s
  | .perstRelease => Sys2Proof.Machine.execPerstRelease s
  | .warmReset => Sys2Proof.Machine.execWarmReset s
  | .pcieHotReset disable => Sys2Proof.Machine.execPcieHotReset disable s
  | .pcieLinkDown => Sys2Proof.Machine.execPcieLinkDown s
  | .powerFault r => Sys2Proof.Machine.execPowerFault r s
  | .standbyRailLoss => Sys2Proof.Machine.execStandbyRailLoss s
  | .refclkLoss => Sys2Proof.Machine.execRefclkLoss s
  | .refclkRelock => Sys2Proof.Machine.execRefclkRelock s
  | .idleEntry => Sys2Proof.Machine.execIdleEntry s
  | .wakeInEdge => Sys2Proof.Machine.execWakeInEdge s
  | .hkWakeNow => Sys2Proof.Machine.execHkWakeNow s
  | .weighhouseAlarmWake => Sys2Proof.Machine.execWeighhouseAlarmWake s
  | .wakeTimerExpire => Sys2Proof.Machine.execWakeTimerExpire s
  | .thermalSample readings => Sys2Proof.Machine.execThermalSample readings s
  | .thermalTrip off => Sys2Proof.Machine.execThermalTrip off s
  | .thermTripRelease => Sys2Proof.Machine.execThermTripRelease s
  | .throttleRise => Sys2Proof.Machine.execThrottleRise s
  | .throttleFall => Sys2Proof.Machine.execThrottleFall s
  | .stbyTimeLoad => Sys2Proof.Machine.execStbyTimeLoad s
  | .d2dLaneRetrain l fail => Sys2Proof.Machine.execD2dLaneRetrain l fail s
  | .mgmtReadHk off => Sys2Proof.Machine.execMgmtReadHk off s
  | .mgmtReadDaybook n => Sys2Proof.Machine.execMgmtReadDaybook n s
  | .mgmtReadState => Sys2Proof.Machine.execMgmtReadState s
  | .mgmtWake => Sys2Proof.Machine.execMgmtWake s
  | .mgmtLaserSwap m phase => Sys2Proof.Machine.execMgmtLaserSwap m phase s
  | .mgmtAlertResponse => Sys2Proof.Machine.execMgmtAlertResponse s
  | .powerStateEntryDone => Sys2Proof.Machine.execPowerStateEntryDone s
  | .sleepExitDone => Sys2Proof.Machine.execSleepExitDone s
  | .pcieLinkUp speed width => Sys2Proof.Machine.execPcieLinkUp speed width s
  | .whLaneDown die => Sys2Proof.Machine.execWhLaneDown die s
  | .ptpLockLost => Sys2Proof.Machine.execPtpLockLost s
  | .couplerMoveDone e => Sys2Proof.Machine.execCouplerMoveDone e s
  | .refreshManagementRequest k bank pc rows cycles => Sys2Proof.Machine.execRefreshManagementRequest k bank pc rows cycles s
  | .latchingRead off => Sys2Proof.Machine.execLatchingRead off s

end Sys2Proof.Machine
end

