-- ==== Sys2Proof/Machine/Time.lean ====
section
/-! DEFINITION. What an idle tc does. -/

namespace Sys2Proof.Machine

/-- One tc with no command waiting (log entry 3). -/
def idle (s : State) : State := { s with dev := s.dev.advance 1 }

end Sys2Proof.Machine
end

