-- ==== Sys2Proof/WellFormed.lean ====
section
/-! DEFINITION. Which commands are well formed: units the module has, values of the width their field on a pin, a link or a bus
carries. A command that names a unit the module does not have is stopped by its meaning (Fault.noSuchUnit); commands of the host (an
index of a command taken) carry nothing to check. -/

namespace Sys2Proof

/-- A physical tile (R1): 272 to a device. -/
def isTile (p : Nat) : Bool := decide (p < 272)
/-- A logical tile (R1). -/
def isLogical (l : Nat) : Bool := decide (l < 256)
/-- A value of one byte. -/
def isByte (v : Nat) : Bool := decide (v < 256)
/-- A value of 32 bits: a register word, a job identifier, a step (R9). -/
def isWord (v : Nat) : Bool := decide (v < 2 ^ 32)
/-- A sequence of bytes. -/
def areBytes (bs : List Nat) : Bool := bs.all isByte
/-- A rank (R305). -/
def isRank (r : Nat) : Bool := decide (r < 32768)
/-- A traffic class (R285). -/
def isClass (c : Nat) : Bool := decide (c < 4)
/-- A master of the Loft (R161). -/
def isMaster (m : Nat) : Bool := decide (m < 8)
/-- A ring queue (R244). -/
def isRing (r : Nat) : Bool := decide (r < 16)
/-- A barrier slot or a group slot (R238, R307). -/
def isSlot (g : Nat) : Bool := decide (g < 64)
/-- A job slot (R510). -/
def isJobSlot (u : Nat) : Bool := decide (u < 4)
/-- A command queue (R502). -/
def isQueue (q : Nat) : Bool := decide (q < 16)
/-- A Granary stack (R1). -/
def isStack (k : Nat) : Bool := decide (k < 24)
/-- A pseudo-channel of a stack (R252). -/
def isChan (c : Nat) : Bool := decide (c < 64)
/-- A bank of a pseudo-channel (R252). -/
def isBank (b : Nat) : Bool := decide (b < 64)
/-- An optical engine (R278). -/
def isEngine (e : Nat) : Bool := decide (e < 8)
/-- A logical lane of an engine (R278). -/
def isLane (l : Nat) : Bool := decide (l < 16)
/-- A network port (R279). -/
def isPort (n : Nat) : Bool := decide (n < 32)
/-- A laser module (R297). -/
def isModule (m : Nat) : Bool := decide (m < 4)
/-- A compute die (R22). -/
def isDie (d : Nat) : Bool := decide (d < 4)
/-- An offset of a register word in BAR0 (R494). -/
def isOffset (o : Nat) : Bool := decide (o < 0x4000000) && decide (o % 4 = 0)

/-- The operands of a command lie in the ranges of what carries them. -/
def Instr.wf (c : Instr) : Bool :=
  match c with
  | .nop p => isTile p
  | .endTable p => isTile p
  | .loopSet p => isTile p
  | .loopBack p => isTile p
  | .bankSwitch p => isTile p
  | .flagClr p => isTile p
  | .descSet p => isTile p
  | .descStep p => isTile p
  | .loftHand p => isTile p
  | .escReset p => isTile p
  | .flush p => isTile p
  | .mma p => isTile p
  | .escSlotArrive p _ => isTile p
  | .pocketLoad p => isTile p
  | .store p => isTile p
  | .scout p => isTile p
  | .scoreMax p => isTile p
  | .vop p => isTile p
  | .vfunc p => isTile p
  | .vcvt p => isTile p
  | .vdraw p => isTile p
  | .vsort p => isTile p
  | .vdot p => isTile p
  | .vred64 p => isTile p
  | .vtest p => isTile p
  | .vpout p => isTile p
  | .commandComplete p eng => isTile p && decide (eng < 5)
  | .dmaIn p => isTile p
  | .dmaOut p => isTile p
  | .dmaComplete p flag status _ => isTile p && decide (flag < 64) && isByte status
  | .flagSend p => isTile p
  | .barrier p => isTile p
  | .ringPush p => isTile p
  | .ringPushComplete p ring status => isTile p && isRing ring && isByte status
  | .collective p => isTile p
  | .collectiveComplete p flag _ => isTile p && decide (flag < 64)
  | .tileTrigger p => isTile p
  | .waitTimeout p => isTile p
  | .loftWaitTimeout p master => isTile p && isMaster master
  | .loftAtomic p master op _ v => isTile p && isMaster master && isByte op && isWord v
  | .marchStart p w => isTile p && isWord w
  | .marchDone p _ => isTile p
  | .flagSetArrive l f job src => isLogical l && decide (f < 64) && isWord job && src.all isLogical
  | .barArrive slot rank round job => isSlot slot && isRank rank && isWord round && isWord job
  | .barRelease slot round => isSlot slot && isWord round
  | .ringSlotArrive ring slot desc _ => isRing ring && isByte slot && decide (desc < 2 ^ 256)
  | .ringSlotReturn ring => isRing ring
  | .workMsgSend p => isTile p
  | .workMsgSecondCopy p => isTile p
  | .tileReset p => isTile p
  | .tileEnable p => isTile p
  | .stepBoundary u norms _ faulty => isJobSlot u && areBytes norms && faulty.all (fun e => isLogical e.1)
  | .repeatPoint u _ => isJobSlot u
  | .stepSeal u fps scouts => isJobSlot u && areBytes fps && areBytes scouts
  | .winnowerCompare p _ _ _ slice => isTile p && slice.all areBytes
  | .voteDone p agrees _ _ capture => isTile p && decide (agrees < 4) && areBytes capture
  | .grnRefresh k bank pc _ _ => isStack k && isBank bank && isChan pc
  | .granaryAccess _ v flips _ _ _ => decide (flips < 2 ^ 144) && v.all (fun w => decide (w < 2 ^ 128))
  | .grnCalPass k _ repaired failed => isStack k && repaired.all isChan && failed.all isChan
  | .pageRetirement k => isStack k
  | .granuleCopyDone k => isStack k
  | .stackRetirement k => isStack k
  | .laneFailing e lane _ => isEngine e && isLane lane
  | .laneSwap e lane _ => isEngine e && isLane lane
  | .laneSwapApply e lane => isEngine e && isLane lane
  | .portRetrained e j => isEngine e && decide (j < 4)
  | .feedLoss e lost => isEngine e && lost.all (fun j => decide (j < 4))
  | .laserPresentChange m _ => isModule m
  | .laserStable m => isModule m
  | .wainDataRx port job rank cls _ _ flits _ _ _ _ _ _ data => isPort port && isWord job && isRank rank && isClass cls && decide (flits ≤ 112) && areBytes data
  | .wainAckRx job rank cls _ _ _ _ => isWord job && isRank rank && isClass cls
  | .wainCreditRx port cls _ => isPort port && isClass cls
  | .refuseRx job rank status _ _ _ _ => isWord job && isRank rank && isByte status
  | .keepaliveRx job rank _ => isWord job && isRank rank
  | .keepaliveSend job rank => isWord job && isRank rank
  | .creditSend port => isPort port
  | .wainRto job rank cls _ => isWord job && isRank rank && isClass cls
  | .peerLoss job rank => isWord job && isRank rank
  | .ecnWindowGrow job rank cls => isWord job && isRank rank && isClass cls
  | .pfcPauseRx port prio quanta => isPort port && decide (prio < 8) && decide (quanta < 2 ^ 16)
  | .haltPacket job rank _ => isWord job && isRank rank
  | .fencePacket job rank _ _ => isWord job && isRank rank
  | .drainPacket job rank _ _ => isWord job && isRank rank
  | .fenceComplete job => isWord job
  | .ptpMessageRx port ns => isPort port && decide (ns < 2 ^ 63)
  | .ppsEdge => true
  | .keyAgreementRx port _ _ _ => isPort port
  | .keyAgreementTimer port => isPort port
  | .bucketReady g rank _ st => isSlot g && isRank rank && isWord st
  | .bucketDeadline g _ st => isSlot g && isWord st
  | .bucketSetRx g _ st _ ranks => isSlot g && isWord st && ranks.all isRank
  | .gleanerGranaryScrub flips => flips.all (fun f => decide (f.2 < 2 ^ 144))
  | .gleanerIdleMarch p => isTile p
  | .tableScrubTick p flips => isTile p && decide (flips < 2 ^ 144)
  | .siloScrub _ _ _ _ _ => true
  | .tmrSweep faults => faults.all (fun f => decide (f.1 % 4 = 0) && decide (f.1 < 0x4000000) && (f.2 == 1 || f.2 == 2))
  | .linkFlitFail _ _ _ => true
  | .beforeImageCopy u _ => isJobSlot u
  | .parityDeltaRx u _ _ _ _ bytes => isJobSlot u && areBytes bytes
  | .inboxComplete u rank _ => isJobSlot u && isRank rank
  | .commitRx u => isJobSlot u
  | .snapshotCommitted u => isJobSlot u
  | .snapshotStart u => isJobSlot u
  | .whSample _ _ _ _ => true
  | .whInterval => true
  | .whHourly => true
  | .whWorkMsg p tenant job cls _ _ _ _ _ _ _ => isTile p && isWord job && decide (cls < 10) && decide (tenant < 2 ^ 16)
  | .whLaneUp die => isDie die
  | .whAccountIdle _ => true
  | .whSealOpen => true
  | .whRailsLost => true
  | .whPowerUp => true
  | .whSupercapEmpty => true
  | .whReadReg off => decide (off < 0x400)
  | .whReadRecord area _ => decide (area < 2)
  | .whReadCert => true
  | .whTimeAdj _ => true
  | .whTimeSet _ _ ns => decide (ns < 2 ^ 64)
  | .whParamSet _ _ _ _ => true
  | .whFwLoad _ _ version image => decide (version < 2 ^ 16) && areBytes image
  | .whTamperClear _ _ => true
  | .sqTailWrite q v mem => isQueue q && isWord v && areBytes (mem.map (·.2))
  | .packetTake q _ _ => isQueue q
  | .qEnable q => isQueue q
  | .qDisable q => isQueue q
  | .urgDoorbell k => decide (k < 4)
  | .tsEnable k => decide (k < 6)
  | .tsSampleTick k _ => decide (k < 6)
  | .regWritePlain off v be => isOffset off && isWord v && decide (be < 16)
  | .jobStart _ _ => true
  | .step _ => true
  | .generate _ => true
  | .reshard _ _ => true
  | .jobEnd _ => true
  | .peerWindow _ => true
  | .hostWindow _ => true
  | .windowClose _ => true
  | .hostCopy _ => true
  | .regRead _ => true
  | .regWrite _ => true
  | .rankSet _ => true
  | .laserSwapStart _ => true
  | .laserSwapEnable _ => true
  | .timeSet _ => true
  | .cfgWrite _ => true
  | .sakInstall _ => true
  | .tableLoad _ _ => true
  | .descWrite _ => true
  | .tableBankSwitchNow _ => true
  | .tableBankSwitchArm _ => true
  | .barrierCfg _ => true
  | .ringCfg _ => true
  | .groupCfg _ => true
  | .layoutLoad _ => true
  | .retirePage _ => true
  | .retireStack _ => true
  | .quarantineRelease _ _ => true
  | .firstFailureClear _ => true
  | .parityCfg _ _ _ => true
  | .snapNow _ => true
  | .recover _ _ _ _ _ => true
  | .restore _ _ => true
  | .biResize _ => true
  | .allotRelease _ => true
  | .exportGen _ => true
  | .importGen _ => true
  | .attest _ => true
  | .sessionOpen _ => true
  | .sessionClose _ => true
  | .partAlloc _ => true
  | .partFree _ => true
  | .fwLoad _ => true
  | .fuseSvn _ => true
  | .ownerClaim _ => true
  | .ownerTransfer _ => true
  | .lockBits _ => true
  | .sleep _ => true
  | .deepSleep _ => true
  | .powerOff _ => true
  | .wakeTimer _ => true
  | .telemSample _ => true
  | .halt _ => true
  | .fence _ => true
  | .drain _ => true
  | .fenceLift _ => true
  | .startupRow row _ _ => decide (1 ≤ row) && decide (row ≤ 8)
  | .coldReset => true
  | .pwrGoodRise => true
  | .perstRelease => true
  | .warmReset => true
  | .pcieHotReset _ => true
  | .pcieLinkDown => true
  | .powerFault r => decide (r < 3)
  | .standbyRailLoss => true
  | .refclkLoss => true
  | .refclkRelock => true
  | .idleEntry => true
  | .wakeInEdge => true
  | .hkWakeNow => true
  | .weighhouseAlarmWake => true
  | .wakeTimerExpire => true
  | .thermalSample readings => readings.all (fun r => isWord r.2)
  | .thermalTrip _ => true
  | .thermTripRelease => true
  | .throttleRise => true
  | .throttleFall => true
  | .stbyTimeLoad => true
  | .d2dLaneRetrain _ _ => true
  | .mgmtReadHk off => decide (off < 0x10000)
  | .mgmtReadDaybook n => decide (n < 1048576)
  | .mgmtReadState => true
  | .mgmtWake => true
  | .mgmtLaserSwap m phase => isModule m && decide (phase < 2)
  | .mgmtAlertResponse => true
  | .powerStateEntryDone => true
  | .sleepExitDone => true
  | .pcieLinkUp speed width => decide (1 ≤ speed) && decide (speed ≤ 6) && [1, 2, 4, 8, 16].contains width
  | .whLaneDown die => isDie die
  | .ptpLockLost => true
  | .couplerMoveDone e => isEngine e
  | .refreshManagementRequest k bank pc _ _ => isStack k && isBank bank && isChan pc
  | .latchingRead off => isOffset off

end Sys2Proof
end

