-- ==== Sys2Proof/Safety.lean ====
section
/-! DEFINITION. What statements about the machine are said in: the invariant of the memories, when a table entry executes, when a
command of the host may start and that it has been answered, runs. -/

namespace Sys2Proof.Machine

/-- The state with another device and the same queue. -/
def State.onDev (s : State) (d : Dev) : State := { s with dev := d }

/-! ## The memories -/

/-- The memories of the host and of the Granary are in canonical form. -/
def State.memOk (s : State) : Prop := Memory.wf s.dev.hostMem = true ∧ Memory.wf s.dev.grnMem = true

/-- A memory but for the bytes from `a` up, `n` of them, is as it was. -/
def Memory.sameOutside (m m' : List Host.Cell) (a n : Nat) : Prop := ∀ b, b < a ∨ a + n ≤ b → rdByte m' b = rdByte m b

/-! ## Frames -/

/-- A register of the logs (R341, R391 to R394, R397, R463, R511), or of the time spent throttled (R543). -/
def isLogReg (off : Nat) : Bool :=
  [dERR_SEQ, dDBK_HEAD, dDBK_FF, dINT_STATUS, dEQ_TAIL, dEQ_LOST, dBND_LOG_COUNT, dBND_LOG_LOST, dTC_LOG_HEAD,
   dHK_THROTTLE_NS_LO, dHK_THROTTLE_NS_HI].contains off ||
  (dERR_REC ≤ off && off < dERR_REC + 0x4000) || (dBND_LOG ≤ off && off < dBND_LOG + 0x800) ||
  (dTC_LOG ≤ off && off < dTC_LOG + 0x2000)

/-- The registers of BAR0 are as they were, but for those named and those of the logs. -/
def Dev.sameRegs (d d' : Dev) (offs : List Nat) : Prop := ∀ off, off ∉ offs → isLogReg off = false → d'.rd off = d.rd off

/-- The device with the registers, the Daybook, the host's memory and the interrupts of another, which records change. -/
def Dev.logsOf (d d' : Dev) : Dev := { d with regs := d'.regs, integ := d'.integ, hostMem := d'.hostMem, msix := d'.msix }

/-- Nothing but the Weighhouse, its mirror, the clock, what is sent and the count of free values has changed; of the registers, none
below the mirror but those of the time spent throttled. -/
def Dev.sameButWh (d d' : Dev) : Prop :=
  d' = { d with regs := d'.regs, clock := d'.clock, wh := d'.wh, whIv := d'.whIv, whAc := d'.whAc, outbox := d'.outbox, freeCtr := d'.freeCtr } ∧
  ∀ off, off < dWH_ID → isLogReg off = false → d'.rd off = d.rd off

/-! ## Registers the host writes (R11 to R17, R496, R497) -/

/-- A word of BAR0 that access codes alone govern: outside the GLB and host blocks, the read-only and ignored blocks and the Wain
engines, and not one of the registers that order something. -/
def Dev.plainWord (d : Dev) (off : Nat) : Bool :=
  decide (0x20000 ≤ off) && decide (off < barEnd) && off % 4 == 0 && !(inPortDomain off && d.portsOff) && !readOnlyBlock off &&
  !ignoredBlock off && !(decide (0x300000 ≤ off) && decide (off < 0x380000)) && !([dINT_CTRL, dHK_WAKE_OUT, dHK_TIMER, dHK_WAKE].contains off)

/-- What a field holds after a written value (R11, R13, R14), `v` the value's bits for it. -/
def FieldDesc.after (f : FieldDesc) (en lock : Bool) (old v : Nat) : Nat :=
  match f.acc with
  | .ro => old
  | .wo => old
  | .rw => f.fix.apply v % 2 ^ (f.hi + 1 - f.lo)
  | .w1c => old &&& (2 ^ (f.hi + 1 - f.lo) - 1 - v)
  | .rwe => if en then old else f.fix.apply v % 2 ^ (f.hi + 1 - f.lo)
  | .rwl => if lock then old else f.fix.apply v % 2 ^ (f.hi + 1 - f.lo)

/-! ## Table entries (R188, R189, R192, R220) -/

/-- The issue of the next entry of tile `p` at local tc `x`. -/
def Dev.issueOf (d : Dev) (p x : Nat) : Issue := ⟨p, x, (d.tile p).nextPos, (d.tile p).nextEntry⟩

/-- The device as the sequencer looks at the next entry: the decode of its words has been reported, unless it waits already. -/
def Dev.looked (d : Dev) (p : Nat) : Dev :=
  if (d.tile p).state = stWAIT then d else d.entryReports p (d.tile p).bank (d.tile p).next

/-- The wait of the next entry ends at `x`: its words are good, its flag fields are legal, its flag has the level it waits for. -/
def Dev.waitOver (d : Dev) (p x : Nat) : Prop :=
  (d.tile p).state = stWAIT ∨
    ((d.tile p).entryEcc = false ∧ flagFieldsBad (d.looked p) (d.tile p) (d.tile p).nextEntry = none ∧
      waitMet (d.tile p) (d.tile p).nextEntry x = true)

/-- The device with the next entry issued: its wait's flag consumed, the counters counted. -/
def Dev.afterIssue (d : Dev) (p x : Nat) : Dev :=
  let t := d.tile p
  let e := t.nextEntry
  let d := d.advanceTo (t.toGlobal x)
  (if eWen e && eWclr e && eWpol e then d.consumeFlag p (eWflag e) x else d).onTile p (fun t => t.issued x)

/-- The device as the command of the entry meets it: the descriptors it names have been read. -/
def Dev.atCommand (d : Dev) (p x : Nat) : Dev :=
  ((d.looked p).afterIssue p x).descReports p (d.tile p).nextEntry (d.tile p).nextPos

/-- The predicate of the next entry holds at its issue (R192). -/
def Dev.predHolds (d : Dev) (p x : Nat) : Bool := predMet (((d.looked p).afterIssue p x).tile p) (d.tile p).nextEntry x

/-- The next entry of tile `p` is of an opcode row, issues at `x`, and its command passes its checks. -/
def Dev.executes (d : Dev) (op : Nat) (chk : Dev → Issue → Option Bad) (p x : Nat) : Prop :=
  p < 272 ∧ (d.tile p).mayIssue op = some x ∧ d.waitOver p x ∧ d.predHolds p x = true ∧
    chk (d.atCommand p x) (d.issueOf p x) = none

/-- The device after a command's effect: noted in the record of entries issued, then the end of the table's range and a refused
barrier round are looked at. -/
def Dev.afterEffect (d : Dev) (eff : Dev → Issue → Dev) (p x : Nat) : Dev :=
  ((eff ((d.atCommand p x).onTile p (fun t => t.note (d.tile p).nextPos 0)) (d.issueOf p x)).rangeStop p).roundStop p

/-- The rows of a command table, each its opcode and its command (R206). -/
def tableRows : List (Nat × (Nat → Instr)) :=
  [(0x00, .nop), (0x01, .endTable), (0x02, .loopSet), (0x03, .loopBack), (0x04, .bankSwitch), (0x05, .flagClr), (0x06, .descSet),
   (0x07, .descStep), (0x08, .loftHand), (0x09, .escReset), (0x0A, .flush), (0x10, .mma), (0x11, .pocketLoad), (0x20, .store),
   (0x21, .scout), (0x22, .scoreMax), (0x30, .vop), (0x31, .vfunc), (0x32, .vcvt), (0x33, .vdraw), (0x34, .vsort), (0x35, .vdot),
   (0x36, .vred64), (0x37, .vtest), (0x38, .vpout), (0x40, .dmaIn), (0x41, .dmaOut), (0x50, .flagSend), (0x51, .barrier),
   (0x52, .ringPush), (0x53, .collective)]

/-! ## Commands of the host -/

/-- Command `k` is command `c`, of an opcode, from a queue or an urgent slot, has not started, and need not wait for another. -/
def State.mayStart (s : State) (k op : Nat) (c : Cmd) : Prop :=
  sget? s.dev.cmds k = some c ∧ c.op = op ∧ c.src < 20 ∧ c.started = false ∧ s.dev.mustWait k c = false

/-- Slot `u` holds job `j`, which an identifier names. -/
def Dev.inSlot (d : Dev) (id u : Nat) (j : Job) : Prop :=
  u < 4 ∧ d.jobSlot id = some u ∧ d.jobById id = some j ∧ sget? d.jobs u = some j

/-- Command `k` has started and has no final reply yet. -/
def Dev.stands (d : Dev) (k : Nat) : Prop := ∃ c, sget? d.cmds k = some c ∧ c.started = true

/-! ## Runs -/

/-- A run of `n` steps stops nowhere. -/
def State.runsOn : Nat → State → Prop
  | 0, _ => True
  | n + 1, s => ∃ t, step s = .next t ∧ t.runsOn n

end Sys2Proof.Machine
end

