-- ==== Sys2Proof/Certificates/Slice0/Obligations.lean ====
section
/-! DEFINITION. The statements about the block, from the spec's numbered rules. A statement about a row of the table says under
which state and operands its command answers a next state, and what that state holds. -/

open Sys2Proof Sys2Proof.Machine

/-- Tier 1. The command at the front of the queue is the one that runs, on the state with the queue's rest. -/
def Obligations.StepRunsFront : Prop :=
  ∀ (s : State) (c : Instr) (rest : List Instr), s.pending = c :: rest → step s = exec c { s with pending := rest }

/-- Tier 1. With no command waiting one tc passes, and the queue stays empty (log entry 3: the model's choice). -/
def Obligations.StepIdleTicks : Prop :=
  ∀ s : State, s.pending = [] → ∃ t, step s = .next t ∧ t.pending = [] ∧ t.dev.clock.now = s.dev.clock.now + 1

/-- Tier 2. Commands run first in, first out: no meaning adds a command to the queue or takes one from it. -/
def Obligations.QueueIsFifo : Prop :=
  ∀ (c : Instr) (s t : State), exec c s = .next t → t.pending = s.pending

/-- Tier 3. Every step keeps the memories of the host and of the Granary in canonical form. -/
def Obligations.StepKeepsMemories : Prop :=
  ∀ s t : State, s.memOk → step s = .next t → t.memOk

/-- Tier 3. What fuses and manufacture fix stays as it is in every step (R1, R23), and the device's clocks never run back. -/
def Obligations.StepKeepsFuses : Prop :=
  ∀ s t : State, step s = .next t →
    t.dev.fuses = s.dev.fuses ∧ s.dev.clock.now ≤ t.dev.clock.now ∧ s.dev.clock.ps ≤ t.dev.clock.ps

/-- Tier 2. The commands of a table execute: each row's effect, on the device as its issue leaves it. The sequencer carries out the first
eleven itself (R89, R163, R193, R198, R205, R207 to R209, R231); the engines, the transfer unit and the Binder port take the others (R138
to R151, R210 to R219, R233, R239, R246, R308). -/
def Obligations.TableRowsExecute : Prop :=
  ∀ (s : State) (p x : Nat),
    (s.dev.executes 0x00 nopCheck p x →
      exec (.nop p) s = .next (s.onDev (s.dev.afterEffect (fun d q => d.seqDo q id) p x))) ∧
    (s.dev.executes 0x01 noCheck p x →
      exec (.endTable p) s = .next (s.onDev (s.dev.afterEffect (fun d q => ((d.setOwnFlag q).onTile q.p (fun t => t.setState stDONE)).winnowerHold q.p) p x))) ∧
    (s.dev.executes 0x02 loopSetCheck p x →
      exec (.loopSet p) s = .next (s.onDev (s.dev.afterEffect
        (fun d q => (d.onTile q.p (fun t => t.wr (tLOOP + 4 * eArgs q.e 1 0) (eImm q.e 31 0))).setOwnFlag q) p x))) ∧
    (s.dev.executes 0x03 loopBackCheck p x →
      exec (.loopBack p) s = .next (s.onDev (s.dev.afterEffect
        (fun d q => (d.onTile q.p (fun t => t.loopBack (eArgs q.e 1 0) (eArgs q.e 13 2))).setOwnFlag q) p x))) ∧
    (s.dev.executes 0x04 bankSwitchCheck p x →
      exec (.bankSwitch p) s = .next (s.onDev (s.dev.afterEffect Dev.bankSwitch p x))) ∧
    (s.dev.executes 0x05 noCheck p x →
      exec (.flagClr p) s = .next (s.onDev (s.dev.afterEffect (fun d q => (d.clearFlags q).setOwnFlag q) p x))) ∧
    (s.dev.executes 0x06 descSetCheck p x →
      exec (.descSet p) s = .next (s.onDev (s.dev.afterEffect (fun d q => (d.onTile q.p (fun t =>
        t.progDesc (eH0 q.e) (setBits (sget 0 t.desc (eH0 q.e)).toNat (64 * eArgs q.e 1 0 + 63) (64 * eArgs q.e 1 0)
          (eImm q.e 63 0)))).setOwnFlag q) p x))) ∧
    (s.dev.executes 0x07 descSetCheck p x →
      exec (.descStep p) s = .next (s.onDev (s.dev.afterEffect (fun d q => (d.onTile q.p (fun t =>
        t.progDesc (eH0 q.e) (stepDesc (sget 0 t.desc (eH0 q.e)).toNat q.e))).setOwnFlag q) p x))) ∧
    (s.dev.executes 0x08 loftHandCheck p x →
      exec (.loftHand p) s = .next (s.onDev (s.dev.afterEffect loftHandEffect p x))) ∧
    (s.dev.executes 0x09 noCheck p x →
      exec (.escReset p) s = .next (s.onDev (s.dev.afterEffect
        (fun d q => (d.onTile q.p (fun t => t.setFld tESC_NEXT 20 0 (eImm q.e 20 0))).setOwnFlag q) p x))) ∧
    (s.dev.executes 0x0A noCheck p x →
      exec (.flush p) s = .next (s.onDev (s.dev.afterEffect
        (fun d q => (d.flush q.p (eArgs q.e 15 0) (eArgs q.e 31 16)).setOwnFlag q) p x))) ∧
    (s.dev.executes 0x10 mmaCheck p x → exec (.mma p) s = .next (s.onDev (s.dev.afterEffect mmaEffect p x))) ∧
    (s.dev.executes 0x11 pocketLoadCheck p x →
      exec (.pocketLoad p) s = .next (s.onDev (s.dev.afterEffect pocketLoadEffect p x))) ∧
    (s.dev.executes 0x20 storeCheck p x → exec (.store p) s = .next (s.onDev (s.dev.afterEffect storeEffect p x))) ∧
    (s.dev.executes 0x21 scoutCheck p x → exec (.scout p) s = .next (s.onDev (s.dev.afterEffect scoutEffect p x))) ∧
    (s.dev.executes 0x22 scoreCheck p x → exec (.scoreMax p) s = .next (s.onDev (s.dev.afterEffect scoreEffect p x))) ∧
    (s.dev.executes 0x30 vopCheck p x → exec (.vop p) s = .next (s.onDev (s.dev.afterEffect vopEffect p x))) ∧
    (s.dev.executes 0x31 vfuncCheck p x → exec (.vfunc p) s = .next (s.onDev (s.dev.afterEffect vfuncEffect p x))) ∧
    (s.dev.executes 0x32 vcvtCheck p x → exec (.vcvt p) s = .next (s.onDev (s.dev.afterEffect vcvtEffect p x))) ∧
    (s.dev.executes 0x33 vdrawCheck p x → exec (.vdraw p) s = .next (s.onDev (s.dev.afterEffect vdrawEffect p x))) ∧
    (s.dev.executes 0x34 vsortCheck p x → exec (.vsort p) s = .next (s.onDev (s.dev.afterEffect vsortEffect p x))) ∧
    (s.dev.executes 0x35 vdotCheck p x → exec (.vdot p) s = .next (s.onDev (s.dev.afterEffect vdotEffect p x))) ∧
    (s.dev.executes 0x36 vred64Check p x → exec (.vred64 p) s = .next (s.onDev (s.dev.afterEffect vred64Effect p x))) ∧
    (s.dev.executes 0x37 vtestCheck p x → exec (.vtest p) s = .next (s.onDev (s.dev.afterEffect vtestEffect p x))) ∧
    (s.dev.executes 0x38 vpoutCheck p x → exec (.vpout p) s = .next (s.onDev (s.dev.afterEffect vpoutEffect p x))) ∧
    (s.dev.executes 0x40 (dmaCheck true) p x → exec (.dmaIn p) s = .next (s.onDev (s.dev.afterEffect (dmaEffect true) p x))) ∧
    (s.dev.executes 0x41 (dmaCheck false) p x → exec (.dmaOut p) s = .next (s.onDev (s.dev.afterEffect (dmaEffect false) p x))) ∧
    (s.dev.executes 0x50 flagSendCheck p x → exec (.flagSend p) s = .next (s.onDev (s.dev.afterEffect flagSendEffect p x))) ∧
    (s.dev.executes 0x51 barrierCheck p x → exec (.barrier p) s = .next (s.onDev (s.dev.afterEffect barrierEffect p x))) ∧
    (s.dev.executes 0x52 ringPushCheck p x → exec (.ringPush p) s = .next (s.onDev (s.dev.afterEffect ringPushEffect p x))) ∧
    (s.dev.executes 0x53 collectiveCheck p x →
      exec (.collective p) s = .next (s.onDev (s.dev.afterEffect collectiveEffect p x)))

/-- Tier 2. A command whose predicate does not hold is skipped whole (R192): no effect, no check, no SFLAG; PRED_SKIP grows by one; the
wait and its consumption, and the issue itself, have taken place. -/
def Obligations.PredicateSkips : Prop :=
  ∀ r ∈ tableRows, ∀ (s : State) (p x : Nat), p < 272 → (s.dev.tile p).mayIssue r.1 = some x → s.dev.waitOver p x →
    s.dev.predHolds p x = false →
    exec (r.2 p) s = .next (s.onDev (((((s.dev.looked p).afterIssue p x).onTile p (fun t =>
      (t.bump tPRED_SKIP 1).note (s.dev.tile p).next 1)).rangeStop p).roundStop p))

/-- Tier 2. Loop counters (R208): LOOP_SET loads one, LOOP_BACK counts one down to 0 and branches to TARGET while the result is nonzero,
the trigger clears all four; the other counters stay. -/
def Obligations.LoopCounters : Prop :=
  ∀ (s : State) (p x : Nat), let t := s.dev.tile p; let e := t.nextEntry; let c := eArgs e 1 0
    (s.dev.executes 0x02 loopSetCheck p x → ∃ s', exec (.loopSet p) s = .next s' ∧
      (s'.dev.tile p).rd (tLOOP + 4 * c) = eImm e 31 0 ∧ (s'.dev.tile p).next = t.next + 1 ∧
      ∀ j < 4, j ≠ c → (s'.dev.tile p).rd (tLOOP + 4 * j) = t.rd (tLOOP + 4 * j)) ∧
    (s.dev.executes 0x03 loopBackCheck p x → ∃ s', exec (.loopBack p) s = .next s' ∧
      (s'.dev.tile p).rd (tLOOP + 4 * c) = t.rd (tLOOP + 4 * c) - 1 ∧
      (s'.dev.tile p).next = (if t.rd (tLOOP + 4 * c) - 1 = 0 then t.next + 1 else eArgs e 13 2) ∧
      ∀ j < 4, j ≠ c → (s'.dev.tile p).rd (tLOOP + 4 * j) = t.rd (tLOOP + 4 * j)) ∧
    (p < 272 → t.enabled = true → t.state = stIDLE → ∃ s', exec (.tileTrigger p) s = .next s' ∧
      (s'.dev.tile p).next = 0 ∧ (s'.dev.tile p).last = t.toLocal s.dev.clock.now ∧
      (∀ j < 4, (s'.dev.tile p).rd (tLOOP + 4 * j) = 0) ∧
      (s'.dev.tile p).loft = t.loft ∧ (s'.dev.tile p).desc = t.desc ∧ ∀ q, q ≠ p → s'.dev.tile q = s.dev.tile q)

/-- Tier 2. A program's writes of descriptors (R205, R207, R208): DESC_SET replaces one 64-bit word of descriptor H0, DESC_STEP adds to
BASE, SCALE_BASE and ELEM_BASE with wraparound; neither changes EPOCH (bits 229:214), TENANT (245:230) or VALID (255), and the
other descriptors stay. -/
def Obligations.ProgramDescriptors : Prop :=
  ∀ (s : State) (p x : Nat), let t := s.dev.tile p; let e := t.nextEntry; let h := eH0 e; let old := (sget 0 t.desc h).toNat
    (s.dev.executes 0x06 descSetCheck p x → ∃ s', exec (.descSet p) s = .next s' ∧
      (∀ i < 256, (sget 0 (s'.dev.tile p).desc h).toNat.testBit i =
        if (214 ≤ i ∧ i ≤ 245) ∨ i = 255 then old.testBit i
        else if 64 * eArgs e 1 0 ≤ i ∧ i ≤ 64 * eArgs e 1 0 + 63 then (eImm e 63 0).testBit (i - 64 * eArgs e 1 0)
        else old.testBit i) ∧
      ∀ k, k ≠ h → sget 0 (s'.dev.tile p).desc k = sget 0 t.desc k) ∧
    (s.dev.executes 0x07 descSetCheck p x → ∃ s', exec (.descStep p) s = .next s' ∧
      (let new := (sget 0 (s'.dev.tile p).desc h).toNat
       (bits new 48 8 : Int) = ((bits old 48 8 : Int) + sext (eImm e 31 0) 32) % 2 ^ 41 ∧
       (bits new 89 49 : Int) = ((bits old 89 49 : Int) + sext (eArgs e 23 0) 24) % 2 ^ 41 ∧
       (bits new 189 150 : Int) = ((bits old 189 150 : Int) + sext (eImm e 63 32) 32) % 2 ^ 40 ∧
       bits new 7 0 = bits old 7 0 ∧ bits new 149 90 = bits old 149 90 ∧ bits new 255 190 = bits old 255 190) ∧
      ∀ k, k ≠ h → sget 0 (s'.dev.tile p).desc k = sget 0 t.desc k)

/-- Tier 2. END puts the sequencer in DONE (R193) unless a refused barrier round stops the tile there (R241); BANK_SWITCH makes the
other bank active, clears the old bank's READY and starts at its entry 0, at least 8 tc on (R198); ESC_RESET loads ESC_NEXT
(R89); LOFT_HAND gives each bank it names that no transfer holds to its new owner, and no other bank changes owner (R163, R166). -/
def Obligations.SequencerStates : Prop :=
  ∀ (s : State) (p x : Nat), let t := s.dev.tile p; let e := t.nextEntry
    (s.dev.executes 0x01 noCheck p x → t.barStop = false → ∃ s', exec (.endTable p) s = .next s' ∧
      (s'.dev.tile p).state = stDONE ∧ (s'.dev.tile p).loft = t.loft ∧ (s'.dev.tile p).desc = t.desc) ∧
    (s.dev.executes 0x04 bankSwitchCheck p x → ∃ s', exec (.bankSwitch p) s = .next s' ∧
      (s'.dev.tile p).bank = 1 - t.bank ∧ (s'.dev.tile p).ready t.bank = false ∧
      (s'.dev.tile p).ready (1 - t.bank) = true ∧ (s'.dev.tile p).next = 0 ∧ (s'.dev.tile p).minDelay = 8 ∧
      (s'.dev.tile p).entries = t.entries ∧ (s'.dev.tile p).loft = t.loft) ∧
    (s.dev.executes 0x09 noCheck p x → ∃ s', exec (.escReset p) s = .next s' ∧
      (s'.dev.tile p).fld tESC_NEXT 20 0 = eImm e 20 0 ∧ (s'.dev.tile p).loft = t.loft ∧ (s'.dev.tile p).desc = t.desc) ∧
    (s.dev.executes 0x08 loftHandCheck p x → ∃ s', exec (.loftHand p) s = .next s' ∧
      ∀ b < 8, (s'.dev.tile p).owner b =
        if (eArgs e 7 0).testBit b ∧ t.holder b = none then eImm e (4 * b + 3) (4 * b) else t.owner b)

/-- Tier 2. A flag set that reaches its tile (R231, R235): SETS grows by one modulo 2^16, the level follows the rule of one tc, every other
flag of the tile stays, and so do every other tile, every register of the device and the Granary. A set for a flag bound to a ring,
or for a tile that does not work for the set's job, is dropped: SETS_DROPPED grows by one and no flag changes. -/
def Obligations.FlagSetArrives : Prop :=
  ∀ (s : State) (l f job p : Nat) (src : Option Nat), f < 40 → l < s.dev.gradeTiles → s.dev.physOf l = some p →
    (src = none ∨ ∃ a, src = some a ∧ s.dev.nextSet a l = some (job, .set a l f)) →
    let t := s.dev.tile p
    let x := s.dev.arriveTc t
    (t.job = job → s.dev.bound t f = false → ∃ s', exec (.flagSetArrive l f job src) s = .next s' ∧
      (s'.dev.tile p).rd (tFLAG_COUNT + 4 * f) % 2 ^ 16 = (t.rd (tFLAG_COUNT + 4 * f) + 1) % 2 ^ 16 ∧
      (s'.dev.tile p).flag f = ({ t.flagRec f x with s := (t.flagRec f x).s + 1 } : FlagTc).outcome.1 ∧
      (∀ g < 44, g ≠ f → (s'.dev.tile p).flag g = t.flag g) ∧ (s'.dev.tile p).loft = t.loft ∧
      (∀ q, q ≠ p → s'.dev.tile q = s.dev.tile q) ∧ s'.dev.regs = s.dev.regs ∧ s'.dev.grnMem = s.dev.grnMem) ∧
    (t.job ≠ job ∨ s.dev.bound t f = true → ∃ s', exec (.flagSetArrive l f job src) s = .next s' ∧
      (s'.dev.tile p).rd tSETS_DROPPED = (t.rd tSETS_DROPPED + 1) % 2 ^ 32 ∧
      (∀ g < 44, (s'.dev.tile p).flag g = t.flag g) ∧ (∀ q, q ≠ p → s'.dev.tile q = s.dev.tile q) ∧
      s'.dev.grnMem = s.dev.grnMem)

/-- Tier 2. What ends a wait or a command of a tile. WAIT_TIMEOUT stops the table at the waiting entry with ST_TIMEOUT and logs it
once WAIT_LIMIT × 2^24 tc have gone, and never while WAIT_LIMIT is 0 (R190);
COMMAND_COMPLETE takes the engine's command that completes next out and brings the clock to its completion (R191); ESC_SLOT_ARRIVE ends the oldest
fetch and counts its tc in both registers (R92, R145); LOFT_WAIT_TIMEOUT sets LOFT_STATUS.TIMEOUT and stops the table of a tile
master (R169). -/
def Obligations.WaitsEnd : Prop :=
  ∀ (s : State) (p : Nat), p < 272 → let t := s.dev.tile p
    (t.state = stWAIT → t.woken = none → t.fld tSEQ_CTRL 7 0 ≠ 0 →
      t.clearTo (t.counted + t.fld tSEQ_CTRL 7 0 * 2 ^ 24) = true → ∃ s', exec (.waitTimeout p) s = .next s' ∧
      (s'.dev.tile p).state = stSTOPPED ∧ bit ((s'.dev.tile p).rd tSEQ_STATUS) 10 = true ∧
      (s'.dev.tile p).rd tSEQ_STOP = (t.next + t.bank * 4096 + 0x40 * 65536) % 2 ^ 32 ∧
      s'.dev.clock.now = max s.dev.clock.now (t.toGlobal (t.counted + t.fld tSEQ_CTRL 7 0 * 2 ^ 24)) ∧
      (let n := t.fld tLOG_COUNT 6 0
       n < 64 → bits ((s'.dev.tile p).rd (tLOG + 32 * n + 24)) 15 0 = 0x20 ∧ bits ((s'.dev.tile p).rd (tLOG + 32 * n + 20)) 31 24 = 0x40) ∧
      (s'.dev.tile p).loft = t.loft ∧ ∀ q, q ≠ p → s'.dev.tile q = s.dev.tile q) ∧
    (t.fld tSEQ_CTRL 7 0 = 0 → exec (.waitTimeout p) s = .fault .conditionNotMet) ∧
    (∀ (n : Nat) (g : Eng) (c : EngCmd), engOf n = some g →
      t.eng.find? (fun c => c.eng == g && t.completesNext c) = some c → ∃ s', exec (.commandComplete p n) s = .next s' ∧
      (s'.dev.tile p).eng = t.eng.erase c ∧ s'.dev.clock.now = max s.dev.clock.now (t.toGlobal c.done) ∧
      (s'.dev.tile p).loft = t.loft ∧ ∀ q, q ≠ p → s'.dev.tile q = s.dev.tile q) ∧
    (∀ (tc : Nat) (f : Fetch) (r : List Fetch), t.fetch = f :: r →
      t.eng.all (fun c => c.flags.isEmpty || f.start ≤ c.done) = true → ∃ s', exec (.escSlotArrive p tc) s = .next s' ∧
      (s'.dev.tile p).fetch = r ∧ (s'.dev.tile p).rd tESC_STALL_TC = (t.rd tESC_STALL_TC + tc) % 2 ^ 32 ∧
      (s'.dev.tile p).rd tFREEZE_TC = (t.rd tFREEZE_TC + tc) % 2 ^ 32 ∧ (s'.dev.tile p).loft = t.loft ∧
      ∀ q, q ≠ p → s'.dev.tile q = s.dev.tile q) ∧
    (∀ (m : Nat) (w : LoftWait), t.firstWait m = some w → t.clearTo (t.waitEnds w) = true →
      (∀ u, t.due = some u → t.waitEnds w ≤ u) → ∃ s', exec (.loftWaitTimeout p m) s = .next s' ∧
      bit ((s'.dev.tile p).rd tLOFT_STATUS) 1 = true ∧
      (w.cross = none → t.state ≠ stHALTED → (s'.dev.tile p).state = stSTOPPED ∧ (s'.dev.tile p).loftWait = t.loftWait.erase w ∧
        (s'.dev.tile p).loft = t.loft))

/-- Tier 2. An atomic of a bank's owner is applied at its bank (R171, R172): ADD_I32 and ADD_I64 add modulo 2^32 and 2^64, SWAP writes one
word and sends the old one back; every byte of the Loft outside the target is as before. An atomic that breaks the rules of R171, or
that the Binder sends to a ring bank (R170), changes no byte. -/
def Obligations.LoftAtomics : Prop :=
  ∀ (s : State) (p m a v : Nat), p < 272 → let t := s.dev.tile p
    (∀ op n, (op = 0 ∧ n = 4) ∨ (op = 1 ∧ n = 8) → atomOk m op a = true → t.owner (bankOf a) = m →
      (t.isRing (bankOf a) && m == mBN) = false → ∃ s', exec (.loftAtomic p m op a v) s = .next s' ∧
      leNat (rdBytes (s'.dev.tile p).loft a n) = (leNat (rdBytes t.loft a n) + v) % 2 ^ (8 * n) ∧
      Memory.sameOutside t.loft (s'.dev.tile p).loft a n ∧ (∀ q, q ≠ p → s'.dev.tile q = s.dev.tile q) ∧
      s'.dev.grnMem = s.dev.grnMem) ∧
    (atomOk m 4 a = true → t.owner (bankOf a) = m → (t.isRing (bankOf a) && m == mBN) = false →
      ∃ s', exec (.loftAtomic p m 4 a v) s = .next s' ∧ leNat (rdBytes (s'.dev.tile p).loft a 16) = v % 2 ^ 128 ∧
      s'.dev.outbox = s.dev.outbox ++ [.swapped p a (leNat (rdBytes t.loft a 16))] ∧
      Memory.sameOutside t.loft (s'.dev.tile p).loft a 16 ∧ ∀ q, q ≠ p → s'.dev.tile q = s.dev.tile q) ∧
    (∀ op, atomOk m op a = false ∨ (t.isRing (bankOf a) && m == mBN) = true → ∃ s', exec (.loftAtomic p m op a v) s = .next s' ∧
      (s'.dev.tile p).loft = t.loft ∧ ∀ q, q ≠ p → s'.dev.tile q = s.dev.tile q)

/-- Tier 2. What acts on a tile from outside its table (R153, R156, R175 to R178, R181, R182, R200, R469, R495). A march started on banks that XT
owns, with none in progress, runs: BUSY reads 1, and it lasts 42,640 tc, or 11,440 in preserving mode; any other start sets
MARCH_REFUSED. Its end clears BUSY, shows the faulty rows' number up to 255, and a destructive one leaves its banks zero and the others
as they were. Enabling a disabled tile gives each bank the owner that LOFT_OWN holds for it. A tile reset keeps the Loft, the
descriptors and the Threshing keys, empties the engines and the unsent counts, leaves the sequencer IDLE with both banks not READY, and
makes XT (code 7) the owner of every bank. One work message goes out for each class with unsent work; the oldest second copy goes out,
marked as one. -/
def Obligations.TileUpkeep : Prop :=
  ∀ (s : State) (p : Nat), p < 272 → let t := s.dev.tile p
    (∀ w, t.march = none → t.owns mXT (bits w 15 8) = true → ∃ s', exec (.marchStart p w) s = .next s' ∧
      (s'.dev.tile p).march =
        some ⟨bits w 15 8, bit w 1, bit w 2, s.dev.clock.now + (if bit w 1 then 11440 else 42640)⟩ ∧
      (s'.dev.tile p).fld tMARCH_STATUS 0 0 = 1 ∧ (s'.dev.tile p).loft = t.loft ∧ ∀ q, q ≠ p → s'.dev.tile q = s.dev.tile q) ∧
    (∀ w, t.march.isSome = true ∨ t.owns mXT (bits w 15 8) = false → ∃ s', exec (.marchStart p w) s = .next s' ∧
      bit ((s'.dev.tile p).rd tLOFT_STATUS) 6 = true ∧ (s'.dev.tile p).march = t.march ∧ (s'.dev.tile p).loft = t.loft ∧
      ∀ q, q ≠ p → s'.dev.tile q = s.dev.tile q) ∧
    (∀ (m : March) (rows : List Nat), t.march = some m → m.rowsOk rows = true → ∃ s', exec (.marchDone p rows) s = .next s' ∧
      (s'.dev.tile p).march = none ∧ (s'.dev.tile p).fld tMARCH_STATUS 0 0 = 0 ∧
      (s'.dev.tile p).fld tMARCH_STATUS 15 8 = min 255 rows.length ∧ m.ends ≤ s'.dev.clock.now ∧
      (m.preserving = false → ∀ a, rdByte (s'.dev.tile p).loft a =
        if m.banks.testBit (bankOf a) then 0 else rdByte t.loft a) ∧
      ∀ q, q ≠ p → s'.dev.tile q = s.dev.tile q) ∧
    (p ∉ s.dev.fuses.fusedOff →
    (t.enabled = false → ∃ s', exec (.tileEnable p) s = .next s' ∧ (s'.dev.tile p).enabled = true ∧
      (∀ b < 8, (s'.dev.tile p).owner b = t.fld tLOFT_OWN (4 * b + 3) (4 * b)) ∧ (s'.dev.tile p).loft = t.loft ∧
      (s'.dev.tile p).desc = t.desc ∧ s'.dev.regs = s.dev.regs ∧ ∀ q, q ≠ p → s'.dev.tile q = s.dev.tile q) ∧
    (∃ s', exec (.tileReset p) s = .next s' ∧ (s'.dev.tile p).loft = t.loft ∧ (s'.dev.tile p).desc = t.desc ∧
      (s'.dev.tile p).keys = t.keys ∧ (s'.dev.tile p).eng = [] ∧ (s'.dev.tile p).unsent = [] ∧
      (s'.dev.tile p).state = stIDLE ∧ (s'.dev.tile p).ready 0 = false ∧ (s'.dev.tile p).ready 1 = false ∧
      (∀ b < 8, (s'.dev.tile p).owner b = 7) ∧ s'.dev.grnMem = s.dev.grnMem)) ∧
    (∃ s', exec (.workMsgSend p) s = .next s' ∧ (s'.dev.tile p).unsent = [] ∧
      s'.dev.outbox.length = s.dev.outbox.length + t.unsent.length ∧ (s'.dev.tile p).second.length = t.second.length + t.unsent.length ∧
      (s'.dev.tile p).loft = t.loft ∧ s'.dev.regs = s.dev.regs ∧ ∀ q, q ≠ p → s'.dev.tile q = s.dev.tile q) ∧
    (∀ (g : Nat) (m : WorkMsg) (r : List (Nat × WorkMsg)), t.second = (g, m) :: r → ∃ s', exec (.workMsgSecondCopy p) s = .next s' ∧
      (s'.dev.tile p).second = r ∧ s'.dev.outbox = s.dev.outbox ++ [.work true m] ∧ (s'.dev.tile p).loft = t.loft ∧
      ∀ q, q ≠ p → s'.dev.tile q = s.dev.tile q)


/-- Tier 2. Barriers between devices (R240, R241). A release of the round in progress, whose arrival this device has sent, moves the
slot to the next round with nobody arrived, and marks each member tile that waits as released; any other release changes neither
the round nor a tile. At the home, an arrival that matches is counted; the last one clears the count and moves the round on. No Loft
and no byte of the Granary changes. -/
def Obligations.BarriersAcrossDevices : Prop :=
  ∀ (s : State) (b round : Nat), b < 64 →
    (s.dev.barRound b = round → sget false s.dev.barSent b = true → ∃ s', exec (.barRelease b round) s = .next s' ∧
      s'.dev.barRound b = (round + 1) % 2 ^ 16 ∧ s'.dev.barArrived b = 0 ∧ sget false s'.dev.barSent b = false ∧
      (∀ l p, s.dev.barMember b l = true → s.dev.physOf l = some p → (s.dev.tile p).state ≠ stHALTED →
        (s.dev.tile p).fld tBAR_TILE 0 0 = 1 → (s.dev.tile p).fld tBAR_TILE 7 2 = b →
        (s.dev.tile p).fld tBAR_TILE 31 16 = round → (s'.dev.tile p).fld tBAR_TILE 1 0 = 2) ∧
      (∀ q, (s'.dev.tile q).loft = (s.dev.tile q).loft) ∧ s'.dev.grnMem = s.dev.grnMem) ∧
    (s.dev.barRound b ≠ round ∨ sget false s.dev.barSent b = false → ∃ s', exec (.barRelease b round) s = .next s' ∧
      s'.dev.barRound b = s.dev.barRound b ∧ s'.dev.tiles = s.dev.tiles ∧ s'.dev.grnMem = s.dev.grnMem) ∧
    (∀ rank job : Nat, s.dev.barValid b = true → s.dev.barReg b dBAR_JOB = job → s.dev.barRound b = round →
      rank ∉ sget [] s.dev.barRanks b →
      (s.dev.rankIsSelf job rank = true → s.dev.inner.contains (job, .barArrive b round) = true) →
      ∃ s', exec (.barArrive b rank round job) s = .next s' ∧
        (let n := (sget [] s.dev.barRanks b).length + 1
         if n = bits (s.dev.barReg b dBAR_HOME) 31 16 then
           s'.dev.barRound b = (round + 1) % 2 ^ 16 ∧ sget [] s'.dev.barRanks b = [] ∧ s'.dev.rd (dBAR_HOME_ARRIVED + 0x40 * b) = 0
         else
           s'.dev.barRound b = round ∧ sget [] s'.dev.barRanks b = sget [] s.dev.barRanks b ++ [rank] ∧
             s'.dev.rd (dBAR_HOME_ARRIVED + 0x40 * b) = n % 2 ^ 32) ∧
        (∀ q, (s'.dev.tile q).loft = (s.dev.tile q).loft) ∧ s'.dev.grnMem = s.dev.grnMem)

/-- Tier 2. Rings (R244 to R246). A returned slot adds one to FREE, up to the ring's slots; slot data that reach the consumer's ring bank
add one to FULL; the other counts of the ring stay. The completion of a push leaves its record. No Loft but the consumer's, or the
pushing tile's, changes. -/
def Obligations.RingEvents : Prop :=
  ∀ (s : State) (r : Nat), r < 16 →
    (s.dev.ringValid r = true → s.dev.ringProdHere r = true →
      (s.dev.ringConsHere r = true → s.dev.inner.contains (s.dev.ringReg r dRING_JOB, .slotReturn r) = true) →
      ∃ s', exec (.ringSlotReturn r) s = .next s' ∧ s'.dev.ringFree r = min (s.dev.ringN r) (s.dev.ringFree r + 1) ∧
      s'.dev.ringFull r = s.dev.ringFull r ∧ s'.dev.ringCredit r = s.dev.ringCredit r ∧ s'.dev.ringHeld r = s.dev.ringHeld r ∧
      (∀ q, (s'.dev.tile q).loft = (s.dev.tile q).loft) ∧ s'.dev.grnMem = s.dev.grnMem) ∧
    (∀ (slot desc p : Nat) (es : List Nat), s.dev.ringValid r = true → s.dev.ringConsHere r = true → s.dev.ringProdHere r = false →
      s.dev.inSlot0 r (Desc.ofNat desc) = true → slot < s.dev.ringN r → s.dev.physOf (bits (s.dev.ringReg r dRING_CFG) 17 9) = some p →
      (s.dev.tile p).isRing (s.dev.ringBank r) = true → s.dev.ringFull r + 1 < 512 →
      ∃ s', exec (.ringSlotArrive r slot desc (some es)) s = .next s' ∧ s'.dev.ringFull r = s.dev.ringFull r + 1 ∧
      s'.dev.ringFree r = s.dev.ringFree r ∧ s'.dev.ringCredit r = s.dev.ringCredit r ∧ s'.dev.ringHeld r = s.dev.ringHeld r ∧
      ∀ q, q ≠ p → (s'.dev.tile q).loft = (s.dev.tile q).loft) ∧
    (∀ (p st : Nat) (f : Xfer), p < 272 →
      (s.dev.tile p).xfers.find? (fun x => x.running && x.kind == .push && x.aux % 16 == r) = some f → f.waits = 0 →
      f.held = false → s.dev.slotOnWay r (f.aux / 16) p = false →
      ∃ s', exec (.ringPushComplete p r st) s = .next s' ∧ ⟨p, f.index, f.flag, st⟩ ∈ s'.dev.xferRecs ∧
      ∀ q, q ≠ p → (s'.dev.tile q).loft = (s.dev.tile q).loft)

/-- Tier 2. A DMA transfer that has its banks, that no fence holds and whose write may land completes and leaves its completion record
(R165, R218); a status its issue fixed is the record's status. A collective whose outcome is decided completes and leaves its record
with ST_OK (R310). No Loft changes but the tile's own and the destination's. -/
def Obligations.TransfersComplete : Prop :=
  ∀ (s : State) (p flag : Nat), p < 272 → let t := s.dev.tile p
    (∀ (st : Nat) (data : List Nat) (f : Xfer),
      t.xfers.find? (fun x => x.running && x.flag == some flag && (x.kind == .dmaIn || x.kind == .dmaOut)) = some f →
      f.waits = 0 → f.held = false →
      s.dev.tiles.any (fun e => e.2.loftWait.any (fun w => w.cross == some (p, flag))) = false → s.dev.dmaMayLand p f = true →
      ∃ s', exec (.dmaComplete p flag st data) s = .next s' ∧
      (∃ r, ⟨p, f.index, some flag, r⟩ ∈ s'.dev.xferRecs ∧ ∀ k, f.status = some k → r = k) ∧
      ∀ q, q ≠ p → s.dev.physOf (Desc.ofNat f.dst.toNat).owner ≠ some q → (s'.dev.tile q).loft = (s.dev.tile q).loft) ∧
    (∀ (others : List (Nat × Nat)) (f : Xfer) (x : Bucket), t.collOf flag = some f →
      s.dev.findBucket (f.aux % 64) (f.aux / 64) (t.rd tTHR_STEP) = some x → f.waits = 0 → f.held = false →
      (match x.included with
       | some rs => x.ready = true ∨ s.dev.selfRank t.job ∉ rs
       | none => isSum x.op = false ∧ x.ready = true) →
      ∃ s', exec (.collectiveComplete p flag others) s = .next s' ∧ ⟨p, f.index, some flag, 0⟩ ∈ s'.dev.xferRecs ∧
      ∀ q, q ≠ p → (s'.dev.tile q).loft = (s.dev.tile q).loft)

/-- Tier 2. A Granary access the controller takes (R253, R259). A write leaves exactly the word's 16 bytes changed, and stores it without a
flipped bit. A read of a sound word changes no byte and counts no error. Neither touches a tile. -/
def Obligations.GranaryAccesses : Prop :=
  ∀ (s : State) (a odecc p : Nat) (act : Bool), a < grnEnd → s.dev.grnOn (grnMap a).1 = true → a < s.dev.top →
    s.dev.beingCopied (grnMap a).1 (pageOfX (grnMap a).2) (colOfX (grnMap a).2) = false →
    (∀ w flips : Nat, ∃ s', exec (.granaryAccess a (some w) flips odecc act p) s = .next s' ∧
      leNat (rdBytes s'.dev.grnMem (a / 16 * 16) 16) = w % 2 ^ 128 ∧ sget 0 s'.dev.grnErr (a / 16) = 0 ∧
      Memory.sameOutside s.dev.grnMem s'.dev.grnMem (a / 16 * 16) 16 ∧ s'.dev.tiles = s.dev.tiles) ∧
    (sget 0 s.dev.grnErr (a / 16) = 0 → ∃ s', exec (.granaryAccess a none 0 odecc act p) s = .next s' ∧
      (∀ b, rdByte s'.dev.grnMem b = rdByte s.dev.grnMem b) ∧ s'.dev.tiles = s.dev.tiles ∧
      s'.dev.rd (grnOff dGRN_CE_COUNT (grnMap a).1) = s.dev.rd (grnOff dGRN_CE_COUNT (grnMap a).1) ∧
      s'.dev.rd (grnOff dGRN_UE_COUNT (grnMap a).1) = s.dev.rd (grnOff dGRN_UE_COUNT (grnMap a).1))

/-- Tier 2. Errors of stored words and their scrub (R257, R259, R372, R373). One flipped bit of a stored word, wherever it lies in the 144 bits,
is corrected on the way to the reader: the data read are those written, and a program's read counts one corrected error. With the
Gleaner on, its scrub moves GLN_POS to the next granule of every stack, and from the last back to 0 with GLN_PASSES one more; where no bit
has flipped since, every byte reads as before; no tile changes. -/
def Obligations.ErrorsAndScrub : Prop :=
  (∀ data k : Nat, k < 144 → sheafRead data (2 ^ k) = (data, .corrected [k])) ∧
  (∀ (s : State) (a odecc p k : Nat) (act : Bool), k < 144 → a < grnEnd → s.dev.grnOn (grnMap a).1 = true → a < s.dev.top →
    s.dev.beingCopied (grnMap a).1 (pageOfX (grnMap a).2) (colOfX (grnMap a).2) = false → sget 0 s.dev.grnErr (a / 16) = 0 →
    ∃ s', exec (.granaryAccess a none (2 ^ k) odecc act p) s = .next s' ∧
      (∀ b, rdByte s'.dev.grnMem b = rdByte s.dev.grnMem b) ∧
      s'.dev.rd (grnOff dGRN_CE_COUNT (grnMap a).1) = (s.dev.rd (grnOff dGRN_CE_COUNT (grnMap a).1) + 1) % 2 ^ 32 ∧
      s'.dev.rd (grnOff dGRN_UE_COUNT (grnMap a).1) = s.dev.rd (grnOff dGRN_UE_COUNT (grnMap a).1)) ∧
  (∀ (s : State) (flips : List (Nat × Nat)), s.dev.fld dINT_CTRL 0 0 = 1 → ∃ s', exec (.gleanerGranaryScrub flips) s = .next s' ∧
    (let l := s.dev.fld dGLN_POS 24 0
     (l + 1 < 2 ^ 25 → s'.dev.fld dGLN_POS 24 0 = l + 1 ∧ s'.dev.rd dGLN_PASSES = s.dev.rd dGLN_PASSES) ∧
     (l + 1 = 2 ^ 25 → s'.dev.fld dGLN_POS 24 0 = 0 ∧ s'.dev.rd dGLN_PASSES = (s.dev.rd dGLN_PASSES + 1) % 2 ^ 32)) ∧
    (flips = [] → ∀ b, rdByte s'.dev.grnMem b = rdByte s.dev.grnMem b) ∧ s'.dev.tiles = s.dev.tiles)

/-- Tier 2. What a controller does for its stack (R261 to R263): a refresh, whether it falls due or the stack asks for it, adds its cycles to
REFRESH_TC and leaves no tracked row at or above LIMIT and none of the refreshed rows; a calibration pass counts itself and shows the
temperature. No byte of the Granary and no tile changes. -/
def Obligations.StackUpkeep : Prop :=
  ∀ (s : State) (k : Nat), k < 24 → s.dev.grnOn k = true →
    (∀ (bank pc cycles : Nat) (rows : List Nat) (c : Instr), bank < 64 → pc < 64 →
      (c = .grnRefresh k bank pc rows cycles ∨ c = .refreshManagementRequest k bank pc rows cycles) →
      ∃ s', exec c s = .next s' ∧
      s'.dev.rd (grnOff dGRN_REFRESH_TC k) = (s.dev.rd (grnOff dGRN_REFRESH_TC k) + cycles) % 2 ^ 32 ∧
      (∀ e ∈ sget [] (s'.dev.stack k).hammer (hammerKey bank pc), e.2 < s.dev.fld (grnOff dGRN_RH k) 13 0 ∧ e.1 ∉ rows) ∧
      s'.dev.grnMem = s.dev.grnMem ∧ s'.dev.tiles = s.dev.tiles) ∧
    (∀ (temp : Int) (repaired failed : List Nat), repaired.all (fun c => c < 64) = true → failed.all (fun c => c < 64) = true →
      s.dev.calDue k temp = true → ∃ s', exec (.grnCalPass k temp repaired failed) s = .next s' ∧
      s'.dev.rd (grnOff dGRN_CAL_PASSES k) = (s.dev.rd (grnOff dGRN_CAL_PASSES k) + 1) % 2 ^ 32 ∧
      s'.dev.fld (grnOff dGRN_TEMP k) 7 0 = wrapN temp 8 ∧ (s'.dev.stack k).calPs = s.dev.clock.ps ∧
      s'.dev.grnMem = s.dev.grnMem ∧ s'.dev.tiles = s.dev.tiles)

/-- Tier 2. Retirement (R265, R267, R268). A page's retirement takes the oldest order, a free remap entry and the highest free reserve page,
and marks the entry valid and copying; each granule done moves RETIRE on, and the last one ends the copy. A stack's retirement begins at
its first page, and goes granule by granule to the last. No tile changes. -/
def Obligations.Retirement : Prop :=
  ∀ (s : State) (k : Nat), k < 24 → let u := s.dev.stack k
    (∀ (g n dst : Nat) (r : List Nat), g < 2 ^ 20 → s.dev.grnOn k = true → u.orders = g :: r → u.copying = none → s.dev.freeRemap k = some n →
      s.dev.topReserve k = some dst → ∃ s', exec (.pageRetirement k) s = .next s' ∧
      (s'.dev.stack k).orders = r ∧ (s'.dev.stack k).copying = some n ∧
      bits (s'.dev.rd (grnOff dGRN_REMAP k + 8 * n)) 19 0 = g % 2 ^ 20 ∧ bit (s'.dev.rd (grnOff dGRN_REMAP k + 8 * n)) 31 = true ∧
      bit (s'.dev.rd (grnOff dGRN_REMAP k + 8 * n)) 30 = true ∧ s'.dev.grnMem = s.dev.grnMem ∧ s'.dev.tiles = s.dev.tiles) ∧
    (∀ n : Nat, u.copying = some n → ∃ s', exec (.granuleCopyDone k) s = .next s' ∧
      (let c := s.dev.fld (grnOff dGRN_RETIRE k) 24 20
       (c < 31 → s'.dev.fld (grnOff dGRN_RETIRE k) 24 20 = c + 1 ∧ (s'.dev.stack k).copying = some n) ∧
       (c = 31 → (s'.dev.stack k).copying = none ∧ s'.dev.fld (grnOff dGRN_STATUS k) 6 6 = 0 ∧
         s'.dev.fld (grnOff dGRN_RETIRE k) 24 20 = 0)) ∧ s'.dev.tiles = s.dev.tiles) ∧
    (∀ g c : Nat, u.copying = none → s.dev.stackRet = some (.copying k g c) → ∃ s', exec (.granuleCopyDone k) s = .next s' ∧
      s'.dev.stackRet = (if c < 31 then some (.copying k g (c + 1)) else if g + 1 < s.dev.progPages then some (.copying k (g + 1) 0)
        else some (.done k)) ∧ s'.dev.tiles = s.dev.tiles) ∧
    (s.dev.stackRet = some (.ordered k) → u.copying = none → ∃ s', exec (.stackRetirement k) s = .next s' ∧
      s'.dev.stackRet = some (.copying k 0 0) ∧ s'.dev.persist.stack = some (.copying k 0 0) ∧
      bit (s'.dev.rd (grnOff dGRN_STATUS k)) 6 = true ∧ s'.dev.grnMem = s.dev.grnMem ∧ s'.dev.tiles = s.dev.tiles)


/-- Tier 2. Lanes and ports of the optical engines (R295, R296). A failing lane of a direct-mode port with spares allowed, a spare
free at both ends, is agreed to move 10 µs on; otherwise its port goes down and the engine shows it. A partner's LANE_SWAP notes the
move. At its time the lane takes the lowest free spare and its port trains; a port that has trained is up, and no move of it is
left. Nothing else of the device changes. -/
def Obligations.LaneSwaps : Prop :=
  ∀ (s : State) (e lane : Nat), e < 8 → lane < 16 → let j := s.dev.laneSlot e lane
    (∀ peer : Bool, s.dev.engineOn e = true → s.dev.laneMoves.any (fun m => m.eng == e && m.lane == lane) = false →
      ∃ s', exec (.laneFailing e lane peer) s = .next s' ∧
      (if s.dev.direct e j = true ∧ s.dev.fld (engOff dENG_CTRL e) 2 2 = 1 ∧ (s.dev.freeSpareLane e).isSome = true ∧ peer = true then
        s'.dev.laneMoves = s.dev.laneMoves ++ [⟨e, lane, s.dev.clock.ps + 10000000, true⟩] ∧
          s'.dev.outbox = s.dev.outbox ++ [.link (4 * e + j) (.laneSwap e lane)] ∧ bit (s'.dev.rd (psOff e j)) 3 = true
      else bit (s'.dev.rd (psOff e j)) 0 = false ∧ bit (s'.dev.rd (psOff e j)) 3 = false ∧
        bit (s'.dev.rd (engOff dENG_STATUS e)) 5 = true) ∧
      s.dev.sameRegs s'.dev [psOff e j, engOff dENG_STATUS e] ∧ s'.dev.tiles = s.dev.tiles ∧ s'.dev.grnMem = s.dev.grnMem) ∧
    (∀ ns : Nat, s.dev.engineOn e = true → ∃ s', exec (.laneSwap e lane ns) s = .next s' ∧
      s'.dev.laneMoves = s.dev.laneMoves ++ [⟨e, lane, s.dev.clock.ps + 1000 * ns, false⟩] ∧ bit (s'.dev.rd (psOff e j)) 3 = true ∧
      s.dev.sameRegs s'.dev [psOff e j] ∧ s'.dev.tiles = s.dev.tiles ∧ s'.dev.grnMem = s.dev.grnMem) ∧
    (∀ (m : LaneMove) (o : Nat), s.dev.laneMoves.find? (fun m => m.eng == e && m.lane == lane && !s.dev.training.contains (4 * e + j)) =
        some m → s.dev.freeSpareLane e = some o → ∃ s', exec (.laneSwapApply e lane) s = .next s' ∧
      m.ps ≤ s'.dev.clock.ps ∧ sget [] s'.dev.spares e = sget [] s.dev.spares e ++ [o] ∧
      s'.dev.fld (engOff dENG_LANE_MAP_0 e + 4 * (lane / 6)) (5 * (lane % 6) + 4) (5 * (lane % 6)) = o ∧
      4 * e + j ∈ s'.dev.training ∧ s'.dev.tiles = s.dev.tiles ∧ s'.dev.grnMem = s.dev.grnMem) ∧
    (∀ k, k < 4 → s.dev.training.contains (4 * e + k) = true → s.dev.fld (engOff dENG_STATUS e) 1 1 = 1 →
      ∃ s', exec (.portRetrained e k) s = .next s' ∧ bits (s'.dev.rd (psOff e k)) 1 0 = 3 ∧ bit (s'.dev.rd (psOff e k)) 3 = false ∧
      (∀ m ∈ s'.dev.laneMoves, ¬(m.eng = e ∧ s.dev.laneSlot e m.lane = k)) ∧
      s.dev.sameRegs s'.dev [psOff e k, engOff dENG_STATUS e] ∧ s'.dev.tiles = s.dev.tiles ∧ s'.dev.grnMem = s.dev.grnMem)

/-- Tier 2. Laser modules (R297, R298). A feed that falls below threshold is not lit any more; its engine's coupler sets out for the other
module if that one is lit, and else the engine is dark with every port down. A change of a presence signal shows, and takes the drive
and the light from a module that leaves. A driven module reports its light, and the engines it feeds have light. A coupler that
arrives feeds its engine. -/
def Obligations.LaserFeeds : Prop :=
  ∀ s : State,
    (∀ (e : Nat) (lost : List Nat), e < 8 → lost.all (fun j => (s.dev.enginePorts e).contains j) = true →
      s.dev.fld (engOff dENG_STATUS e) 1 1 = 1 → ∃ s', exec (.feedLoss e lost) s = .next s' ∧
      (let alt := s.dev.fld (engOff dENG_STATUS e) 0 0 == 1
       s'.dev.laserLit (feedModule e alt) = false ∧
       (if s.dev.laserLit (feedModule e (!alt)) = true then
          (e, !alt) ∈ s'.dev.couplers ∧ bit (s'.dev.rd (engOff dENG_STATUS e)) 4 = true ∧ ∀ j ∈ lost, bit (s'.dev.rd (psOff e j)) 0 = false
        else s'.dev.couplers = s.dev.couplers ∧ s'.dev.fld (engOff dENG_STATUS e) 1 1 = 0 ∧
          ∀ j ∈ s.dev.enginePorts e, bit (s'.dev.rd (psOff e j)) 0 = false)) ∧
      s'.dev.tiles = s.dev.tiles ∧ s'.dev.grnMem = s.dev.grnMem) ∧
    (∀ (m : Nat) (present : Bool), m < 4 → s.dev.laserPresent m ≠ present → ∃ s', exec (.laserPresentChange m present) s = .next s' ∧
      s'.dev.laserPresent m = present ∧
      (present = false → s'.dev.laserLit m = false ∧ s'.dev.fld dLASER_CTRL m m = 0) ∧
      s.dev.sameRegs s'.dev [dLASER_STATUS, dLASER_CTRL] ∧
      s'.dev = { s.dev with regs := s'.dev.regs, laserPs := s'.dev.laserPs }) ∧
    (∀ m, m < 4 → s.dev.laserPresent m = true → s.dev.fld dLASER_CTRL m m = 1 → s.dev.laserLit m = false →
      ∃ s', exec (.laserStable m) s = .next s' ∧ s'.dev.laserLit m = true ∧
      (∀ e, e = 2 * m ∨ e = 2 * m + 1 → s.dev.fld (engOff dENG_STATUS e) 0 0 = 0 → s'.dev.fld (engOff dENG_STATUS e) 1 1 = 1) ∧
      s'.dev = { s.dev with regs := s'.dev.regs, couplers := s'.dev.couplers }) ∧
    (∀ (e : Nat) (c : Nat × Bool), e < 8 → s.dev.couplers.find? (fun c => c.1 == e) = some c →
      ∃ s', exec (.couplerMoveDone e) s = .next s' ∧ s'.dev.fld (engOff dENG_STATUS e) 0 0 = b2n c.2 ∧
      s'.dev.fld (engOff dENG_STATUS e) 1 1 = 1 ∧ s'.dev.couplers = s.dev.couplers.filter (fun x => x.1 != e) ∧
      s'.dev = { s.dev with regs := s'.dev.regs, couplers := s'.dev.couplers })

/-- Tier 2. The PTP clock (R301). A message of a time transmitter on PTP_PORT locks the clock to its time, and an offset beyond 1 ms is shown;
a lost lock leaves holdover and the time; a PPS edge stores the clock's signed offset from the nearest second. Nothing else of the
device changes but its logs. -/
def Obligations.PtpClock : Prop :=
  ∀ s : State,
    (∀ port ns : Nat, port = s.dev.fld dPTP_PORT 4 0 → s.dev.portUp port = true → ns < 2 ^ 63 →
      ∃ s', exec (.ptpMessageRx port ns) s = .next s' ∧ s'.dev.ptpNs = ns ∧ s'.dev.clock.ptpRun = true ∧
      s'.dev.fld dPTP_STATUS 1 0 = 1 ∧ (1000000 < ((ns : Int) - s.dev.ptpNs).natAbs → bit (s'.dev.rd dPTP_STATUS) 3 = true) ∧
      s.dev.sameRegs s'.dev [dPTP_STATUS] ∧ s'.dev = { s.dev.logsOf s'.dev with clock := s'.dev.clock }) ∧
    (s.dev.fld dPTP_STATUS 0 0 = 1 → ∃ s', exec .ptpLockLost s = .next s' ∧ s'.dev.fld dPTP_STATUS 1 0 = 2 ∧
      s.dev.sameRegs s'.dev [dPTP_STATUS] ∧ s'.dev = s.dev.logsOf s'.dev) ∧
    (∃ s', exec .ppsEdge s = .next s' ∧ s'.dev.fld dPTP_STATUS 2 2 = 1 ∧
      (let f := s.dev.ptpNs % 1000000000
       sext (s'.dev.rd dPTP_OFFSET) 32 = (if f < 500000000 then (f : Int) else (f : Int) - 1000000000)) ∧
      s.dev.sameRegs s'.dev [dPTP_OFFSET, dPTP_STATUS] ∧ s'.dev = { s.dev with regs := s'.dev.regs })

/-- Tier 2. Key agreements of direct-mode ports (R454). A frame whose chain verifies, with an admission certificate where the owner asks for
one, is answered, or, when it ends the agreement, makes the port's next association READY; any other frame leaves LINK_FAIL. When the
next agreement is due the device sends a frame. Nothing else of the device changes but its logs. -/
def Obligations.KeyAgreements : Prop :=
  ∀ (s : State) (port : Nat), port < 32 → s.dev.agreePort port = true → let ps := psOff (port / 4) (port % 4)
    (∀ ok admitted last : Bool, ∃ s', exec (.keyAgreementRx port ok admitted last) s = .next s' ∧
      (if ok = true ∧ (admitted = true ∨ s.dev.trust.admission = none) then
        (if last = true then
          bit (s'.dev.rd ps) 2 = true ∧ s'.dev.agreement port =
            some ((match s.dev.agreement port with | some a => (a.1 + 1) % 4 | none => 0), s.dev.clock.ps, false)
        else s'.dev = { s.dev with outbox := s.dev.outbox ++ [.link port .keyFrame] })
      else bit (s'.dev.rd ps) 2 = false ∧ bit (s'.dev.rd dTC_FLAGS) 3 = true ∧
        ∃ a, s'.dev.agreement port = some (a, s.dev.clock.ps, true)) ∧
      s.dev.sameRegs s'.dev [ps, dTC_FLAGS] ∧
      s'.dev = { s.dev.logsOf s'.dev with trust := s'.dev.trust, outbox := s'.dev.outbox }) ∧
    (∃ s', exec (.keyAgreementTimer port) s = .next s' ∧ s.dev.agreeDue port ≤ s'.dev.clock.ps ∧
      s'.dev.outbox = s.dev.outbox ++ [.link port .keyFrame] ∧ s.dev.sameRegs s'.dev [] ∧
      s'.dev = { s.dev.logsOf s'.dev with clock := s'.dev.clock, trust := s'.dev.trust, outbox := s'.dev.outbox })


/-- Tier 2. A DATA packet at a port that is up with its association installed (R283, R284, R288). A bad seal is counted and the packet
dropped; one that does not decode is heard and not acknowledged. Else it is acknowledged: the number expected moves the connection on,
a number before it delivers nothing again, one past a gap is held. A packet that asks for nothing changes no tile and no byte of the
Granary; a write under an open peer window leaves its bytes there (R272). -/
def Obligations.WainReceive : Prop :=
  ∀ (s : State) (port job rank cls seq epoch flits : Nat) (ok decodes ce : Bool) (what a n : Nat) (data : List Nat),
    port < 32 → cls < 4 → flits ≤ 112 → s.dev.portUp port = true → s.dev.fld (psOff (port / 4) (port % 4)) 2 2 = 1 →
    let c := s.dev.conn job rank cls
    let cmd : Instr := .wainDataRx port job rank cls seq epoch flits ok decodes ce what a n data
    (ok = false → ∃ s', exec cmd s = .next s' ∧ bit (s'.dev.rd dWAIN_STATUS) 2 = true ∧
      s'.dev.rd dWAIN_SEAL_FAIL = (s.dev.rd dWAIN_SEAL_FAIL + 1) % 2 ^ 32 ∧
      s.dev.sameRegs s'.dev [dWAIN_STATUS, dWAIN_SEAL_FAIL] ∧ s'.dev = { s.dev with regs := s'.dev.regs }) ∧
    (s.dev.rxRefused job rank cls ok = none → decodes = false → ∃ s', exec cmd s = .next s' ∧
      (s'.dev.conn job rank 0).rxPs = s.dev.clock.ps ∧ s'.dev = { s.dev with conns := s'.dev.conns }) ∧
    (s.dev.rxRefused job rank cls ok = none → decodes = true → seq = c.expect → c.held = [] → ∃ s', exec cmd s = .next s' ∧
      (s'.dev.conn job rank cls).expect = (seq + 1) % 2 ^ 32 ∧ .ack rank cls job ((seq + 1) % 2 ^ 32) 0 ce ∈ s'.dev.outbox ∧
      (what = 0 → s'.dev.tiles = s.dev.tiles ∧ s'.dev.grnMem = s.dev.grnMem) ∧
      (what = 1 → s.dev.staleEpoch cls epoch = false → s.dev.peerWindow job rank true a data.length = true →
        rdBytes s'.dev.grnMem a data.length = data.map (BitVec.ofNat 8) ∧
        Memory.sameOutside s.dev.grnMem s'.dev.grnMem a data.length)) ∧
    (s.dev.rxRefused job rank cls ok = none → decodes = true → seqBefore seq c.expect = true → c.held = [] →
      ∃ s', exec cmd s = .next s' ∧ (s'.dev.conn job rank cls).expect = c.expect ∧ .ack rank cls job c.expect 0 ce ∈ s'.dev.outbox ∧
      s'.dev.tiles = s.dev.tiles ∧ s'.dev.grnMem = s.dev.grnMem) ∧
    (s.dev.rxRefused job rank cls ok = none → decodes = true → seq ≠ c.expect → seqBefore seq c.expect = false → c.held = [] →
      ∃ s', exec cmd s = .next s' ∧ (s'.dev.conn job rank cls).expect = c.expect ∧
      (∃ ask, (s'.dev.conn job rank cls).held = [(seq, ask)]) ∧ s'.dev.tiles = s.dev.tiles ∧ s'.dev.grnMem = s.dev.grnMem)

/-- Tier 2. The sending side of a connection (R286, R288, R290, R291). An acknowledgement frees exactly the packets it names. A packet whose
timeout has run out goes out again, and the retransmission counts. Credit that arrives is held; credit owed goes out and is owed no
more. A PFC pause holds its priority at a switched-mode port and does nothing at a direct-mode port. An exchange of keepalives notes
the time. The window grows by 16 cells, up to 4096. No tile and no byte of the Granary changes. -/
def Obligations.WainSend : Prop :=
  ∀ (s : State) (job rank cls : Nat), cls < 4 → let c := s.dev.conn job rank cls
    (∀ (ack sack : Nat) (ok ce : Bool), s.dev.rxRefused job rank cls ok = none → ∃ s', exec (.wainAckRx job rank cls ack sack ok ce) s = .next s' ∧
      (s'.dev.conn job rank cls).unacked.map (·.seq) = (c.unacked.map (·.seq)).filter (fun n => !acked ack sack n) ∧
      (s'.dev.conn job rank cls).expect = c.expect ∧ s'.dev.tiles = s.dev.tiles ∧ s'.dev.grnMem = s.dev.grnMem) ∧
    (∀ (seq : Nat) (u : Unacked), c.unacked.find? (fun u => u.seq == seq) = some u → ∃ s', exec (.wainRto job rank cls seq) s = .next s' ∧
      u.ps + s.dev.fld dWAIN_TIMERS 15 0 * 64000 ≤ s'.dev.clock.ps ∧
      s'.dev.outbox = s.dev.outbox ++ [.wain rank cls job seq c.tx u.msg] ∧ (s'.dev.conn job rank cls).tx = c.tx + 1 ∧
      s'.dev.rd dWAIN_RETX = (s.dev.rd dWAIN_RETX + 1) % 2 ^ 32 ∧ s.dev.sameRegs s'.dev [dWAIN_RETX, dWAIN_STATUS] ∧
      s'.dev = { s.dev with regs := s'.dev.regs, clock := s'.dev.clock, conns := s'.dev.conns, outbox := s'.dev.outbox }) ∧
    (∀ port cells : Nat, port < 32 → s.dev.direct (port / 4) (port % 4) = true → s.dev.portUp port = true →
      ∃ s', exec (.wainCreditRx port cls cells) s = .next s' ∧
      sget 0 s'.dev.credits (port * 4 + cls) = sget 0 s.dev.credits (port * 4 + cls) + cells ∧
      (∀ k, k ≠ port * 4 + cls → sget 0 s'.dev.credits k = sget 0 s.dev.credits k) ∧
      s'.dev = { s.dev with credits := s'.dev.credits }) ∧
    (∀ port : Nat, port < 32 → s.dev.portUp port = true →
      (List.range 4).any (fun k => (sget? s.dev.owed (port * 4 + k)).isSome) = true → ∃ s', exec (.creditSend port) s = .next s' ∧
      (∀ k < 4, sget? s'.dev.owed (port * 4 + k) = none) ∧
      (∀ k < 4, ∀ n, sget? s.dev.owed (port * 4 + k) = some n → .link port (.credit k n) ∈ s'.dev.outbox) ∧
      s'.dev = { s.dev with owed := s'.dev.owed, outbox := s'.dev.outbox }) ∧
    (∀ port prio quanta : Nat, port < 32 → prio < 8 → s.dev.portUp port = true → ∃ s', exec (.pfcPauseRx port prio quanta) s = .next s' ∧
      (s.dev.direct (port / 4) (port % 4) = true → s'.dev = s.dev) ∧
      (s.dev.direct (port / 4) (port % 4) = false → ((port, prio) ∈ s'.dev.paused ↔ quanta ≠ 0) ∧
        ∀ x, x ≠ (port, prio) → (x ∈ s'.dev.paused ↔ x ∈ s.dev.paused)) ∧
      s.dev.sameRegs s'.dev [psOff (port / 4) (port % 4)] ∧ s'.dev = { s.dev with regs := s'.dev.regs, paused := s'.dev.paused }) ∧
    (∀ ok : Bool, s.dev.rxRefused job rank 0 ok = none → ∃ s', exec (.keepaliveRx job rank ok) s = .next s' ∧
      (s'.dev.conn job rank 0).rxPs = s.dev.clock.ps ∧ s'.dev = { s.dev with conns := s'.dev.conns }) ∧
    (s.dev.rankValid job rank = true → s.dev.rankIsSelf job rank = false → s.dev.rankLost job rank = false →
      max (s.dev.conn job rank 0).rxPs (s.dev.conn job rank 0).txPs + 100000000 ≤ s.dev.clock.ps →
      ∃ s', exec (.keepaliveSend job rank) s = .next s' ∧ (s'.dev.conn job rank 0).txPs = s.dev.clock.ps ∧
      s'.dev.outbox = s.dev.outbox ++ [.wain rank 0 job (s.dev.conn job rank 0).next (s.dev.conn job rank 0).tx .keepalive] ∧
      s.dev.sameRegs s'.dev [dWAIN_STATUS] ∧
      s'.dev = { s.dev with regs := s'.dev.regs, conns := s'.dev.conns, credits := s'.dev.credits, outbox := s'.dev.outbox }) ∧
    (s.dev.fld dWAIN_CTRL 1 1 = 1 → c.growPs + 8000000 ≤ s.dev.clock.ps → s.dev.rankValid job rank = true →
      ∃ s', exec (.ecnWindowGrow job rank cls) s = .next s' ∧ (s'.dev.conn job rank cls).window = min 4096 (c.window + 16) ∧
      (s'.dev.conn job rank cls).growPs = s.dev.clock.ps ∧ s'.dev = { s.dev with conns := s'.dev.conns })

/-- Tier 2. Halts, fences, drains and lost peers (R290, R292, R333 to R335). A control packet that the device may not act on is dropped and
shown in WAIN_STATUS. A HALT leaves every tile of the job HALTED and the job halted; a FENCE or a DRAIN sets a fence that has not
completed, and a drain empties the contributions of the job's buckets that have no set; a quiet fence completes. The loss of a peer
is shown and closes its connections. -/
def Obligations.NetworkControl : Prop :=
  ∀ (s : State) (job rank : Nat),
    (∀ (ok : Bool) (epoch : Option Nat) (c : Instr), (∃ d, s.dev.rxRefused job rank 0 ok = some d) →
      (c = .haltPacket job rank ok ∨ c = .fencePacket job rank ok epoch ∨ c = .drainPacket job rank ok epoch) →
      ∃ s', exec c s = .next s' ∧ bit (s'.dev.rd dWAIN_STATUS) 3 = true ∧
      s.dev.sameRegs s'.dev [dWAIN_STATUS, dWAIN_SEAL_FAIL] ∧ s'.dev = s.dev.logsOf s'.dev) ∧
    (∀ ok : Bool, s.dev.rxRefused job rank 0 ok = none → ∃ s', exec (.haltPacket job rank ok) s = .next s' ∧
      (∀ p ∈ s.dev.jobTiles job, (s'.dev.tile p).state = stHALTED ∧ (s'.dev.tile p).loft = (s.dev.tile p).loft) ∧
      (∀ e ∈ s'.dev.jobs, e.2.id = job → e.2.halted = true) ∧ s'.dev.grnMem = s.dev.grnMem ∧ s'.dev.regs = s.dev.regs) ∧
    (∀ (ok : Bool) (epoch : Option Nat), s.dev.rxRefused job rank 0 ok = none →
      (∃ s', exec (.fencePacket job rank ok epoch) s = .next s' ∧ s'.dev.fences = s.dev.fences ++ [⟨job, epoch, false, false⟩] ∧
        s'.dev.fld dBND_STATUS 5 5 = 1 ∧ s.dev.sameRegs s'.dev [dBND_STATUS] ∧
        (∀ q, (s'.dev.tile q).loft = (s.dev.tile q).loft) ∧ s'.dev.grnMem = s.dev.grnMem) ∧
      ∃ s', exec (.drainPacket job rank ok epoch) s = .next s' ∧ s'.dev.fences = s.dev.fences ++ [⟨job, epoch, true, false⟩] ∧
        ∀ x ∈ s'.dev.buckets, s'.dev.collReg x.slot dCOLL_JOB = job → x.included = none → x.contrib = []) ∧
    (∀ f : Fence, s.dev.fences.find? (fun f => f.job == job && !f.complete) = some f →
      s.dev.fences.all (fun f => f.job != job || s.dev.fenceQuiet f) = true → ∃ s', exec (.fenceComplete job) s = .next s' ∧
      (∀ f ∈ s'.dev.fences, f.job = job → f.complete = true) ∧ s'.dev.tiles = s.dev.tiles ∧ s'.dev.grnMem = s.dev.grnMem) ∧
    (s.dev.jobRuns job = true → s.dev.rankValid job rank = true → s.dev.rankIsSelf job rank = false → s.dev.rankLost job rank = false →
      ∃ s', exec (.peerLoss job rank) s = .next s' ∧ s.dev.lossFrom job rank + s.dev.peerLossPs ≤ s'.dev.clock.ps ∧
      bit (s'.dev.rd dWAIN_STATUS) 0 = true)

/-- Tier 2. A REFUSE that reaches its sender (R241, R246, R272, R332): a DMA transfer or a push it names ends with its status; a barrier
slot's tiles that wait or run at it stop; a contribution under the previous epoch is remapped and counted. -/
def Obligations.RefusalsArrive : Prop :=
  ∀ (s : State) (job rank st : Nat), s.dev.rxRefused job rank 0 true = none →
    (∀ (p b c : Nat) (f : Xfer), (s.dev.tile p).xfers.find? (fun x => x.running && x.flag == some b && (x.kind == .dmaIn || x.kind == .dmaOut) &&
        x.viaBinder && x.waits == 0 && !x.held) = some f →
      ∃ s', exec (.refuseRx job rank st 1 p b c) s = .next s' ∧ ⟨p, f.index, f.flag, st⟩ ∈ s'.dev.xferRecs) ∧
    (∀ a b c : Nat, a < 64 → s.dev.barReg a dBAR_JOB = job → ∃ s', exec (.refuseRx job rank st 2 a b c) s = .next s' ∧
      (∀ l p, s.dev.barMember a l = true → l < 256 → s.dev.physOf l = some p → (s.dev.tile p).fld tBAR_TILE 0 0 = 1 →
        (s.dev.tile p).fld tBAR_TILE 7 2 = a → ((s.dev.tile p).state = stRUN ∨ (s.dev.tile p).state = stWAIT) →
        (s'.dev.tile p).state = stSTOPPED) ∧
      (∀ q, (s'.dev.tile q).loft = (s.dev.tile q).loft) ∧ s'.dev.grnMem = s.dev.grnMem) ∧
    (∀ (p b c : Nat) (f : Xfer), (s.dev.tile p).xfers.find? (fun x => x.running && x.kind == .push && x.aux % 16 == b && x.waits == 0 &&
        !x.held) = some f →
      ∃ s', exec (.refuseRx job rank st 3 p b c) s = .next s' ∧ ⟨p, f.index, f.flag, st⟩ ∈ s'.dev.xferRecs) ∧
    (∀ (g b c : Nat) (x : Bucket), s.dev.buckets.find? (fun x => x.slot == g && x.bucket == b && s.dev.collReg g dCOLL_JOB == job) = some x →
      c ≠ s.dev.fld dLAYOUT_EPOCH 15 0 → ∃ s', exec (.refuseRx job rank st 0 g b c) s = .next s' ∧
      bit (s'.dev.rd dBND_STATUS) 0 = true ∧
      (c = s.dev.fld dLAYOUT_EPOCH 31 16 → s.dev.fld dLAYOUT_PREV 31 31 = 1 →
        s'.dev.rd dBND_REMAPPED = (s.dev.rd dBND_REMAPPED + x.contrib.length) % 2 ^ 32) ∧
      s'.dev.tiles = s.dev.tiles)

/-- Tier 2. Decisions on buckets (R321, R323). At the home a readiness notice counts its rank, and the last member's closes the bucket; at
the deadline a quorum without a required rank closes it short, which COLL_SHORT counts, and below the quorum it stays open. At a
member the set is what the bucket includes, and this device learns whether it is in it. No tile changes. -/
def Obligations.BucketDecisions : Prop :=
  ∀ (s : State) (g bucket step : Nat),
    let job := s.dev.collReg g dCOLL_JOB
    (∀ rank : Nat, g < 64 → s.dev.homed g = true → (s.dev.collRanks g).contains rank = true →
      (s.dev.rankIsSelf job rank = true → s.dev.inner.contains (job, .ready (s.dev.collGid g) bucket step rank) = true) →
      ∃ s', exec (.bucketReady g rank bucket step) s = .next s' ∧
      (∃ h ∈ s'.dev.homes, h.slot = g ∧ h.bucket = bucket ∧ h.step = step ∧ rank ∈ h.ready ∧
        (s.dev.honours g bucket step = [] → rank ∉ (s.dev.homes.find? (fun y => y.slot == g && y.bucket == bucket && y.step == step)).elim [] (·.ready) →
          (∀ r ∈ s.dev.collRanks g, r ∈ h.ready) → h.closed = true)) ∧
      s'.dev.tiles = s.dev.tiles ∧ s'.dev.grnMem = s.dev.grnMem) ∧
    (∀ (x : HomeBucket) (n : Nat),
      s.dev.homes.find? (fun y => y.slot == g && y.bucket == bucket && y.step == step && !y.closed) = some x →
      s.dev.deadlinePs g = some n → (s.dev.collPolicy g = 1 ∨ s.dev.collPolicy g = 2) →
      (∃ r ∈ s.dev.collRanks g, r ∉ x.ready) → s.dev.honours g bucket step = [] →
      ∃ s', exec (.bucketDeadline g bucket step) s = .next s' ∧ x.firstPs + n ≤ s'.dev.clock.ps ∧
      (s.dev.quorum g ≤ x.ready.length → (∀ r ∈ s.dev.collRanks g, r ∉ x.ready → s.dev.required g bucket r = false) →
        s.dev.replays job = false → s.dev.fld dBND_STATUS 2 2 = 0 → (s.dev.collRanks g).length ≤ s.dev.ledgerRoom →
        s'.dev.rd (dCOLL_SHORT + 0x80 * g) = (s.dev.rd (dCOLL_SHORT + 0x80 * g) + 1) % 2 ^ 32 ∧
          ∃ h ∈ s'.dev.homes, h.slot = g ∧ h.bucket = bucket ∧ h.step = step ∧ h.closed = true) ∧
      (x.ready.length < s.dev.quorum g → s'.dev.homes = s.dev.homes) ∧
      s'.dev.tiles = s.dev.tiles ∧ s'.dev.grnMem = s.dev.grnMem) ∧
    (∀ (ns : Nat) (ranks : List Nat), g < 64 → bit (s.dev.collReg g dCOLL_CFG) 9 = true →
      ranks.all (fun r => (s.dev.collRanks g).contains r) = true → (∀ x, s.dev.findBucket g bucket step = some x → x.included = none) →
      (s.dev.homed g = true → s.dev.inner.contains (job, .included (s.dev.collGid g) bucket step ranks ns) = true) →
      ∃ s', exec (.bucketSetRx g bucket step ns ranks) s = .next s' ∧
      (∃ x, s'.dev.findBucket g bucket step = some x ∧ x.included = some ranks ∧ (s.dev.selfRank job ∈ ranks → x.self = 0) ∧
        (s.dev.selfRank job ∈ s.dev.collRanks g → s.dev.selfRank job ∉ ranks → bit x.self 0 = true)) ∧
      s'.dev.tiles = s.dev.tiles)


/-- Tier 2. The end of a job's run (R35, R36, R365, R371, R403, R411, R422, R459, R460). A boundary counts itself, leaves the norm registers of
its step and UPD_STATUS clear, and without a group or a pending snapshot commits at once. A repeat point leaves a job whose state
cannot be rebuilt waiting to be restored, and any other without state to rebuild. The seal of a run is signed once: the chain moves on
and TC_SEALED shows the step; a repeated step whose digest is the same signs nothing, and one whose digest differs halts the job. -/
def Obligations.RunsEnd : Prop :=
  ∀ (s : State) (u : Nat) (j : Job), u < 4 → sget? s.dev.jobs u = some j → s.dev.jobById j.id = some j →
    (∀ (norms : List Nat) (moved faulty : List (Nat × Nat)), s.dev.atBoundary j = true → norms.length % 16 = 0 →
      normsRise ((normEntries norms).map (fun e => e.headD 0)) = true → j.ending = none →
      ∃ s', exec (.stepBoundary u norms moved faulty) s = .next s' ∧
      (∃ j', sget? s'.dev.jobs u = some j' ∧ j'.id = j.id ∧ j'.bounds = j.bounds + 1) ∧
      s'.dev.rd dUPD_NORM_STEP = j.step % 2 ^ 32 ∧ s'.dev.rd dUPD_NORM_COUNT = min 4096 (norms.length / 16) ∧ s'.dev.rd dUPD_STATUS = 0 ∧
      (s.dev.parG u = 0 → j.snapDue = false → s'.dev.rd (slotReg dPAR_COMMIT u) = (j.step + 1) % 2 ^ 32)) ∧
    (∀ rebuilt : List (Nat × Nat), s.dev.atRepeat j = true → j.ending = none → ∃ s', exec (.repeatPoint u rebuilt) s = .next s' ∧
      ∃ j', sget? s'.dev.jobs u = some j' ∧ j'.id = j.id ∧ (j.abandoned = true → j'.step = j.step) ∧
        j'.rebuild = s.dev.needsRestore u j ∧ (s.dev.needsRestore u j = true → j'.running = false)) ∧
    (∀ fps scouts : List Nat, j.running = true → j.abandoned = false → j.sealed = false → j.halted = false → s.dev.runDone j.id = true →
      s.dev.noHold j.id = true → s.dev.noSets j.id = true → fps.length % 128 = 0 → scouts.length % 64 = 0 →
      let digest := sealDigest j.step (s.dev.combinedFp j.id (recordsOf 128 (toBytes fps))) (s.dev.combinedSc j.id (recordsOf 64 (toBytes scouts)))
      ∃ s', exec (.stepSeal u fps scouts) s = .next s' ∧ s'.dev.grnMem = s.dev.grnMem ∧
      ∃ j', sget? s'.dev.jobs u = some j' ∧ j'.step = j.step ∧
        (match j.sealedS with
         | some (n, old) =>
           if n = j.step then
             j'.chain = j.chain ∧ s'.dev.rd (dTC_SEALED + 4 * u) = s.dev.rd (dTC_SEALED + 4 * u) ∧
               (old = digest → j'.sealed = true) ∧ (old ≠ digest → j'.halted = true)
           else j'.sealed = true ∧ j'.chain = sha384 (j.chain ++ digest) ∧ s'.dev.rd (dTC_SEALED + 4 * u) = j.step % 2 ^ 32
         | none => j'.sealed = true ∧ j'.chain = sha384 (j.chain ++ digest) ∧ s'.dev.rd (dTC_SEALED + 4 * u) = j.step % 2 ^ 32))

/-- Tier 2. The Winnower (R377 to R380). Words that agree are counted, and the last one clears the hold flag and counts the sample; a
difference is counted, stops the verifier and is noted. A vote ends the comparison and clears the hold flag; the loser is a failed
unit, and is counted; a sampled tile that loses abandons its job's run. No Loft changes where words are compared. -/
def Obligations.WinnowerVotes : Prop :=
  ∀ (s : State) (p : Nat) (m : Mirror), s.dev.mirrorOf p = some m →
    (∀ (a b : Nat) (last : Bool) (slice : Option (List Nat)), m.state = 0 →
      (last = false ∨ [stDONE, stSTOPPED, stHALTED].contains (s.dev.tile p).state = true) →
      ∃ s', exec (.winnowerCompare p a b last slice) s = .next s' ∧
      (a = b → last = false → s'.dev.mirrorOf p = some { m with compared := m.compared + 1 } ∧ s'.dev.tiles = s.dev.tiles ∧
        s'.dev.regs = s.dev.regs) ∧
      (a = b → last = true → s'.dev.mirrorOf p = some { m with compared := m.compared + 1, state := 3 } ∧
        (s'.dev.tile p).flag 43 = false ∧ s'.dev.rd dWNW_SAMPLED = (s.dev.rd dWNW_SAMPLED + 1) % 2 ^ 32 ∧
        s.dev.sameRegs s'.dev [dWNW_SAMPLED] ∧ ∀ q, q ≠ p → s'.dev.tile q = s.dev.tile q) ∧
      (a ≠ b → (∃ m', s'.dev.mirrorOf p = some m' ∧ (m'.state = 1 ∨ m'.state = 2) ∧ m'.words = (a, b) ∧ (slice = none → m'.state = 2)) ∧
        (s'.dev.tile m.verifier).state = stSTOPPED ∧ s'.dev.rd dWNW_MISMATCH = (s.dev.rd dWNW_MISMATCH + 1) % 2 ^ 32 ∧
        s.dev.sameRegs s'.dev [dWNW_MISMATCH] ∧ ∀ q, q ≠ m.verifier → s'.dev.tile q = s.dev.tile q) ∧
      ∀ q, (s'.dev.tile q).loft = (s.dev.tile q).loft) ∧
    (∀ (agrees : Nat) (bad1 bad2 : Bool) (capture : List Nat),
      (m.state = 1 ∧ agrees < 3) ∨ (m.state = 2 ∧ s.dev.runOver m.job = true) →
      ∃ s', exec (.voteDone p agrees bad1 bad2 capture) s = .next s' ∧
      s'.dev.mirrorOf p = some { m with state := 3 } ∧ (s'.dev.tile p).flag 43 = false ∧
      (let lost := if m.state = 1 then agrees ≠ 1 else bad1 = true
       let won := if m.state = 1 then agrees = 1 else bad2 = true
       (lost → (s'.dev.tile p).failed = true ∧ s'.dev.rd dWNW_LOST_TILE = (s.dev.rd dWNW_LOST_TILE + 1) % 2 ^ 32 ∧
         ∀ e ∈ s'.dev.jobs, e.2.id = m.job → m.job ≠ 0 → e.2.running = true → e.2.abandoned = true) ∧
       (won → (s'.dev.tile m.verifier).failed = true ∧
         s'.dev.rd dWNW_LOST_VERIFIER = (s.dev.rd dWNW_LOST_VERIFIER + 1) % 2 ^ 32)))

/-- Tier 2. Background work and links (R368, R369, R372, R386, R425 to R427, R545). The idle march of a tile begins; the scrub port's word moves
on, and a sound word stays; a scrubbed page of the Silo is counted as it says; a sweep of the triplicated fields counts the copies
repaired; a flit failure counts in its row, and the fifth marks the link. No Loft and no byte of the Granary changes. -/
def Obligations.BackgroundWork : Prop :=
  ∀ s : State,
    (∀ p : Nat, p < 272 → s.dev.fld dINT_CTRL 0 0 = 1 → s.dev.idleTile p = true → ∃ s', exec (.gleanerIdleMarch p) s = .next s' ∧
      (s'.dev.tile p).march = some ⟨0xFF, true, false, s'.dev.clock.now + 11440⟩ ∧ (s'.dev.tile p).fld tMARCH_STATUS 0 0 = 1 ∧
      sget? s'.dev.marchPs p = some s'.dev.clock.ps ∧ (s'.dev.tile p).loft = (s.dev.tile p).loft ∧
      (∀ q, q ≠ p → s'.dev.tile q = s.dev.tile q) ∧ s'.dev.grnMem = s.dev.grnMem) ∧
    (∀ p flips : Nat, p < 272 → s.dev.fld dINT_CTRL 0 0 = 1 → ∃ s', exec (.tableScrubTick p flips) s = .next s' ∧
      (let t := s.dev.tile p
       (s'.dev.tile p).scrub = (t.scrub + 1) % 16896 ∧ t.scrubTc + 16 ≤ s'.dev.clock.now ∧
       (flips = 0 → (t.scrubAt t.scrub).2 = 0 → (∀ k, sget 0 (s'.dev.tile p).entries k = sget 0 t.entries k) ∧
         ∀ k, sget 0 (s'.dev.tile p).desc k = sget 0 t.desc k) ∧
       (s'.dev.tile p).loft = t.loft) ∧
      (∀ q, q ≠ p → s'.dev.tile q = s.dev.tile q) ∧ s.dev.sameRegs s'.dev [] ∧ s'.dev.grnMem = s.dev.grnMem) ∧
    (∀ (corrected : Nat) (aged ue last : Bool) (retired : Option Nat), s.dev.fld dINT_CTRL 0 0 = 1 → s.dev.fld dSLO_CTRL 0 0 = 1 →
      ∃ s', exec (.siloScrub corrected aged ue retired last) s = .next s' ∧
      s'.dev.rd dSLO_RELOCS = (if s.dev.fld dSLO_LIMITS 7 0 < corrected ∨ aged = true then (s.dev.rd dSLO_RELOCS + 1) % 2 ^ 32
        else s.dev.rd dSLO_RELOCS) ∧
      s'.dev.rd dSLO_RETIRED = (if retired.isSome then (s.dev.rd dSLO_RETIRED + 1) % 2 ^ 32 else s.dev.rd dSLO_RETIRED) ∧
      (last = true → s'.dev.siloPs = s.dev.clock.ps) ∧
      s.dev.sameRegs s'.dev [dSLO_RELOCS, dSLO_RETIRED, dSLO_STATUS, dSLO_WEAR, dGLN_LATE] ∧
      s'.dev = { s.dev.logsOf s'.dev with siloPs := s'.dev.siloPs }) ∧
    (∀ faults : List (Nat × Nat), s.dev.power.hub = true →
      faults.all (fun f => f.1 % 4 == 0 && f.1 < 0x4000000 && (f.2 == 1 || f.2 == 2)) = true → ∃ s', exec (.tmrSweep faults) s = .next s' ∧
      s'.dev.rd dTMR_REPAIRS = (s.dev.rd dTMR_REPAIRS + (faults.map (·.2)).sum) % 2 ^ 32 ∧ s.dev.clock.ps < s'.dev.clock.ps ∧
      s.dev.sameRegs s'.dev [dTMR_REPAIRS] ∧ (∀ q, (s'.dev.tile q).loft = (s.dev.tile q).loft) ∧ s'.dev.grnMem = s.dev.grnMem) ∧
    (∀ (l : Nat) (d2d again : Bool), s.dev.power.hub = true → s.dev.linkFailed.contains l = false →
      ∃ s', exec (.linkFlitFail l d2d again) s = .next s' ∧
      (let n := if again = true then sget 0 s.dev.flits l + 1 else 1
       (n < 5 → sget 0 s'.dev.flits l = n ∧ s'.dev.linkFailed = s.dev.linkFailed ∧ s'.dev.failed = s.dev.failed) ∧
       (5 ≤ n → s'.dev.linkFailed = s.dev.linkFailed ++ [l] ∧ s'.dev.failed = (s.dev.failed || d2d))) ∧
      s.dev.sameRegs s'.dev [] ∧
      s'.dev = { s.dev.logsOf s'.dev with flits := s'.dev.flits, linkFailed := s'.dev.linkFailed, failed := s'.dev.failed }) ∧
    (∀ (l : Nat) (fail : Bool), s.dev.power.hub = true → s.dev.linkFailed.contains l = false →
      exec (.d2dLaneRetrain l fail) s = if fail then exec (.linkFlitFail l true true) s else .next s)

/-- Tier 2. The commit (R404 to R406, R410, R411). The first write to a chunk has its old bytes copied while the area has room; a full area
halts the run and shows it. A change of a stripe is counted at its holder, and the holder of P adds its bytes. A report is counted at
the home, or completes the commit; the announcement commits: PAR_COMMIT shows the start step, and the before-images are those of the
writes since. -/
def Obligations.Commits : Prop :=
  ∀ (s : State) (u : Nat) (j : Job), u < 4 → sget? s.dev.jobs u = some j →
    (∀ chunk : Nat, j.running = true → j.committed = true → j.chunks.contains chunk = true → j.dirty chunk = false →
      ∃ s', exec (.beforeImageCopy u chunk) s = .next s' ∧ ∃ j', sget? s'.dev.jobs u = some j' ∧
      (if s.dev.beforeFull u = true then j'.running = false ∧ j'.before = [] ∧ bit (s'.dev.rd dSLO_STATUS) 3 = true
       else j'.before = j.before ++ [(chunk, s.dev.grnRead chunk 65536)] ∧ j'.running = true ∧
         s'.dev.rd (slotReg dBI_USED u) = (j.before.length + 1 + j.beforeNext.length) % 2 ^ 32 ∧
         s'.dev.grnMem = s.dev.grnMem ∧ s'.dev.tiles = s.dev.tiles)) ∧
    (∀ (x t stripe announced : Nat) (bytes : List Nat), 3 ≤ s.dev.parG u → x < s.dev.parG u → x ≠ s.dev.parPos u → j.expects t = true →
      (bytes = [] ∨ (bytes.length = 65536 ∧ stripe / s.dev.parG u < s.dev.parChunks u / 2 ∧
        (holderP (s.dev.parG u) stripe = s.dev.parPos u ∨ holderQ (s.dev.parG u) stripe = s.dev.parPos u) ∧
        shareIndex (s.dev.parG u) stripe x < s.dev.parG u - 2)) →
      ∃ s', exec (.parityDeltaRx u x t stripe announced bytes) s = .next s' ∧ ∃ j', sget? s'.dev.jobs u = some j' ∧
      (let n := match sget? j.deltas x with | some n => n.1 | none => 0
       sget? j'.deltas x = some (if bytes = [] then n else n + 1, announced)) ∧
      (bytes = [] → s'.dev.grnMem = s.dev.grnMem) ∧
      (bytes ≠ [] → holderP (s.dev.parG u) stripe = s.dev.parPos u →
        let a := s.dev.parBase u + (s.dev.parChunks u + parSlot (s.dev.parG u) stripe (s.dev.parPos u)) * 65536
        rdBytes s'.dev.grnMem a 65536 = xorBytes (rdBytes s.dev.grnMem a 65536) (toBytes bytes) ∧
        Memory.sameOutside s.dev.grnMem s'.dev.grnMem a 65536) ∧ s'.dev.tiles = s.dev.tiles) ∧
    (∀ (rank : Nat) (snap : Bool), s.dev.commitHome j = j.rank → (s.dev.liveRanks j).contains rank = true →
      (if snap = true then j.snapDone else j.inboxes).contains rank = false → (rank = j.rank → (s.dev.ownReport j snap).isSome = true) →
      ∃ s', exec (.inboxComplete u rank snap) s = .next s' ∧ ∃ j', sget? s'.dev.jobs u = some j' ∧ j'.id = j.id ∧
      (j'.committed = true ∨ rank ∈ (if snap = true then j'.snapDone else j'.inboxes)) ∧
      ∀ q, (s'.dev.tile q).loft = (s.dev.tile q).loft) ∧
    (j.committed = false → s.dev.commitHome j ≠ j.rank → ∃ s', exec (.commitRx u) s = .next s' ∧
      s'.dev.rd (slotReg dPAR_COMMIT u) = j.commitTo % 2 ^ 32 ∧
      (∃ j', sget? s'.dev.jobs u = some j' ∧ j'.committed = true ∧ j'.before = j.beforeNext ∧ j'.beforeNext = [] ∧ j'.deltas = []) ∧
      ∀ q, (s'.dev.tile q).loft = (s.dev.tile q).loft)

/-- Tier 2. Snapshots (R412, R415, R426). A snapshot that is due begins: the older slot's marker is gone and SNAP_DONE reads 0; a Silo that
is read-only, or a job without an allotment, takes none. The last write puts a generation with its marker, one above the newest, into
that slot. The Granary and the tiles stay. -/
def Obligations.Snapshots : Prop :=
  ∀ (s : State) (u : Nat) (j : Job), u < 4 → sget? s.dev.jobs u = some j →
    (s.dev.fld dSLO_CTRL 0 0 = 1 → j.wantsSnap = true → s.dev.snapOnWay j = false → ∃ s', exec (.snapshotStart u) s = .next s' ∧
      (∀ a : Allot, s.dev.jobAllot j = some a → s.dev.fld dSLO_STATUS 0 0 = 0 →
        (∃ j', sget? s'.dev.jobs u = some j' ∧ j'.snapping = some (s.dev.rd (slotReg dPAR_COMMIT u))) ∧
        s'.dev.rd (slotReg dSNAP_DONE u) = 0 ∧
        ∃ a', s'.dev.jobAllot j = some a' ∧ ∀ g ∈ a'.gens, g.1 = a.olderSlot → g.2.marker = false) ∧
      (s.dev.jobAllot j = none ∨ s.dev.fld dSLO_STATUS 0 0 = 1 →
        ∃ j', sget? s'.dev.jobs u = some j' ∧ j'.snapping = none) ∧
      s'.dev.grnMem = s.dev.grnMem ∧ s'.dev.tiles = s.dev.tiles) ∧
    (∀ (m : Nat) (a : Allot), j.snapping = some m → s.dev.jobAllot j = some a → ∃ s', exec (.snapshotCommitted u) s = .next s' ∧
      (∃ j', sget? s'.dev.jobs u = some j' ∧ j'.snapping = none) ∧
      (∃ a' g, s'.dev.jobAllot j = some a' ∧ (a.olderSlot, g) ∈ a'.gens ∧ g.seq = a.top + 1 ∧ g.m = m ∧ g.marker = true ∧
        ∀ x ∈ a.gens, x.1 ≠ a.olderSlot → x ∈ a'.gens) ∧
      s'.dev.grnMem = s.dev.grnMem ∧ s'.dev.tiles = s.dev.tiles)


/-- Tier 2. What the Weighhouse measures (R466, R468, R476). A sample adds its energy over 125 µs to the integrators exactly, main power below
2 W as nothing, and takes the voltage; an INTERVAL record starts a new second and an HOURLY record a new hour, each with the next
sequence number. -/
def Obligations.EnergyMeasured : Prop :=
  ∀ s : State, s.dev.wh.on = true → let w := s.dev.wh
    (∀ mv ma smv sma : Nat, ∃ s', exec (.whSample mv ma smv sma) s = .next s' ∧
      s'.dev.wh.main * 1000000000 + s'.dev.wh.mainRest =
        w.main * 1000000000 + w.mainRest + (if mv * ma < 2000000 then 0 else mv * ma * 125) ∧
      s'.dev.wh.stby * 1000000000 + s'.dev.wh.stbyRest = w.stby * 1000000000 + w.stbyRest + smv * sma * 125 ∧
      s'.dev.wh.volt = mv / 10 ∧ s'.dev.wh.cum = w.cum ∧ s.dev.clock.ps < s'.dev.clock.ps ∧ s.dev.sameButWh s'.dev) ∧
    (∃ s', exec .whInterval s = .next s' ∧ s'.dev.wh.seq = w.seq + 1 ∧ s'.dev.wh.now = List.replicate 10 0 ∧
      s'.dev.wh.second = ⟨none, w.main⟩ ∧ s'.dev.wh.power = (w.main - w.second.mj0) / 100 ∧ s'.dev.wh.main = w.main ∧
      s'.dev.wh.cum = w.cum ∧ s.dev.sameButWh s'.dev) ∧
    (∃ s', exec .whHourly s = .next s' ∧ s'.dev.wh.seq = w.seq + 1 ∧ s'.dev.wh.hour = ⟨none, w.main⟩ ∧ s'.dev.wh.main = w.main ∧
      s'.dev.wh.cum = w.cum ∧ s'.dev.wh.now = w.now ∧ s.dev.sameButWh s'.dev)

/-- Tier 2. Work counted by the Weighhouse (R469 to R472). A copy that does not decode, or that has been counted, counts nothing; another one
counts once in its class, and the messages before it that never came are counted as missing; a bad one is counted as bad. An
account without messages closes with its record. A lane that goes up or down changes its bit, and a die that comes up starts its
sequence numbers anew. -/
def Obligations.WorkCounted : Prop :=
  ∀ s : State, s.dev.wh.on = true → let w := s.dev.wh
    (∀ (p tenant job cls count seq : Nat) (verify rep second bad ok : Bool), p < 272 →
      ∃ s', exec (.whWorkMsg p tenant job cls count seq verify rep second bad ok) s = .next s' ∧
      (ok = false ∨ seq < sget 0 w.expect p → s'.dev.wh = { w with seen := s'.dev.wh.seen }) ∧
      (ok = true → sget 0 w.expect p ≤ seq → sget 0 s'.dev.wh.expect p = seq + 1 ∧ s'.dev.wh.gap = w.gap + (seq - sget 0 w.expect p) ∧
        s'.dev.wh.corr = w.corr + b2n second ∧
        (if bad = true ∨ 10 ≤ cls then s'.dev.wh.bad = w.bad + 1 ∧ s'.dev.wh.cum = w.cum
         else s'.dev.wh.bad = w.bad ∧
           ∀ i < w.cum.length, s'.dev.wh.cum.getD i 0 = w.cum.getD i 0 + (if i = cls then count else 0))) ∧
      s'.dev.wh.main = w.main ∧ s.dev.sameButWh s'.dev) ∧
    (∀ (k : Nat) (a : WhAccount), w.accounts[k]? = some a → ∃ s', exec (.whAccountIdle k) s = .next s' ∧
      s'.dev.wh.accounts = w.accounts.erase a ∧ sget 0 s'.dev.wh.segments (accountKey a.tenant a.job) = a.segment + 1 ∧
      a.last + w.idle * 1000000000 ≤ s'.dev.whTime ∧ s'.dev.wh.seq = w.seq + 1 ∧ s'.dev.wh.cum = w.cum ∧ s.dev.sameButWh s'.dev) ∧
    (∀ die : Nat, die < 4 →
      (w.laneDown.testBit die = true → ∃ s', exec (.whLaneUp die) s = .next s' ∧
        (∀ k, s'.dev.wh.laneDown.testBit k = (w.laneDown.testBit k && k != die)) ∧
        (∀ p, sget? s'.dev.wh.expect p = if dieOfTile p = die then none else sget? w.expect p) ∧ s.dev.sameButWh s'.dev) ∧
      (w.laneDown.testBit die = false → ∃ s', exec (.whLaneDown die) s = .next s' ∧
        (∀ k, s'.dev.wh.laneDown.testBit k = (w.laneDown.testBit k || k == die)) ∧ s'.dev.wh.expect = w.expect ∧ s.dev.sameButWh s'.dev))

/-- Tier 2. Seal and supply of the Weighhouse (R473, R483, R485). An opening is TAMPER at once, or latched while the supercapacitor holds; the
loss of both rails closes every account and stops it; 72 h later at the earliest the time is lost; power-up writes what happened, and
an opening that was latched. -/
def Obligations.WeighhouseSupply : Prop :=
  ∀ s : State, let w := s.dev.wh
    (∃ s', exec .whSealOpen s = .next s' ∧
      (if w.on = true then s'.dev.wh.tamper = true ∧ s'.dev.wh.seq = w.seq + 1 else s'.dev.wh = { w with latch := w.latch || w.cap }) ∧
      s'.dev.wh.main = w.main ∧ s.dev.sameButWh s'.dev) ∧
    (w.on = true → s.dev.power.stby = false → s.dev.power.hub = false → ∃ s', exec .whRailsLost s = .next s' ∧ s'.dev.wh.on = false ∧
      s'.dev.wh.accounts = [] ∧ s'.dev.wh.offPs = s.dev.clock.ps ∧ s'.dev.wh.seq = w.seq + w.accounts.length + 1 ∧ s.dev.sameButWh s'.dev) ∧
    (w.on = false → w.cap = true → ∃ s', exec .whSupercapEmpty s = .next s' ∧ s'.dev.wh.cap = false ∧ s'.dev.wh.timeInvalid = true ∧
      w.offPs + 259200000000000000 ≤ s'.dev.clock.ps ∧ s.dev.sameButWh s'.dev) ∧
    (w.on = false → ∃ s', exec .whPowerUp s = .next s' ∧ s'.dev.wh.on = true ∧ s'.dev.wh.cap = true ∧ s'.dev.wh.latch = false ∧
      s'.dev.wh.tamper = (w.tamper || w.latch) ∧ s'.dev.wh.seq = w.seq + 1 + b2n w.latch ∧ s.dev.sameButWh s'.dev)

/-- Tier 2. The Weighhouse's endpoint (R473, R480 to R483, R487). Reads answer what is asked, and ST_BAD_PARAM beyond the registers and the
slots. A small adjustment moves the time; one beyond a second, or beyond two in a day, does not. A command without the authority's
signature or out of its order changes no value and answers ST_AUTH_FAIL; one with it takes effect, and blows a fuse where it must. -/
def Obligations.WeighhouseEndpoint : Prop :=
  ∀ s : State, s.dev.wh.on = true → let w := s.dev.wh
    (∀ off : Nat, ∃ s' bs, exec (.whReadReg off) s = .next s' ∧ s'.dev.outbox = s.dev.outbox ++ [.answer 9 bs] ∧
      bs.head? = some (if off % 4 = 0 ∧ off < 0x400 then 0 else 0x11) ∧
      s'.dev = { s.dev with outbox := s'.dev.outbox, wh := { w with seen := s'.dev.wh.seen } }) ∧
    (∀ area k : Nat, ∃ s' bs, exec (.whReadRecord area k) s = .next s' ∧ s'.dev.outbox = s.dev.outbox ++ [.answer 9 bs] ∧
      bs = toBytes (if (area = 0 ∧ k < 49152) ∨ (area = 1 ∧ k < 16384) then
        0 :: natBytes 256 (sget 0 w.store (49152 * area + k)).toNat else [0x11]) ∧
      s'.dev = { s.dev with outbox := s'.dev.outbox, wh := { w with seen := s'.dev.wh.seen } }) ∧
    (∃ s', exec .whReadCert s = .next s' ∧ s'.dev.outbox = s.dev.outbox ++ [.answer 9 (toBytes (0 :: whCert))] ∧
      s'.dev = { s.dev with outbox := s'.dev.outbox, wh := { w with seen := s'.dev.wh.seen } }) ∧
    (∀ v : Int, ∃ s', exec (.whTimeAdj v) s = .next s' ∧
      (if 1000000000 < v.natAbs ∨ 2000000000 < (v + (s.dev.whAdjs.map (·.2)).foldl (· + ·) 0).natAbs then
         s'.dev.whTime = s.dev.whTime ∧ s'.dev.outbox = s.dev.outbox ++ [.answer 9 [0x11]]
       else s'.dev.whTime = ((s.dev.whTime : Int) + v).toNat ∧ s'.dev.outbox = s.dev.outbox ++ [.answer 9 [0]] ∧
         s'.dev.wh.seq = w.seq + 1) ∧ s.dev.sameButWh s'.dev) ∧
    (∀ (ctr ns kind v version : Nat) (auth : Bool) (image : List Nat) (c : Instr),
      c = .whTimeSet ctr auth ns ∨ c = .whParamSet ctr auth kind v ∨ c = .whFwLoad ctr auth version image ∨ c = .whTamperClear ctr auth →
      auth = false ∨ ctr ≠ (w.counter + 1) % 2 ^ 32 → ∃ s', exec c s = .next s' ∧
      s'.dev.outbox = s.dev.outbox ++ [.answer 9 [0x20]] ∧ s'.dev.whTime = s.dev.whTime ∧ s'.dev.wh.counter = w.counter ∧
      s'.dev.wh.rated = w.rated ∧ s'.dev.wh.idle = w.idle ∧ s'.dev.wh.address = w.address ∧ s'.dev.wh.cal = w.cal ∧ s'.dev.wh.fw = w.fw ∧
      s'.dev.wh.tamper = w.tamper ∧ s'.dev.wh.seals = w.seals ∧ s.dev.sameButWh s'.dev) ∧
    (∀ ns : Nat, ns < 2 ^ 64 → ∃ s', exec (.whTimeSet ((w.counter + 1) % 2 ^ 32) true ns) s = .next s' ∧ s'.dev.whTime = ns ∧
      s'.dev.wh.timeInvalid = false ∧ s'.dev.wh.seals = w.seals ∧ s'.dev.wh.counter = (w.counter + 1) % 2 ^ 32 ∧ s.dev.sameButWh s'.dev) ∧
    (∀ kind v : Nat, w.seals < 128 → whParamOk kind v = true →
      ∃ s', exec (.whParamSet ((w.counter + 1) % 2 ^ 32) true kind v) s = .next s' ∧
      s'.dev.wh.rated = (if kind = 8 then v else w.rated) ∧ s'.dev.wh.idle = (if kind = 9 then v else w.idle) ∧
      s'.dev.wh.address = (if kind = 10 then v else w.address) ∧ s'.dev.wh.cal = (if kind < 8 then w.cal.set kind v else w.cal) ∧
      s'.dev.wh.seals = w.seals + 1 ∧ s.dev.sameButWh s'.dev) ∧
    (∀ (version : Nat) (image : List Nat), w.seals < 128 → version < 2 ^ 16 →
      ∃ s', exec (.whFwLoad ((w.counter + 1) % 2 ^ 32) true version image) s = .next s' ∧ s'.dev.wh.fw = version ∧
      s'.dev.wh.fwDigest = sha384 image ∧ s'.dev.wh.seals = w.seals + 1 ∧ s.dev.sameButWh s'.dev) ∧
    (w.seals < 128 → ∃ s', exec (.whTamperClear ((w.counter + 1) % 2 ^ 32) true) s = .next s' ∧ s'.dev.wh.tamper = false ∧
      s'.dev.wh.seals = w.seals + 1 ∧ s.dev.sameButWh s'.dev)


/-- Tier 2. The host's accesses to BAR0 (R11 to R14, R17, R495 to R498). A whole word written to a register that access codes alone govern
changes each field as its code says, and no other register but those that record a refusal; a write to a read-only block is refused
and recorded; one that does not cover the word sets GLB_STATUS bit 0 alone. A read answers the word, and that of a low half latches its high half. -/
def Obligations.RegisterAccess : Prop :=
  ∀ (s : State) (off : Nat), s.dev.reach = true →
    (∀ (v : Nat) (r : RegDesc) (i j : Nat), s.dev.plainWord off = true → findReg devRegs off = some (r, i, j) →
      ∃ s', exec (.regWritePlain off v 15) s = .next s' ∧
      (let en := match r.enableOff i with | some o => s.dev.fld o 0 0 == 1 | none => false
       ∀ f ∈ r.fields, bits (s'.dev.rd off) f.hi f.lo = f.after en s.dev.regLock (bits (s.dev.rd off) f.hi f.lo) (bits v f.hi f.lo)) ∧
      s.dev.sameRegs s'.dev [off, dGLB_STATUS, dGLB_WREFUSED, dGLB_WREFUSED_ST, dGLB_WE_STICKY, dGLB_WE_STICKY + 4] ∧
      s'.dev = { s.dev with regs := s'.dev.regs }) ∧
    (∀ v : Nat, off < barEnd → off % 4 = 0 → readOnlyBlock off = true → ∃ s', exec (.regWritePlain off v 15) s = .next s' ∧
      s'.dev.rd dGLB_WREFUSED = off ∧ s'.dev.rd dGLB_WREFUSED_ST = 0x10 ∧ bit (s'.dev.rd dGLB_STATUS) 2 = true ∧
      s.dev.sameRegs s'.dev [dGLB_STATUS, dGLB_WREFUSED, dGLB_WREFUSED_ST] ∧ s'.dev = { s.dev with regs := s'.dev.regs }) ∧
    (∀ v be : Nat, off < barEnd → off % 4 = 0 → be ≠ 15 → ∃ s', exec (.regWritePlain off v be) s = .next s' ∧
      bit (s'.dev.rd dGLB_STATUS) 0 = true ∧ s.dev.sameRegs s'.dev [dGLB_STATUS] ∧ s'.dev = { s.dev with regs := s'.dev.regs }) ∧
    (off < barEnd → ∃ s' w, exec (.latchingRead off) s = .next s' ∧
      s'.dev.outbox = s.dev.outbox ++ [.answer 0 (leBytes 4 w)] ∧
      (let o := off / 4 * 4
       (inPortDomain o && s.dev.portsOff) = false →
         (∀ h, highHalf o = some h → w = s.dev.peek o ∧ sget? s'.dev.latches (latchKey 0 h) = some (s.dev.peek h)) ∧
         (highHalf o = none → w = (sget? s.dev.latches (latchKey 0 o)).getD (s.dev.peek o) ∧ s'.dev.latches = s.dev.latches)) ∧
      s.dev.sameRegs s'.dev [dGLB_STATUS] ∧
      s'.dev = { s.dev with regs := s'.dev.regs, outbox := s'.dev.outbox, latches := s'.dev.latches })

/-- Tier 2. Queues and the urgent mailbox (R502 to R504). The tail written is taken where it lies in the ring, and else TAIL_BAD is set;
ENABLE = 1 starts both rings anew while nothing is outstanding, and is refused else; ENABLE = 0 stops the taking. The packet at the
head of the queue whose turn it is moves the head on and is taken or answered; a failed fetch stops the queue. A busy slot's
doorbell is ignored and shown; another one takes the slot's packet or answers it. -/
def Obligations.PacketsTaken : Prop :=
  ∀ (s : State) (q : Nat), q < 16 → s.dev.reach = true → let o := 0x80 * q
    (∀ (v : Nat) (mem : List (Nat × Nat)), ∃ s', exec (.sqTailWrite q v mem) s = .next s' ∧
      (if v % 2 ^ 16 < 2 ^ bits (s.dev.qReg q dQ_CTRL) 8 4 then s'.dev.rd (dSQ_TAIL + o) = v % 2 ^ 16 ∧ s.dev.sameRegs s'.dev [dSQ_TAIL + o]
       else bit (s'.dev.rd (dQ_STATUS + o)) 0 = true ∧ s.dev.sameRegs s'.dev [dQ_STATUS + o]) ∧
      (∀ a, a ∉ mem.map (·.1) → rdByte s'.dev.hostMem a = rdByte s.dev.hostMem a) ∧
      s'.dev = { s.dev with regs := s'.dev.regs, hostMem := s'.dev.hostMem }) ∧
    (∃ s', exec (.qEnable q) s = .next s' ∧
      (if s.dev.qReg q dQ_OUTSTANDING = 0 then
         bit (s'.dev.rd (dQ_CTRL + o)) 0 = true ∧ s'.dev.rd (dSQ_TAIL + o) = 0 ∧ s'.dev.rd (dSQ_HEAD + o) = 0 ∧
           s'.dev.rd (dRQ_HEAD + o) = 0 ∧ s'.dev.rd (dRQ_TAIL + o) = 0x10000
       else bit (s'.dev.rd (dQ_CTRL + o)) 0 = bit (s.dev.rd (dQ_CTRL + o)) 0 ∧ s'.dev.rd dGLB_WREFUSED = dQ_CTRL + o ∧
         bit (s'.dev.rd dGLB_STATUS) 2 = true ∧ ∀ a ∈ [dSQ_TAIL, dSQ_HEAD, dRQ_HEAD, dRQ_TAIL], s'.dev.rd (a + o) = s.dev.rd (a + o)) ∧
      s'.dev = { s.dev with regs := s'.dev.regs }) ∧
    (∃ s', exec (.qDisable q) s = .next s' ∧ bit (s'.dev.rd (dQ_CTRL + o)) 0 = false ∧ s'.dev.cmds = s.dev.cmds ∧
      s'.dev = { s.dev with regs := s'.dev.regs }) ∧
    (∀ ok bufOk : Bool, 3 ≤ s.dev.fld dGLB_START 4 1 → s.dev.nextQueue = some q → ∃ s', exec (.packetTake q ok bufOk) s = .next s' ∧
      s'.dev.turn = (q + 1) % 16 ∧
      (ok = false → s'.dev.fld (dQ_CTRL + o) 0 0 = 0 ∧ bit (s'.dev.rd (dQ_STATUS + o)) 1 = true ∧ s'.dev.cmds = s.dev.cmds) ∧
      (ok = true → s'.dev.rd (dQ_TAKEN + o) = (s.dev.rd (dQ_TAKEN + o) + 1) % 2 ^ 32 ∧
        s'.dev.rd (dSQ_HEAD + o) = (if s.dev.rd (dSQ_HEAD + o) + 1 < 2 ^ bits (s.dev.qReg q dQ_CTRL) 8 4 then s.dev.rd (dSQ_HEAD + o) + 1 else 0) ∧
        ((s'.dev.cmds = s.dev.cmds ∧ s'.dev.cmdNext = s.dev.cmdNext) ∨
          (s'.dev.cmdNext = s.dev.cmdNext + 1 ∧ ∃ c, sget? s'.dev.cmds s.dev.cmdNext = some c ∧ c.src = q ∧ c.bytes = s.dev.sqEntry q ∧
            c.started = false))) ∧
      s'.dev.tiles = s.dev.tiles ∧ s'.dev.grnMem = s.dev.grnMem) ∧
    (∀ k : Nat, k < 4 → ∃ s', exec (.urgDoorbell k) s = .next s' ∧
      (bit (s.dev.rd dURG_STATUS) k = true → bit (s'.dev.rd dURG_STATUS) 4 = true ∧ s.dev.sameRegs s'.dev [dURG_STATUS] ∧
        s'.dev = { s.dev with regs := s'.dev.regs }) ∧
      (bit (s.dev.rd dURG_STATUS) k = false →
        (bit (s'.dev.rd dURG_STATUS) k = false ∧ s'.dev.cmds = s.dev.cmds) ∨
        (bit (s'.dev.rd dURG_STATUS) k = true ∧ ∃ c, sget? s'.dev.cmds s.dev.cmdNext = some c ∧ c.src = 16 + k ∧
          c.bytes = s.dev.urgBytes k ∧ c.started = false)) ∧
      s'.dev.tiles = s.dev.tiles ∧ s'.dev.grnMem = s.dev.grnMem)

/-- Tier 2. Telemetry streams (R387, R388, R512). A stream is active once it has a timer, and stays off where none is free. A sample of an
active stream counts itself; its record goes into the ring, or is counted as lost where the ring is full. -/
def Obligations.TelemetryStreams : Prop :=
  ∀ (s : State) (k : Nat), k < 6 → let o := 0x200 * k
    (s.dev.reach = true → ∃ s', exec (.tsEnable k) s = .next s' ∧
      (bit (s'.dev.rd (dTS_CTRL + o)) 0 = true ↔
        bit (s.dev.rd (dTS_CTRL + o)) 0 = true ∨ ∃ i < 8, bit (s.dev.holder i) 31 = false) ∧
      s'.dev = s.dev.logsOf s'.dev) ∧
    (∀ late : Bool, s.dev.endpoint = true → bit (s.dev.rd (dTS_CTRL + o)) 0 = true → ∃ s', exec (.tsSampleTick k late) s = .next s' ∧
      s'.dev.rd (dTS_SEQ + o) = (s.dev.rd (dTS_SEQ + o) + 1) % 2 ^ 32 ∧
      (let n := 2 ^ bits (s.dev.rd (dTS_CTRL + o)) 6 2
       let tail := bits (s.dev.rd (dTS_TAIL + o)) 15 0
       if (tail + 1) % n = bits (s.dev.rd (dTS_HEAD + o)) 15 0 % n then
         s'.dev.rd (dTS_LOST + o) = (s.dev.rd (dTS_LOST + o) + 1) % 2 ^ 32 ∧ s'.dev.hostMem = s.dev.hostMem ∧ s'.dev.msix = s.dev.msix
       else s'.dev.rd (dTS_TAIL + o) = (tail + 1) % n % 2 ^ 32 ∧ s'.dev.rd (dTS_LOST + o) = s.dev.rd (dTS_LOST + o)) ∧
      s.dev.sameRegs s'.dev [dTS_SEQ + o, dTS_LOST + o, dTS_TAIL + o, dGLB_STATUS] ∧
      s'.dev = { s.dev with regs := s'.dev.regs, hostMem := s'.dev.hostMem, msix := s'.dev.msix, latches := s'.dev.latches })


/-- Tier 2. The final reply of a command (R500, R502, R504): it is written where the queue's reply ring has its tail, or into the urgent
slot, with its tag; the tail moves on and the phase turns at the ring's end; the source is free again and its interrupt is raised;
the command is gone. -/
def Obligations.FinalReply : Prop :=
  ∀ (d : Dev) (k status result : Nat) (c : Cmd), sget? d.cmds k = some c → c.src < 20 →
    let d' := d.final k status result
    d' = { d with regs := d'.regs, hostMem := d'.hostMem, msix := d'.msix, cmds := sdel d.cmds k } ∧
    (c.src < 16 →
      let o := 0x80 * c.src
      let i := bits (d.rd (dRQ_TAIL + o)) 15 0
      let ph := bit (d.rd (dRQ_TAIL + o)) 16
      let bs := replyBytes c.seq status ph true false c.head result
      let all := bs ++ replyTag (d.replyKey c) c.seq bs
      let a := d.rd (dRQ_BASE_LO + o) + d.rd (dRQ_BASE_HI + o) * 2 ^ 32 + 32 * i
      rdBytes d'.hostMem a all.length = all ∧ Memory.sameOutside d.hostMem d'.hostMem a all.length ∧
      d'.rd (dRQ_TAIL + o) = (if i + 1 < 2 ^ bits (d.rd (dQ_CTRL + o)) 13 9 then i + 1 + b2n ph * 2 ^ 16 else b2n (!ph) * 2 ^ 16) ∧
      d'.rd (dQ_OUTSTANDING + o) = d.rd (dQ_OUTSTANDING + o) - 1 ∧ d'.msix = d.msix ++ [bits (d.rd (dQ_CTRL + o)) 18 14] ∧
      d.sameRegs d' [dRQ_TAIL + o, dQ_OUTSTANDING + o]) ∧
    (16 ≤ c.src →
      let u := c.src - 16
      let bs := replyBytes c.seq status (bit (d.rd dURG_RQ_TAIL) 16) true true 0 result
      let all := bs ++ replyTag (d.replyKey c) c.seq bs
      (∀ w < 8, d'.rd (dURG_REPLY + 0x20 * u + 4 * w) = leNat ((all.drop (4 * w)).take 4)) ∧
      bit (d'.rd dURG_STATUS) u = false ∧ d'.msix = d.msix ++ [16] ∧
      (d.fld dURG_RQ_CTRL 0 0 = 0 → d'.hostMem = d.hostMem ∧ d'.rd dURG_RQ_TAIL = d.rd dURG_RQ_TAIL) ∧
      d.sameRegs d' ([dURG_STATUS, dURG_RQ_TAIL] ++ (List.range 8).map (fun w => dURG_REPLY + 0x20 * u + 4 * w)))

/-- Tier 2. Windows (R272 to R274, R276, R404, R449, R452). A peer window opens over an area of the job's tenant; a host window where
the lock does not stand; either is refused while another job has it. A close closes. A host copy moves whole pages: into the Granary
only the bytes of its range change, and to the host the Granary stays as it is. -/
def Obligations.WindowCommands : Prop :=
  ∀ (s : State) (k : Nat) (c : Cmd), let d := s.dev.begin k
    (s.mayStart k 0x0201 c → ∃ e st, exec (.peerWindow k) s = .next (s.onDev (e.final k st 0)) ∧
      let w := c.body 0 1
      (st ≠ 0 → st = 0x11 ∧ e = d) ∧
      (st = 0 ↔ ∃ j, d.jobById c.job = some j ∧ w < 32 ∧ c.body 3 1 ≤ 3 ∧ c.body 1 2 ≤ 0x7FFF ∧ d.winForeign w c.job = false ∧
        d.areaOk j.tenant (c.body 4 8) (65536 * c.body 12 4) = true) ∧
      (st = 0 → e.winOpen w = true ∧ e.winReg w dWIN_JOB = c.job ∧ bits (e.winReg w dWIN_CFG) 14 0 = c.body 1 2 ∧
        bits (e.winReg w dWIN_CFG) 17 16 = c.body 3 1 ∧ e.winReg w dWIN_SIZE = c.body 12 4 ∧
        e.winReg w dWIN_BASE_LO + e.winReg w dWIN_BASE_HI * 2 ^ 32 = c.body 4 8 ∧
        d.sameRegs e ([dWIN_JOB, dWIN_CFG, dWIN_BASE_LO, dWIN_BASE_HI, dWIN_SIZE].map (fun o => o + 0x20 * w)) ∧
        e = { d with regs := e.regs, winTenant := e.winTenant })) ∧
    (s.mayStart k 0x0202 c → ∃ e st, exec (.hostWindow k) s = .next (s.onDev (e.final k st 0)) ∧
      let w := c.body 0 1
      (d.jobById c.job = none → st = 0x11 ∧ e = d) ∧
      (∀ j, d.jobById c.job = some j →
        (bit (d.rd dTC_LOCK) 5 = true → st = 0x13 ∧ d.sameRegs e [] ∧ e.winTenant = d.winTenant) ∧
        (bit (d.rd dTC_LOCK) 5 = false → (16 ≤ w ∨ d.winForeign (32 + w) c.job = true) → st = 0x11 ∧ e = d) ∧
        (bit (d.rd dTC_LOCK) 5 = false → w < 16 → d.winForeign (32 + w) c.job = false → st = 0 ∧ e.hwOpen w = true ∧
          e.hwReg w dWIN_JOB = c.job ∧ e.hwBase w = c.body 4 8 ∧ e.hwReg w dWIN_SIZE = c.body 12 4 ∧ e.hwTenant w = j.tenant ∧
          e = { d with regs := e.regs, winTenant := e.winTenant }))) ∧
    (s.mayStart k 0x0203 c → ∃ e st, exec (.windowClose k) s = .next (s.onDev (e.final k st 0)) ∧
      let n := if c.body 0 1 = 0 then c.body 1 1 else 32 + c.body 1 1
      (st ≠ 0 → st = 0x11 ∧ e = d) ∧
      (st = 0 ↔ ((c.body 0 1 = 0 ∧ c.body 1 1 < 32) ∨ (c.body 0 1 = 1 ∧ c.body 1 1 < 16)) ∧ d.winOpen n = true ∧
        d.winReg n dWIN_JOB = c.job) ∧
      (st = 0 → e.winOpen n = false ∧ sget? e.winTenant n = none ∧
        (c.body 0 1 = 0 → d.sameRegs e [dWIN_CFG + 0x20 * n] ∧ e = { d with regs := e.regs, winTenant := e.winTenant }))) ∧
    (s.mayStart k 0x0204 c →
      (c.body 1 1 ≠ 0 ∨ s.dev.copyOk c = false ∨ s.dev.mayLand (c.body 12 8) (c.body 20 4) = true) →
      ∃ e st, exec (.hostCopy k) s = .next (s.onDev (e.final k st 0)) ∧
      (d.copyOk c = false → st = 0x11 ∧ e = d) ∧
      (d.copyOk c = true → c.body 1 1 = 0 →
        let r := d.hwRead (c.body 0 1) (c.body 4 8) (c.body 20 4)
        st = r.2.2 ∧ rdBytes e.grnMem (c.body 12 8) r.2.1.length = r.2.1 ∧
          Memory.sameOutside d.grnMem e.grnMem (c.body 12 8) r.2.1.length) ∧
      (d.copyOk c = true → c.body 1 1 ≠ 0 → e.grnMem = d.grnMem ∧ e.jobs = d.jobs ∧ (st = 0 ∨ st = 0x20)))

/-- Tier 2. Tables, descriptors and layouts (R196 to R200, R205, R328). A table goes into the bank that is not active, entry by entry, and
its bank is READY once it is good; descriptors only while the sequencer rests, TENANT the job's; a switch at once only where every tile
named is idle with its other bank READY, else armed; layout entries into the pending table. -/
def Obligations.TableCommands : Prop :=
  ∀ (s : State) (k : Nat) (c : Cmd), let d := s.dev.begin k
    (∀ readback : Bool, s.mayStart k 0x0401 c → ∃ e st, exec (.tableLoad k readback) s = .next (s.onDev (e.final k st 0)) ∧
      (d.jobById c.job = none → st = 0x11 ∧ e = d) ∧
      (∀ j p, d.jobById c.job = some j → d.jobTileOf j (c.body 12 2) = .inl p → j.held = [] → j.abandoned = false →
        let b := c.body 14 1
        let n := valAt c.buf 8 4 % 2 ^ 13
        (1 < b → st = 0x11 ∧ e = d) ∧
        (b ≤ 1 → b = (d.tile p).bank → st = 0x16 ∧ e = d) ∧
        (b ≤ 1 → b ≠ (d.tile p).bank →
          (st = 0 ↔ c.buf.length = 32 + 32 * n ∧ n ≤ 4096 ∧ readback = true ∧ valAt c.buf 4 1 % 32 = j.numCtrl) ∧
          (st ≠ 0 → st = 0x11 ∧ (e.tile p).ready b = false) ∧
          (st = 0 → (∀ i < n, sget 0 (e.tile p).entries (4096 * b + i) = word32 c.buf (i + 1)) ∧
            (∀ x, x / 4096 ≠ b → sget 0 (e.tile p).entries x = sget 0 (d.tile p).entries x) ∧
            ((d.tile p).switchWait = false → (e.tile p).ready b = true ∧ (e.tile p).bank = (d.tile p).bank)) ∧
          (e.tile p).desc = (d.tile p).desc ∧ (∀ x, x ≠ p → e.tile x = d.tile x) ∧ e = { d with tiles := e.tiles }))) ∧
    (s.mayStart k 0x0402 c → ∃ e st, exec (.descWrite k) s = .next (s.onDev (e.final k st 0)) ∧
      (d.jobById c.job = none → st = 0x11 ∧ e = d) ∧
      (∀ j p, d.jobById c.job = some j → d.jobTileOf j (c.body 12 2) = .inl p →
        let first := c.body 14 1
        let n := c.body 15 1 + 1
        let rests := (d.tile p).state = stIDLE ∨ (d.tile p).state = stDONE ∨ (d.tile p).state = stSTOPPED
        (¬ rests → st = 0x02 ∧ e = d) ∧
        (rests → 256 < first + n ∨ c.buf.length < 32 * n → st = 0x11 ∧ e = d) ∧
        (rests → first + n ≤ 256 → 32 * n ≤ c.buf.length → st = 0 ∧
          (∀ i < n, sget 0 (e.tile p).desc (first + i) = BitVec.ofNat 256 (setBits (word32 c.buf i).toNat 245 230 j.tenant)) ∧
          (∀ h, h < first ∨ first + n ≤ h → sget 0 (e.tile p).desc h = sget 0 (d.tile p).desc h) ∧
          (e.tile p).entries = (d.tile p).entries ∧ (∀ x, x ≠ p → e.tile x = d.tile x) ∧ e = { d with tiles := e.tiles }))) ∧
    (s.mayStart k 0x0403 c → c.body 2 1 = 0 → ∃ e st, exec (.tableBankSwitchNow k) s = .next (s.onDev (e.final k st 0)) ∧
      (d.jobById c.job = none → st = 0x11 ∧ e = d) ∧
      (∀ j ps, d.jobById c.job = some j → d.switchTiles j (c.body 0 2) = .inl ps → j.held = [] → j.abandoned = false →
        ((∃ p ∈ ps, (d.tile p).state ≠ stIDLE) → st = 0x02 ∧ e = d) ∧
        ((∀ p ∈ ps, (d.tile p).state = stIDLE) → (∃ p ∈ ps, (d.tile p).ready (1 - (d.tile p).bank) = false) → st = 0x11 ∧ e = d) ∧
        ((∀ p ∈ ps, (d.tile p).state = stIDLE) → (∀ p ∈ ps, (d.tile p).ready (1 - (d.tile p).bank) = true) → st = 0 ∧
          e = { d with tiles := e.tiles } ∧
          (ps.Nodup → ∀ p ∈ ps, (e.tile p).bank = 1 - (d.tile p).bank ∧ (e.tile p).ready (d.tile p).bank = false)))) ∧
    (s.mayStart k 0x0403 c → c.body 2 1 ≠ 0 → ∃ e st, exec (.tableBankSwitchArm k) s = .next (s.onDev (e.final k st 0)) ∧
      (d.jobById c.job = none → st = 0x11 ∧ e = d) ∧
      (∀ j ps, d.jobById c.job = some j → d.switchTiles j (c.body 0 2) = .inl ps →
        (c.body 2 1 ≠ 1 → st = 0x11 ∧ e = d) ∧
        (c.body 2 1 = 1 → st = 0 ∧ (∀ p ∈ ps, (e.tile p).fld tSEQ_STATUS 6 6 = 1 ∧ (e.tile p).bank = (d.tile p).bank) ∧
          e = { d with tiles := e.tiles }))) ∧
    (s.mayStart k 0x0407 c → ∃ e st, exec (.layoutLoad k) s = .next (s.onDev (e.final k st 0)) ∧
      let first := c.body 12 4
      let n := c.body 16 4
      (st ≠ 0 → st = 0x11 ∧ e = d) ∧
      ((d.jobById c.job = none ∨ 65536 < first + n ∨ c.buf.length < 32 * n) → st = 0x11) ∧
      (st = 0 → (∀ i < n, e.layoutNext[first + i]? = some (Layout.ofBytes ((c.buf.drop (32 * i)).take 32))) ∧
        (∀ i, i < first ∨ first + n ≤ i → i < d.layoutNext.length → e.layoutNext[i]? = d.layoutNext[i]?) ∧
        e = { d with layoutNext := e.layoutNext }))

/-- Tier 2. Barrier slots, rings and groups (R238, R244, R250, R307, R342, R446). A buffer too short, no such job or slot: refused; another
tenant's job: ST_AUTH; else the slot holds the image's fields under their masks, the job, and nothing under way; no other slot changes. -/
def Obligations.SlotCommands : Prop :=
  ∀ (s : State) (k : Nat) (c : Cmd), let d := s.dev.begin k
    let g := c.body 12 1
    (s.mayStart k 0x0404 c → ∃ e st, exec (.barrierCfg k) s = .next (s.onDev (e.final k st 0)) ∧
      (c.buf.length < 0x40 ∨ d.jobById (valAt c.buf 4 4) = none ∨ 64 ≤ g → st = 0x11 ∨ st = 0x20) ∧
      (0x40 ≤ c.buf.length → ∀ j, d.jobById (valAt c.buf 4 4) = some j → j.tenant ≠ c.tenant → st = 0x20) ∧
      (st ≠ 0 → e = d) ∧
      (st = 0 → let b := 0x40 * g
        e.rd (dBAR_CFG + b) = valAt c.buf 0 4 &&& 0x7FF ∧ e.rd (dBAR_JOB + b) = valAt c.buf 4 4 ∧ e.rd (dBAR_STATE + b) = 0 ∧
        e.rd (dBAR_HOME_ARRIVED + b) = 0 ∧ (∀ w < 8, e.rd (dBAR_CFG + b + 0x20 + 4 * w) = valAt c.buf (0x20 + 4 * w) 4) ∧
        (∀ off, off < dBAR_CFG + b ∨ dBAR_CFG + b + 0x40 ≤ off → e.rd off = d.rd off) ∧
        e = { d with regs := e.regs, barRanks := sdel d.barRanks g, barSent := sdel d.barSent g })) ∧
    (s.mayStart k 0x0405 c → ∃ e st, exec (.ringCfg k) s = .next (s.onDev (e.final k st 0)) ∧
      (c.buf.length < 0x40 ∨ d.jobById (valAt c.buf 0x0C 4) = none ∨ 16 ≤ g → st = 0x11 ∨ st = 0x20) ∧
      (bit (valAt c.buf 0 4) 30 = true → (bits (valAt c.buf 8 4) 7 0 = 0 ∨ bits (valAt c.buf 8 4) 17 8 = 0 ∨
        512 < bits (valAt c.buf 8 4) 17 8) → st = 0x11 ∨ st = 0x20) ∧
      (st ≠ 0 → e = d) ∧
      (st = 0 → let b := 0x40 * g
        e.rd (dRING_CFG + b) = valAt c.buf 0 4 &&& 0x7FFFFFFF ∧ e.rd (dRING_PEERS + b) = valAt c.buf 4 4 &&& 0x7FFF7FFF ∧
        e.rd (dRING_GEOM + b) = valAt c.buf 8 4 &&& 0x7FFFFFFF ∧ e.rd (dRING_JOB + b) = valAt c.buf 0x0C 4 ∧
        e.rd (dRING_PUSHES + b) = 0 ∧ e.rd (dRING_POPS + b) = 0 ∧ e.rd (dRING_LEFTOVER + b) = 0 ∧
        (bit (valAt c.buf 0 4) 30 = true → e.rd (dRING_STATE + b) = bits (valAt c.buf 8 4) 7 0 + 1) ∧
        (∀ off, off < dRING_CFG + b ∨ dRING_CFG + b + 0x40 ≤ off → e.rd off = d.rd off) ∧ e.grnMem = d.grnMem ∧ e.jobs = d.jobs)) ∧
    (s.mayStart k 0x0406 c → ∃ e st, exec (.groupCfg k) s = .next (s.onDev (e.final k st 0)) ∧
      (c.buf.length < 0x60 ∨ d.jobById (valAt c.buf 4 4) = none ∨ 64 ≤ g → st = 0x11 ∨ st = 0x20) ∧
      (bit (valAt c.buf 0 4) 9 = true → (valAt c.buf 10 2 = 0 ∨ valAt c.buf 12 2 % 2 ^ 15 = 0) → st = 0x11 ∨ st = 0x20) ∧
      (st ≠ 0 → e = d) ∧
      (st = 0 → let b := 0x80 * g
        e.rd (dCOLL_CFG + b) = valAt c.buf 0 4 ∧ e.rd (dCOLL_JOB + b) = valAt c.buf 4 4 ∧
        e.rd (dCOLL_RANKS + b) = valAt c.buf 8 4 &&& 0xFFFF7FFF ∧ e.rd (dCOLL_DEADLINE + b) = valAt c.buf 16 4 ∧
        e.rd (dCOLL_OPEN + b) = 0 ∧ e.rd (dCOLL_SHORT + b) = 0 ∧
        (∀ w < 8, e.rd (dCOLL_MASK + b + 4 * w) = valAt c.buf (0x40 + 4 * w) 4) ∧
        (∀ off, off < dCOLL_CFG + b ∨ dCOLL_CFG + b + 0x80 ≤ off → e.rd off = d.rd off) ∧ e = { d with regs := e.regs }))

/-- Tier 2. Space 0x03 (R297, R301, R305, R497, R498, R513): registers through the Reeve's relay with a latch of their own, entries of
the rank table, the time of day, one record of telemetry, and the two phases of a laser swap. -/
def Obligations.RelayCommands : Prop :=
  ∀ (s : State) (k : Nat) (c : Cmd), let d := s.dev.begin k
    (s.mayStart k 0x0301 c → ∃ e st r, exec (.regRead k) s = .next (s.onDev (e.final k st r)) ∧
      let o := c.body 0 4
      (¬ (o < barEnd ∧ o % 4 = 0) → st = 0x11 ∧ e = d) ∧
      (o < barEnd → o % 4 = 0 → st = 0 ∧ d.sameRegs e [dGLB_STATUS] ∧ e = { d with regs := e.regs, latches := e.latches } ∧
        ((inPortDomain o && d.portsOff) = false →
          (∀ h, highHalf o = some h → r = d.peek o ∧ sget? e.latches (latchKey 1 h) = some (d.peek h)) ∧
          (highHalf o = none → r = (sget? d.latches (latchKey 1 o)).getD (d.peek o) ∧ e.latches = d.latches)))) ∧
    (s.mayStart k 0x0302 c → ∃ e st, exec (.regWrite k) s = .next (s.onDev (e.final k st 0)) ∧
      let o := c.body 0 4
      (¬ (o < barEnd ∧ o % 4 = 0) → st = 0x11 ∧ e = d) ∧
      (∀ (r : RegDesc) (i j : Nat), d.plainWord o = true → findReg devRegs o = some (r, i, j) → c.body 8 4 = 0xFFFFFFFF →
        (let en := match r.enableOff i with | some x => d.fld x 0 0 == 1 | none => false
         ∀ f ∈ r.fields, bits (e.rd o) f.hi f.lo = f.after en d.regLock (bits (d.rd o) f.hi f.lo) (bits (c.body 4 4) f.hi f.lo)) ∧
        d.sameRegs e [o, dGLB_STATUS, dGLB_WE_STICKY, dGLB_WE_STICKY + 4] ∧ e = { d with regs := e.regs })) ∧
    (s.mayStart k 0x0303 c → ∃ e st, exec (.rankSet k) s = .next (s.onDev (e.final k st 0)) ∧
      (st ≠ 0 → st = 0x11 ∧ e = d) ∧
      ((∀ u < 4, ∀ j, sget? d.jobs u = some j → j.id ≠ c.job) ∨ 32768 < c.body 12 2 + c.body 14 2 ∨ c.buf.length < 64 * c.body 14 2 → st = 0x11) ∧
      (st = 0 → e = { d with regs := e.regs } ∧
        (∀ i < c.body 14 2, e.rd (dRANK_PORTS + 0x40 * (c.body 12 2 + i)) = valAt (c.buf.drop (64 * i)) 4 4 ∧
          e.rd (dRANK_MAC_LO + 0x40 * (c.body 12 2 + i)) = valAt (c.buf.drop (64 * i)) 0x20 4) ∧
        ∃ u < 4, e.rd (dJOB_RANKS + 8 * u) = c.job)) ∧
    (s.mayStart k 0x0305 c → ∃ e, exec (.timeSet k) s = .next (s.onDev (e.final k 0 0)) ∧
      e.ptpNs = c.body 0 8 % 2 ^ 63 ∧ e.clock = { d.clock with ptpBase := c.body 0 8 % 2 ^ 63, ptpPs := d.clock.ps } ∧
      bit (e.rd dPTP_STATUS) 4 = true ∧
      (1000000 < ((c.body 0 8 % 2 ^ 63 : Nat) - (d.ptpNs : Int)).natAbs → bit (e.rd dPTP_STATUS) 3 = true) ∧
      d.sameRegs e [dPTP_STATUS] ∧ e = { d.logsOf e with clock := e.clock }) ∧
    (s.mayStart k 0x0901 c → ∃ e st, exec (.telemSample k) s = .next (s.onDev (e.final k st 0)) ∧
      (6 ≤ c.body 12 1 → st = 0x11 ∧ e = d) ∧
      (c.body 12 1 < 6 → st = 0 ∧ d.sameRegs e [dGLB_STATUS] ∧ (let r := d.tsRecord (c.body 12 1) false; e = r.1.putBuf c r.2) ∧
        e = { d with regs := e.regs, hostMem := e.hostMem, latches := e.latches })) ∧
    (s.mayStart k 0x0304 c → c.body 1 1 = 0 → ∃ e st, exec (.laserSwapStart k) s = .next (s.onDev (e.final k st 0)) ∧
      let m := c.body 0 1
      (4 ≤ m → st = 0x11 ∧ e = d) ∧
      (m < 4 → st ≠ 0 → st = 0x02 ∧ e.couplers = d.couplers ∧ e.rd dLASER_CTRL = d.rd dLASER_CTRL) ∧
      (m < 4 → st = 0 → d.laserPresent ((m + 1) % 4) = true ∧ d.laserLit ((m + 1) % 4) = true ∧ d.laserSwapping m = false ∧
        bit (e.rd dLASER_CTRL) (4 + m) = true ∧ e.couplers = d.couplers ++ [(2 * m, true), (2 * m + 1, true)] ∧
        d.sameRegs e [dLASER_CTRL] ∧ e = { d with regs := e.regs, couplers := e.couplers })) ∧
    (s.mayStart k 0x0304 c → c.body 1 1 ≠ 0 → ∃ e st, exec (.laserSwapEnable k) s = .next (s.onDev (e.final k st 0)) ∧
      let m := c.body 0 1
      (4 ≤ m ∨ 1 < c.body 1 1 → st = 0x11 ∧ e = d) ∧
      (m < 4 → c.body 1 1 = 1 → st ≠ 0 → st = 0x02 ∧ e = d) ∧
      (m < 4 → c.body 1 1 = 1 → st = 0 → d.laserSwapping m = true ∧ d.laserPresent m = true ∧
        (∃ ps, sget? d.laserPs m = some ps ∧ ps + 1000000000000 ≤ d.clock.ps) ∧ bit (e.rd dLASER_STATUS) (8 + m) = false))

/-- Tier 2. Orders to the Granary and the integrity block (R265, R267, R268, R385, R394): a page's and a stack's retirement ordered once,
refused beyond what can be held; a quarantined tile comes back only where its tests pass; the first-failure area is emptied. -/
def Obligations.OrderCommands : Prop :=
  ∀ (s : State) (k : Nat) (c : Cmd), let d := s.dev.begin k
    (s.mayStart k 0x0501 c → ∃ e st, exec (.retirePage k) s = .next (s.onDev (e.final k st 0)) ∧
      let x := c.body 0 1
      let g := c.body 4 4
      (24 ≤ x ∨ d.progPages ≤ g → st = 0x11 ∧ e = d) ∧
      (x < 24 → g < d.progPages →
        ((d.stack x).orders.contains g = true ∨ (∃ r ∈ d.remaps x, r.src = g) → st = 0x01 ∧ e = d) ∧
        ((d.stack x).orders.contains g = false → (∀ r ∈ d.remaps x, r.src ≠ g) →
          (8 ≤ (d.stack x).orders.length + (if (d.stack x).copying.isSome then 1 else 0) → st = 0x02 ∧ e = d) ∧
          (st = 0x01 → (e.stack x).orders = (d.stack x).orders ++ [g] ∧ (∀ y, y ≠ x → e.stack y = d.stack y) ∧
            e = { d with grnStacks := e.grnStacks }) ∧
          (st ≠ 0x01 → st ≠ 0x02 → st = 0x33 ∧ bit (e.rd (grnOff dGRN_STATUS x)) 5 = true ∧ e.grnStacks = d.grnStacks)))) ∧
    (s.mayStart k 0x0502 c → ∃ e st, exec (.retireStack k) s = .next (s.onDev (e.final k st 0)) ∧
      let x := c.body 0 1
      (24 ≤ x → st = 0x11 ∧ e = d) ∧
      (x < 24 →
        (d.stackRet = some (.ordered x) ∨ d.retiredStack = some x → st = 0x01 ∧ e = d) ∧
        (d.stackRet ≠ some (.ordered x) → d.retiredStack ≠ some x → d.stackMayRetire x = true →
          st = 0x01 ∧ e = { d with stackRet := some (.ordered x) }) ∧
        (d.stackRet ≠ some (.ordered x) → d.retiredStack ≠ some x → d.stackMayRetire x = false →
          st = 0x33 ∧ e.failed = true ∧ bit (e.rd (grnOff dGRN_STATUS x)) 5 = true ∧ e.stackRet = d.stackRet))) ∧
    (∀ ok : Bool, s.mayStart k 0x0503 c → ∃ e st, exec (.quarantineRelease k ok) s = .next (s.onDev (e.final k st 0)) ∧
      let p := c.body 12 2
      (272 ≤ p ∨ p ∈ d.fuses.fusedOff → st = 0x12 ∧ e = d) ∧
      (p < 272 → p ∉ d.fuses.fusedOff → d.fld (dPHYS_STATE + 4 * p) 2 0 ≠ 3 → st = 0x11 ∧ e = d) ∧
      (p < 272 → p ∉ d.fuses.fusedOff → d.fld (dPHYS_STATE + 4 * p) 2 0 = 3 →
        (e.tile p).loft = [] ∧
        (ok = true → st = 0 ∧ e.fld (dPHYS_STATE + 4 * p) 2 0 = 1 ∧ p ∉ e.persist.quarantine ∧
          ∀ q, q ≠ p → q ∈ d.persist.quarantine → q ∈ e.persist.quarantine) ∧
        (ok = false → st = 0x32 ∧ e.persist.quarantine = d.persist.quarantine))) ∧
    (s.mayStart k 0x0504 c → ∃ e, exec (.firstFailureClear k) s = .next (s.onDev (e.final k 0 0)) ∧
      bit (e.rd dDBK_FF) 0 = false ∧ e.integ.ffLeft = 0 ∧
      (∀ i, 16384 ≤ i → i < 17408 → sget 0 e.integ.daybook i = 0) ∧
      (∀ i, i < 16384 ∨ 17408 ≤ i → sget 0 e.integ.daybook i = sget 0 d.integ.daybook i) ∧
      d.sameRegs e [] ∧ e = { d with regs := e.regs, integ := e.integ })

/-- Tier 2. Commands of persistence (R406, R407, R412, R417, R418, R420, R423, R426): a parity group and a before-image area of a job, a
snapshot ordered, allotments released, generations carried out and in, and a job put back to a step by RECOVER or RESTORE. -/
def Obligations.PersistenceCommands : Prop :=
  ∀ (s : State) (k : Nat) (c : Cmd), let d := s.dev.begin k
    (∀ base n : Nat, s.mayStart k 0x0601 c → ∃ e st, exec (.parityCfg k base n) s = .next (s.onDev (e.final k st 0)) ∧
      (st ≠ 0 → (st = 0x02 ∨ st = 0x11) ∧ e = d) ∧
      (∀ j, d.jobById c.job = some j → j.busy = true → st = 0x02) ∧
      (∀ j u, d.inSlot c.job u j → st = 0 → 3 ≤ c.body 0 1 ∧ c.body 0 1 ≤ 8 ∧ c.body 1 1 < c.body 0 1 ∧ e.parG u = c.body 0 1 ∧
        e.parPos u = c.body 1 1 ∧ e.parRank u (e.parPos u) = j.rank ∧ e.rd (slotReg dPAR_CHUNKS u) = n % 2 ^ 32)) ∧
    (s.mayStart k 0x0605 c → ∃ e st, exec (.biResize k) s = .next (s.onDev (e.final k st 0)) ∧
      (st ≠ 0 → st = 0x11 ∧ e = d) ∧
      (∀ j u, d.inSlot c.job u j →
        (st = 0 → j.before.length + j.beforeNext.length ≤ c.body 8 4 ∧ d.areaOk j.tenant (c.body 0 8) (c.body 8 4 * chunkBytes) = true ∧
          e.rd (slotReg dBI_BASE u) = c.body 0 8 / 4096 % 2 ^ 32 ∧ e.rd (slotReg dBI_SIZE u) = c.body 8 4 ∧
          d.sameRegs e [slotReg dBI_BASE u, slotReg dBI_SIZE u] ∧ e = { d with regs := e.regs }))) ∧
    (s.mayStart k 0x0602 c → ∃ e st, exec (.snapNow k) s = .next (s.onDev (e.final k st 0)) ∧
      (d.jobById c.job = none → st = 0x11 ∧ e = d) ∧
      (∀ j, d.jobById c.job = some j →
        (d.jobAllot j = none → st = 0x39 ∧ e = d) ∧
        ((d.jobAllot j).isSome → d.fld dSLO_STATUS 0 0 = 1 → st = 0x36 ∧ e = d) ∧
        ((d.jobAllot j).isSome → d.fld dSLO_STATUS 0 0 = 0 → st = 0 ∧ e.jobById c.job = some { j with snapNow := true } ∧
          e = { d with jobs := e.jobs }))) ∧
    (∀ (m : Nat) (lost : Bool) (mem : List (Nat × Nat)) (full : Bool), s.mayStart k 0x0603 c →
      ∃ e st, exec (.recover k m lost mem full) s = .next (s.onDev (e.final k st 0)) ∧
      (d.jobById c.job = none → st = 0x11 ∧ e = d) ∧
      (∀ j u, d.inSlot c.job u j →
        (d.jobQuiet j.id = false → st = 0x02 ∧ e = d) ∧
        (d.jobQuiet j.id = true → (c.body 0 2 ≠ (d.fld dLAYOUT_EPOCH 15 0 + 1) % 2 ^ 16 ∨ j.mayRecover m = false) → st = 0x11 ∧ e = d) ∧
        (d.jobQuiet j.id = true → c.body 0 2 = (d.fld dLAYOUT_EPOCH 15 0 + 1) % 2 ^ 16 → j.mayRecover m = true →
          (lost = true → st = 0x38 ∧ bit (e.rd dSLO_STATUS) 4 = true) ∧
          (lost = false → st = 0 ∧ ∃ j', sget? e.jobs u = some j' ∧ j'.id = j.id ∧ j'.step = m ∧
            (j'.running = true ∨ j'.abandoned = true))))) ∧
    (∀ akOk : Bool, s.mayStart k 0x0604 c → ∃ (e : Dev) (st : Nat), exec (.restore k akOk) s = .next (s.onDev (e.final k st 0)) ∧
      (d.jobById c.job = none → st = 0x11) ∧
      (∀ j u, d.inSlot c.job u j → j.held = [] → j.abandoned = false →
        (st ≠ 0 → (st = 0x02 ∨ st = 0x11 ∨ st = 0x35) ∧ e.grnMem = d.grnMem ∧ e.jobs = d.jobs) ∧
        (j.running = true → st = 0x02) ∧
        (st = 0 → akOk = true ∧ ∃ (g : Gen) (b : List (Nat × Nat) × List Nat) (j' : Job), (d.jobAllot j).bind (fun a => a.genAt (c.body 12 4)) = some g ∧
          d.openBlob j g.seq (valAt g.record 22 2) (toNats (g.image.drop (g.image.length - 4096))) = some b ∧
          sget? e.jobs u = some j' ∧ j'.step = c.body 12 4 ∧ j'.keys = b.1 ∧ j'.chain = b.2 ∧ j'.replay = true ∧ j'.before = [] ∧
          j'.committed = true ∧ j'.running = false))) ∧
    (s.mayStart k 0x0606 c → ∃ e st, exec (.allotRelease k) s = .next (s.onDev (e.final k st 0)) ∧
      ((d.jobById c.job).isSome → st = 0x02 ∧ e = d) ∧
      (d.jobById c.job = none → d.allotOf c.job c.tenant = none → st = 0x11 ∧ e = d) ∧
      (d.jobById c.job = none → ∀ a, d.allotOf c.job c.tenant = some a → st = 0 ∧ sget? e.persist.silo.allots c.job = none ∧
        (∀ i, i ≠ c.job → sget? e.persist.silo.allots i = sget? d.persist.silo.allots i) ∧
        e.fld dSLO_FREE 12 0 = (d.fld dSLO_FREE 12 0 + a.extents) % 2 ^ 13 ∧ d.sameRegs e [dSLO_FREE])) ∧
    (s.mayStart k 0x0607 c → ∃ e st, exec (.exportGen k) s = .next (s.onDev (e.final k st 0)) ∧
      (d.ownWindow c (c.body 0 1) = false ∨ c.body 4 8 % 4096 ≠ 0 → st = 0x11 ∧ e = d) ∧
      (d.ownWindow c (c.body 0 1) = true → c.body 4 8 % 4096 = 0 →
        (d.allotOf c.job c.tenant).bind (fun a => a.genAt (c.body 12 4)) = none → st = 0x35 ∧ e = d) ∧
      e.persist = d.persist ∧ e.grnMem = d.grnMem ∧ e.jobs = d.jobs) ∧
    (s.mayStart k 0x0608 c → ∃ e st, exec (.importGen k) s = .next (s.onDev (e.final k st 0)) ∧
      (d.ownWindow c (c.body 0 1) = false ∨ c.body 4 8 % 4096 ≠ 0 → st = 0x11 ∧ e = d) ∧
      (st ≠ 0 → e.persist = d.persist) ∧
      (st = 0 → ∃ (a : Allot) (g : Gen), d.allotOf c.job c.tenant = some a ∧ g.marker = true ∧
        e.allotOf c.job c.tenant = some { a with gens := a.gens.filter (fun x => x.1 != a.olderSlot) ++ [(a.olderSlot, g)] }) ∧
      e.grnMem = d.grnMem ∧ e.jobs = d.jobs)

/-- Tier 2. Sessions, reports and partitions (R445, R448, R449): a report is remembered with its time; a session opens on a report not
older than 60 s while fewer than eight are open; the close ends the session and frees its tenant's partitions; a partition is zeroed
before it is granted and as it is freed, and overlaps no other. -/
def Obligations.TenantCommands : Prop :=
  ∀ (s : State) (k : Nat) (c : Cmd), let d := s.dev.begin k
    (s.mayStart k 0x0701 c → ∃ e st, exec (.attest k) s = .next (s.onDev (e.final k st 0)) ∧
      (c.buf.length < 32 → st = 0x11 ∧ e = d) ∧
      (32 ≤ c.buf.length → st = 0 ∧
        e.trust = { d.trust with report := some ⟨d.clock.ps, sha384 (d.reportBody (toNats (c.buf.take 32)) d.freeCtr), d.freeCtr⟩ } ∧
        e = { d with trust := e.trust, hostMem := e.hostMem, freeCtr := d.freeCtr + 1 })) ∧
    (s.mayStart k 0x0702 c → ∃ e st r, exec (.sessionOpen k) s = .next (s.onDev (e.final k st r)) ∧
      (c.buf.length < 1713 → st = 0x11 ∧ e = d) ∧
      (1713 ≤ c.buf.length → d.trust.report = none → st = 0x20) ∧
      (∀ x, d.trust.report = some x → 1713 ≤ c.buf.length →
        (x.ps + 60000000000000 < d.clock.ps → st = 0x20) ∧
        (d.clock.ps ≤ x.ps + 60000000000000 → 8 ≤ d.trust.sessions.length → st = 0x22 ∧ e = d)) ∧
      (st ≠ 0 → e.trust.sessions = d.trust.sessions ∧ e.parts = d.parts) ∧
      (st = 0 → d.trust.sessions.length < 8 ∧ e.trust.report = none ∧ e.rd dTC_SESSIONS = d.trust.sessions.length + 1 ∧
        ∃ x : Session, e.trust.sessions = d.trust.sessions ++ [x] ∧ x.tenant = r ∧ x.low = 0 ∧ x.seen = [] ∧
          ∀ y ∈ d.trust.sessions, y.trk ≠ x.trk)) ∧
    (s.mayStart k 0x0703 c →
      ((∃ x ∈ d.jobs, x.2.tenant = c.tenant) → exec (.sessionClose k) s = .next (s.onDev (d.final k 0x24 0))) ∧
      ((∀ x ∈ d.jobs, x.2.tenant ≠ c.tenant) → ∃ s', exec (.sessionClose k) s = .next s' ∧ sget? s'.dev.cmds k = none ∧
        s'.dev.trust.sessions = d.trust.sessions.filter (fun x => x.tenant != c.tenant) ∧
        s'.dev.rd dTC_SESSIONS = s'.dev.trust.sessions.length % 2 ^ 32 ∧ (∀ p ∈ s'.dev.parts, p.tenant ≠ c.tenant))) ∧
    (s.mayStart k 0x0704 c → ∃ e st, exec (.partAlloc k) s = .next (s.onDev (e.final k st 0)) ∧
      let base := c.body 0 2
      let size := c.body 2 2
      (st ≠ 0 → (st = 0x11 ∨ st = 0x15 ∨ st = 0x02) ∧ e = d) ∧
      (size = 0 ∨ d.top < gib (base + size) → st = 0x11) ∧
      (st = 0 → (∀ p ∈ d.parts, p.base + p.size ≤ gib base ∨ gib (base + size) ≤ p.base) ∧
        e.parts = d.parts ++ [⟨c.tenant, gib base, gib size⟩] ∧
        (∀ a, gib base ≤ a → a < gib (base + size) → rdByte e.grnMem a = 0) ∧
        Memory.sameOutside d.grnMem e.grnMem (gib base) (gib size) ∧
        (∃ n < 16, bits (d.rd (dTC_PART + 16 * n)) 21 11 = 0 ∧ e.rd (dTC_PART + 16 * n) = base + size * 2 ^ 11 ∧
          e.rd (dTC_PART_HI + 16 * n) = c.tenant ∧ d.sameRegs e [dTC_PART + 16 * n, dTC_PART_HI + 16 * n]) ∧
        e = { d with regs := e.regs, grnMem := e.grnMem, grnErr := e.grnErr, parts := e.parts })) ∧
    (s.mayStart k 0x0705 c → ∃ e st, exec (.partFree k) s = .next (s.onDev (e.final k st 0)) ∧
      ((∀ p ∈ d.parts, ¬ (p.tenant = c.tenant ∧ p.base = gib (c.body 0 2))) → st = 0x11 ∧ e = d) ∧
      (∀ p, d.parts.find? (fun p => p.tenant == c.tenant && p.base == gib (c.body 0 2)) = some p → st = 0 ∧
        e.parts = d.parts.filter (fun q => q.base != p.base) ∧ (∀ a, p.base ≤ a → a < p.base + p.size → rdByte e.grnMem a = 0) ∧
        Memory.sameOutside d.grnMem e.grnMem p.base p.size ∧
        e = { d with regs := e.regs, grnMem := e.grnMem, grnErr := e.grnErr, parts := e.parts }))

/-- Tier 2. The owner's commands (R430, R440, R441, R443, R455, R461): each is refused with ST_LOCKED under its lock; an image goes into the
slot its class was not booted from; the minimum SVN only grows; a claim succeeds only on a device without owner and with the claim
code; locks only add; a configuration is written into the slot not in use and waits; an installed key replaces that of its port and
direction. -/
def Obligations.OwnerCommands : Prop :=
  ∀ (s : State) (k : Nat) (c : Cmd), let d := s.dev.begin k
    let b := toNats (c.buf.drop ownerArea)
    (s.mayStart k 0x0706 c → c.body 12 1 < s.dev.persist.images.length → ∃ s', exec (.fwLoad k) s = .next s' ∧
      let cls := c.body 12 1
      let x := imageOf b
      (bit (d.rd dTC_LOCK) 0 = true ∨ d.loadStatus cls x ≠ 0 → s'.dev.persist = d.persist ∧ sget? s'.dev.cmds k = none) ∧
      (bit (d.rd dTC_LOCK) 0 = false → d.loadStatus cls x = 0 →
        s'.dev.imagesOf cls = (if d.trust.booted.getD cls 2 = 0 then ((d.imagesOf cls).1, some x.2) else (some x.2, (d.imagesOf cls).2)) ∧
        (∀ i, i ≠ cls → s'.dev.imagesOf i = d.imagesOf i) ∧
        (cls = 0 ∨ d.anyJob = false → sget? s'.dev.cmds k = none) ∧
        (cls ≠ 0 → d.anyJob = true → s'.dev.stands k ∧ s'.dev.trust.staged = d.trust.staged ++ [(cls, x.2)]))) ∧
    (s.mayStart k 0x0707 c → s.dev.persist.svn.length = 4 → ∃ e st, exec (.fuseSvn k) s = .next (s.onDev (e.final k st 0)) ∧
      let cls := c.body 12 1
      (bit (d.rd dTC_LOCK) 3 = true → st = 0x13 ∧ e.persist = d.persist) ∧
      (bit (d.rd dTC_LOCK) 3 = false → (4 ≤ cls ∨ d.bootedImage cls = none) → st = 0x11 ∧ e = d) ∧
      (bit (d.rd dTC_LOCK) 3 = false → cls < 4 → ∀ i, d.bootedImage cls = some i → st = 0 ∧
        e.minSvn cls = max (d.minSvn cls) i.svn ∧ (∀ j, j ≠ cls → e.minSvn j = d.minSvn j) ∧ d.sameRegs e [dTC_SVN_A, dTC_SVN_B])) ∧
    (s.mayStart k 0x0708 c → ∃ e st, exec (.ownerClaim k) s = .next (s.onDev (e.final k st 0)) ∧
      let q := toNats c.buf
      (q.length < 16 + ownerKeyBytes → st = 0x11 ∧ e = d) ∧
      (16 + ownerKeyBytes ≤ q.length →
        (d.persist.owner.isSome ∨ 8 ≤ d.trust.claims → st = 0x20 ∧ e.persist = d.persist ∧ e.trust.claims = d.trust.claims) ∧
        (d.persist.owner = none → d.trust.claims < 8 → q.take 10 = claimCode →
          st = 0 ∧ e.persist.owner = some ⟨(q.drop 16).take ownerKeyBytes, 0⟩ ∧ bit (e.rd dTC_STATUS) 3 = true) ∧
        (d.persist.owner = none → d.trust.claims < 8 → q.take 10 ≠ claimCode →
          st = 0x20 ∧ e.persist = d.persist ∧ e.trust.claims = d.trust.claims + 1 ∧ bit (e.rd dTC_FLAGS) 0 = true))) ∧
    (s.mayStart k 0x0709 c → ∃ e st, exec (.ownerTransfer k) s = .next (s.onDev (e.final k st 0)) ∧
      (bit (d.rd dTC_LOCK) 2 = true → st = 0x13 ∧ e.persist = d.persist) ∧
      (bit (d.rd dTC_LOCK) 2 = false → b.length < ownerKeyBytes + 8 → st = 0x11 ∧ e = d) ∧
      (bit (d.rd dTC_LOCK) 2 = false → ownerKeyBytes + 8 ≤ b.length → st = 0 ∧
        e.persist.owner = some ⟨b.take ownerKeyBytes, bytesNat ((b.drop ownerKeyBytes).take 8)⟩)) ∧
    (s.mayStart k 0x070A c → ∃ e st, exec (.lockBits k) s = .next (s.onDev (e.final k st 0)) ∧
      (64 ≤ c.body 12 1 → st = 0x11 ∧ e = d) ∧
      (c.body 12 1 < 64 → st = 0 ∧ e.rd dTC_LOCK = d.rd dTC_LOCK ||| c.body 12 1 ∧ d.sameRegs e [dTC_LOCK])) ∧
    (s.mayStart k 0x0306 c → ∃ e st, exec (.cfgWrite k) s = .next (s.onDev (e.final k st 0)) ∧
      let n := bytesNat (b.take 4)
      (bit (d.rd dTC_LOCK) 1 = true → st = 0x13 ∧ e.integ.daybook = d.integ.daybook) ∧
      (bit (d.rd dTC_LOCK) 1 = false → (n % 16 ≠ 0 ∨ 431 * 64 < n ∨ b.length < 4 + n) → st = 0x11 ∧ e = d) ∧
      (bit (d.rd dTC_LOCK) 1 = false → n % 16 = 0 → n ≤ 431 * 64 → 4 + n ≤ b.length →
        let sl := if d.fld dCFG_STATUS 3 3 = 1 then 0 else 1 - d.fld dCFG_STATUS 0 0
        st = 0 ∧ e.fld dCFG_STATUS 4 4 = 1 ∧ e.fld dCFG_STATUS 0 0 = d.fld dCFG_STATUS 0 0 ∧
        e.slotHeader sl = some ((d.rd dCFG_SEQ_LO + d.rd dCFG_SEQ_HI * 2 ^ 32 + 1) % 2 ^ 64, n) ∧
        (∀ i, i < slotBase sl ∨ slotBase sl + 512 ≤ i → sget 0 e.integ.daybook i = sget 0 d.integ.daybook i) ∧
        d.sameRegs e [dCFG_STATUS] ∧ e = { d with regs := e.regs, integ := e.integ })) ∧
    (s.mayStart k 0x0307 c → ∃ e st, exec (.sakInstall k) s = .next (s.onDev (e.final k st 0)) ∧
      let port := b.headD 0
      let dir := (b.drop 1).headD 0
      (b.length < 40 ∨ 32 ≤ port ∨ 2 ≤ dir ∨ 4 ≤ (b.drop 2).headD 0 ∨ d.direct (port / 4) (port % 4) = true → st = 0x11 ∧ e = d) ∧
      (40 ≤ b.length → port < 32 → dir < 2 → (b.drop 2).headD 0 < 4 → d.direct (port / 4) (port % 4) = false → st = 0 ∧
        e.persist = { d.persist with saks := d.persist.saks.filter (fun x => !(x.headD 0 == port && (x.drop 1).headD 0 == dir)) ++
          [b.take 3 ++ (b.drop 4).take 36] } ∧
        d.sameRegs e [psOff (port / 4) (port % 4)] ∧ e = { d with regs := e.regs, persist := e.persist }))

/-- Tier 2. JOB_START (R509, R510): a descriptor that is not whole or that a check refuses starts no job; else the lowest free slot holds
the job at its first step, not running, and GLB_JOB_u names it; the other slots stay as they are. -/
def Obligations.JobsStart : Prop :=
  ∀ (s : State) (k : Nat) (c : Cmd) (kcvOk : Bool), s.mayStart k 0x0101 c → let d := s.dev.begin k
    ∃ e st r, exec (.jobStart k kcvOk) s = .next (s.onDev (e.final k st r)) ∧
      let n := c.body 12 4
      (c.buf.length < n ∨ 1 < c.body 16 1 ∨ (c.buf.length - n) % 64 ≠ 0 ∨ jobItems (c.buf.take n) = none → st = 0x11 ∧ e = d) ∧
      (st ≠ 0 → e.jobs = d.jobs ∧ e.tiles = d.tiles ∧ e.grnMem = d.grnMem ∧ e.persist = d.persist) ∧
      (st = 0 → ∃ is job, jobItems (c.buf.take n) = some is ∧ d.freeSlot = some r ∧ sget? e.jobs r = some job ∧
        (let j := JobDesc.ofItems is
         (∀ l ∈ maskTiles j.tiles, l < d.gradeTiles ∧ d.tileTaken l = false ∧ (d.physOf l).isSome) ∧ d.jobById c.job = none ∧
         j.bad d c.tenant = false ∧ kcvOk = true ∧
         job.id = c.job ∧ job.tenant = c.tenant ∧ job.tiles = j.tiles ∧ job.step = j.first ∧ job.rank = j.rank ∧
         job.keys = j.keys ∧ job.running = false ∧ job.held = [] ∧ job.committed = true) ∧
        (∀ u, u ≠ r → sget? e.jobs u = sget? d.jobs u) ∧ e.rd (dGLB_JOB + 4 * r) = c.job)

/-- Tier 2. STEP and GENERATE (R35, R122, R384): refused without its job, once the job ends, after the last step of all, or while a
logical tile has no tile; else held while the step before still runs, and released as soon as it may be: the job runs the command's
step with its data cursor, and answers it at the boundary. -/
def Obligations.StepsReleased : Prop :=
  ∀ (s : State) (k : Nat) (c : Cmd), ∀ x ∈ [(0x0102, Instr.step k), (0x0103, Instr.generate k)],
    (s.mayStart k x.1 c → let d := s.dev.begin k
      ∃ s', exec x.2 s = .next s' ∧
      (d.jobById c.job = none → s'.dev = d.final k 0x11 0) ∧
      (∀ j, d.jobById c.job = some j →
        let last := j.ending.isSome || (x.1 == 0x0102 && j.lastStep == some 0xFFFFFFFF)
        (last = true → s'.dev = d.final k 0x11 0) ∧
        (last = false → d.lacksTile j = true → s'.dev = d.final k 0x34 0) ∧
        (last = false → d.lacksTile j = false → d.mayRelease j = false → s'.dev.stands k ∧
          ∃ j', s'.dev.jobById c.job = some j' ∧ j'.held = j.held ++ [k] ∧ j'.step = j.step ∧ j'.running = j.running) ∧
        (∀ u, d.inSlot c.job u j → last = false → d.mayRelease j = true → j.abandoned = false → j.held = [] →
          ∃ j', sget? s'.dev.jobs u = some j' ∧ j'.running = true ∧ j'.step = c.body 0 4 ∧ j'.cursor = c.body 4 8 ∧ j'.cmd = some k ∧
            j'.held = []))) ∧
    (∀ u j, sget? s.dev.cmds k = some c → c.op = x.1 → s.dev.inSlot c.job u j → s.dev.stepHeld k c = true →
      ∃ s' j', exec x.2 s = .next s' ∧ sget? s'.dev.jobs u = some j' ∧ j'.running = true ∧ j'.step = c.body 0 4 ∧
        j'.cursor = c.body 4 8 ∧ j'.cmd = some k ∧ j'.held = j.held.drop 1)

/-- Tier 2. The end of a job, a re-shard, and the urgent commands (R195, R324, R330, R333, R334, R338, R505, R508). A job ends once its tables have
ended, and its slot, its tiles and its fences are free; till then the command stands. A re-shard is ordered once, for a boundary to
come and the next epoch, and stands until it. A halt stops every tile of the jobs it names; a fence or drain stands for each of them
until it is reported complete; a lift takes their fences away; none of them acts where no job is named. -/
def Obligations.JobsEndAndHalt : Prop :=
  ∀ (s : State) (k : Nat) (c : Cmd),
    (s.mayStart k 0x0105 c → let d := s.dev.begin k
      ∃ s', exec (.jobEnd k) s = .next s' ∧
      (d.jobById c.job = none → s'.dev = d.final k 0x11 0) ∧
      (∀ j u, d.inSlot c.job u j →
        (j.ending.isSome → j.ending ≠ some k → s'.dev = d.final k 0x11 0) ∧
        (j.ending = none → d.tablesEnded j = false → s'.dev.stands k ∧ ∃ j', s'.dev.jobById c.job = some j' ∧ j'.ending = some k) ∧
        (j.ending = none → d.tablesEnded j = true → sget? s'.dev.cmds k = none ∧ sget? s'.dev.jobs u = none ∧
          (∀ p, (s'.dev.tile p).job ≠ c.job) ∧ (∀ f ∈ s'.dev.fences, f.job ≠ c.job)))) ∧
    (∀ j u, sget? s.dev.cmds k = some c → c.op = 0x0105 → s.dev.inSlot c.job u j → s.dev.endReady k c = true →
      ∃ s', exec (.jobEnd k) s = .next s' ∧ sget? s'.dev.cmds k = none ∧ sget? s'.dev.jobs u = none ∧
        (∀ p, (s'.dev.tile p).job ≠ c.job) ∧ (∀ f ∈ s'.dev.fences, f.job ≠ c.job)) ∧
    (∀ width : Nat, s.mayStart k 0x0104 c → let d := s.dev.begin k
      ∃ s', exec (.reshard k width) s = .next s' ∧
      (d.jobById c.job = none → s'.dev = d.final k 0x11 0) ∧
      (∀ j, d.jobById c.job = some j →
        let good := !j.passed (c.body 0 4) && c.body 4 2 == (d.fld dLAYOUT_EPOCH 15 0 + 1) % 2 ^ 16 && c.body 6 2 ≤ 0x1FF &&
          !(j.rounded && width != j.width)
        (j.reshard.isSome → s'.dev = d.final k 0x02 0) ∧
        (j.reshard = none → good = false → s'.dev = d.final k 0x11 0) ∧
        (j.reshard = none → good = true → s'.dev.stands k ∧
          s'.dev.jobById c.job = some { j with reshard := some ⟨c.body 0 4, c.body 4 2, c.body 6 2, k⟩ } ∧ s'.dev.tiles = d.tiles))) ∧
    (let d := s.dev.begin k
    let js := d.namedJobs c.job
    (s.mayStart k 0x0F01 c → ∃ e st, exec (.halt k) s = .next (s.onDev (e.final k st 0)) ∧
      (js = [] → st = 0x11 ∧ e = d) ∧
      (js ≠ [] → st = 0 ∧ (∀ id ∈ js, ∀ p ∈ d.jobTiles id, (e.tile p).state = stHALTED) ∧
        (∀ id ∈ js, ∀ j, e.jobById id = some j → j.halted = true))) ∧
    (∀ x ∈ [(0x0F02, false, Instr.fence k), (0x0F03, true, Instr.drain k)], s.mayStart k x.1 c → ∃ s', exec x.2.2 s = .next s' ∧
      (js = [] ∨ 1 < c.body 0 1 → s'.dev = d.final k 0x11 0) ∧
      (js ≠ [] → c.body 0 1 ≤ 1 → s'.dev.stands k ∧ bit (s'.dev.rd dBND_STATUS) 5 = true ∧
        s'.dev.fences = d.fences ++ js.map (fun id => ⟨id, c.scope, x.2.1, false⟩))) ∧
    (s.mayStart k 0x0F04 c → ∃ e st, exec (.fenceLift k) s = .next (s.onDev (e.final k st 0)) ∧
      (js = [] → st = 0x11 ∧ e = d) ∧
      (js ≠ [] → st = 0 ∧ e.fences = d.fences.filter (fun f => !js.contains f.job))))


/-- Tier 2. SLEEP, DEEP_SLEEP, OFF and WAKE_TIMER (R448, R522, R523, R525 to R527): refused for a mask beyond the sources, with a job slot
in use, or in a state they do not leave; else answered first, and the entry begins: not ready, the wakes asked for and those that
always act. Sessions and partitions end but in Sleep. -/
def Obligations.PowerCommands : Prop :=
  ∀ (s : State) (k : Nat) (c : Cmd), let d := s.dev.begin k
    (∀ x ∈ [(0x0801, 5, Instr.sleep k), (0x0802, 6, Instr.deepSleep k), (0x0803, 7, Instr.powerOff k)], s.mayStart k x.1 c →
      let mask := c.body 0 1
      let may := d.anyJob = false ∧ (d.pstate = 0 ∨ d.pstate = 1 ∨ (d.pstate = 2 ∧ x.2.1 ≠ 5))
      ∃ s', exec x.2.2 s = .next s' ∧ sget? s'.dev.cmds k = none ∧
      (64 ≤ mask → s'.dev = d.final k 0x11 0) ∧
      (mask < 64 → ¬ may → s'.dev = d.final k 0x02 0) ∧
      (mask < 64 → may → s'.dev.pstate = x.2.1 ∧ s'.dev.fld dGLB_START 0 0 = 0 ∧ s'.dev.fld dHK_WAKE 13 8 = mask ||| 5 ∧
        s'.dev.power.wakes = 0 ∧ s'.dev.tiles = d.tiles ∧ s'.dev.grnMem = d.grnMem ∧ s'.dev.persist = d.persist ∧
        (x.2.1 = 5 → s'.dev.trust = d.trust ∧ s'.dev.parts = d.parts) ∧
        (x.2.1 ≠ 5 → s'.dev.trust.sessions = [] ∧ s'.dev.parts = [] ∧ s'.dev.rd dTC_SESSIONS = 0))) ∧
    (s.mayStart k 0x0804 c → ∃ e, exec (.wakeTimer k) s = .next (s.onDev (e.final k 0 0)) ∧
      e.rd dHK_TIMER = c.body 0 4 ∧ e.power = { d.power with timerPs := d.clock.ps } ∧
      d.sameRegs e (dHK_TIMER :: (List.range 8).map (fun i => dRES_HOLDER + 4 * i)) ∧
      (c.body 0 4 = 0 → e.holds 0 0x002 0 = false) ∧ e = { d with regs := e.regs, power := e.power })

/-- Tier 2. Power states and wakes (R521, R524, R526 to R530, R532). An entry ends in its state, or starts the exit at once where a wake came
during it; Off loses the Granary, Deep sleep the tiles; a wake starts the exit of the state that is entered, with its source noted, and does
nothing in Run and Idle; the exit from Sleep ends in Run with the PTP clock on the standby time. -/
def Obligations.PowerStates : Prop :=
  ∀ s : State, let d := s.dev
    (5 ≤ d.pstate → d.pstate ≤ 7 → ∃ s', exec .powerStateEntryDone s = .next s' ∧
      s'.dev.pstate = (if d.power.wakes = 0 then d.pstate - 3 else d.pstate + 3) ∧
      (d.power.wakes ≠ 0 → s'.dev.fld dHK_LAST_WAKE 2 0 = lowestWake d.power.wakes) ∧ s'.dev.power.wakes = 0 ∧
      (d.pstate ≠ 7 → s'.dev.grnMem = d.grnMem) ∧ (d.pstate = 7 → s'.dev.grnMem = []) ∧
      (6 ≤ d.pstate → s'.dev.tiles = [] ∧ s'.dev.trust.sessions = []) ∧ s'.dev.persist.silo = d.persist.silo) ∧
    (d.pstate = 8 → ∃ s', exec .sleepExitDone s = .next s' ∧ s'.dev.pstate = 0 ∧ s'.dev.clock.ptpRun = true ∧ s'.dev.power.tclk = true ∧
      s'.dev.ptpNs = d.stbyNs ∧
      (s'.dev.fld dGLB_START 0 0 = 1 ↔ d.recovery = false ∧ d.allMapped = true ∧ d.fld dGLB_START 4 1 = 8)) ∧
    (d.mayIdle = true → ∃ s', exec .idleEntry s = .next s' ∧ s'.dev.pstate = 1 ∧ s'.dev.power.tclk = false ∧
      d.power.idlePs + d.fld dHK_IDLE 15 0 * 1000000 ≤ s'.dev.clock.ps ∧ d.sameRegs s'.dev [dHK_PSTATE] ∧
      s'.dev = { d with regs := s'.dev.regs, clock := s'.dev.clock, power := s'.dev.power }) ∧
    (d.power.stby = true → ∃ s', exec .wakeInEdge s = .next s' ∧
      (d.pstate < 2 → s'.dev = d) ∧
      (2 ≤ d.pstate → d.pstate ≤ 4 → s'.dev.pstate = d.pstate + 6 ∧ s'.dev.fld dHK_LAST_WAKE 2 0 = 1) ∧
      (5 ≤ d.pstate → d.pstate ≤ 7 → s'.dev.pstate = d.pstate ∧ s'.dev.power.wakes = d.power.wakes ||| 1)) ∧
    (d.reach = true → ∃ s', exec .hkWakeNow s = .next s' ∧
      (d.pstate ≠ 2 → d.pstate ≠ 5 → s'.dev = d) ∧
      (d.pstate = 2 → bit (d.fld dHK_WAKE 13 8) 1 = true → s'.dev.pstate = 8 ∧ s'.dev.fld dHK_LAST_WAKE 2 0 = 2) ∧
      (d.pstate = 2 → bit (d.fld dHK_WAKE 13 8) 1 = false → s'.dev = d)) ∧
    (d.power.stby = true → d.whAlarm = true → d.wh.seen = false → ∃ s', exec .weighhouseAlarmWake s = .next s' ∧
      s'.dev.wh = { d.wh with seen := true } ∧
      (2 ≤ d.pstate → d.pstate ≤ 4 → s'.dev.pstate = (if bit (d.fld dHK_WAKE 13 8) 3 then d.pstate + 6 else d.pstate))) ∧
    (d.power.stby = true → d.rd dHK_TIMER ≠ 0 → ∃ s', exec .wakeTimerExpire s = .next s' ∧ s'.dev.rd dHK_TIMER = 0 ∧
      d.power.timerPs + d.rd dHK_TIMER * 1000000000000 ≤ s'.dev.clock.ps ∧
      (2 ≤ d.pstate → d.pstate ≤ 4 → s'.dev.pstate = (if bit (d.fld dHK_WAKE 13 8) 5 then d.pstate + 6 else d.pstate)))

/-- Tier 2. Resets, supplies and the PCIe link (R274, R492, R518, R529, R534, R535, R537, R538, R541). A cold reset, a warm one and a fall of the
supplies end jobs, tiles, commands and sessions and lose the Granary; the Silo, the Daybook and the owner's record stay; the cause is
recorded. A start-up row counts itself, but for a trust core that fails. -/
def Obligations.ResetsAndSupplies : Prop :=
  ∀ s : State, let d := s.dev
    let cleared (e : Dev) : Prop := e.jobs = [] ∧ e.cmds = [] ∧ e.grnMem = [] ∧ e.parts = [] ∧ e.trust.sessions = [] ∧ e.persist = d.persist
    (d.power.stby = false → ∃ s', exec .coldReset s = .next s' ∧ cleared s'.dev ∧ s'.dev.tiles = [] ∧ s'.dev.rd dHK_RESET_CAUSE = 1 ∧
      s'.dev.pstate = 0 ∧ s'.dev.power.stby = true ∧ s'.dev.power.hub = d.power.good ∧ s'.dev.integ.daybook = d.integ.daybook) ∧
    (d.power.stby = true → d.power.good = false → ∃ s', exec .pwrGoodRise s = .next s' ∧ s'.dev.power.good = true ∧
      (d.power.hub = true → s'.dev = { d with power := { d.power with good := true } }) ∧
      (d.power.hub = false → d.pstate = 0 → s'.dev.power.hub = true ∧ s'.dev.power.refOk = true ∧ s'.dev.regs = d.regs) ∧
      (d.power.hub = false → d.pstate = 10 → s'.dev.power.hub = true ∧ cleared s'.dev ∧ s'.dev.rd dHK_RESET_CAUSE = d.power.cause % 2 ^ 32)) ∧
    (d.power.perst = false → exec .perstRelease s = .next (s.onDev { d with power := { d.power with perst := true } })) ∧
    (d.power.perst = true → ∃ s', exec .warmReset s = .next s' ∧ s'.dev.power.perst = false ∧
      (d.mainUp = false → s'.dev = { d with power := { d.power with perst := false } }) ∧
      (d.mainUp = true → cleared s'.dev ∧ s'.dev.rd dHK_RESET_CAUSE = 2 ∧ s'.dev.pstate = 0 ∧ s'.dev.power.hub = true ∧
        s'.dev.fld dGLB_START 4 1 = 1 ∧ s'.dev.fld dLASER_CTRL 3 0 = 0 ∧ ∀ p ∈ d.unfused, (s'.dev.tile p).state = stHALTED)) ∧
    (∀ disable : Bool, d.endpoint = true → d.power.link = true → ∃ s', exec (.pcieHotReset disable) s = .next s' ∧ cleared s'.dev ∧
      s'.dev.rd dHK_RESET_CAUSE = (if disable then 4 else 3) ∧ s'.dev.power.link = false ∧ s'.dev.fld dGLB_START 4 1 = 1) ∧
    (d.power.link = true → ∃ s', exec .pcieLinkDown s = .next s' ∧ s'.dev.power = { d.power with link := false } ∧ s'.dev.rd dGLB_LINK = 0 ∧
      s'.dev.cmds = d.cmds ∧ s'.dev.persist = d.persist) ∧
    (∀ speed width : Nat, 1 ≤ speed → speed ≤ 6 → width ∈ [1, 2, 4, 8, 16] → d.endpoint = true → d.power.link = false →
      ∃ s', exec (.pcieLinkUp speed width) s = .next s' ∧ s'.dev.power = { d.power with link := true } ∧
        s'.dev.rd dGLB_LINK = speed + width * 16 ∧ bit (s'.dev.rd dHK_WAKE_OUT) 1 = false ∧ d.sameRegs s'.dev [dGLB_LINK, dHK_WAKE_OUT] ∧
        s'.dev = { d with regs := s'.dev.regs, power := s'.dev.power }) ∧
    (∀ r : Nat, r < 3 → d.power.stby = true → (r = 0 → d.power.good = true) → (r ≠ 0 → d.mainUp = true) →
      ∃ s', exec (.powerFault r) s = .next s' ∧ (r = 0 → s'.dev.power.good = false) ∧
        (d.mainUp = true → cleared s'.dev ∧ s'.dev.tiles = [] ∧ s'.dev.pstate = 4 ∧ s'.dev.power.hub = false ∧ s'.dev.power.cause = 6 ∧
          bit (s'.dev.rd dHK_STATUS) 3 = true) ∧
        (d.mainUp = false → s'.dev = { d with power := { d.power with good := false } })) ∧
    (d.power.stby = true → ∃ s', exec .standbyRailLoss s = .next s' ∧ s'.dev.power.stby = false ∧ s'.dev.power.wakes = 0 ∧
      (d.mainUp = true → cleared s'.dev ∧ s'.dev.tiles = []) ∧
      (d.mainUp = false → s'.dev = { d with power := { d.power with stby := false, wakes := 0 } })) ∧
    (∀ (row : Nat) (ok : Bool) (bad : List Nat), 1 ≤ row → row ≤ 8 → d.rowReady row = true →
      ∃ s', exec (.startupRow row ok bad) s = .next s' ∧
        s'.dev.fld dGLB_START 4 1 = (if row = 2 ∧ ok = false then 1 else row) ∧
        (row = 1 → s'.dev.clock.ptpRun = true ∧ s'.dev.ptpNs = 0 ∧ s'.dev.rd dHK_CLK = 0x3F) ∧
        (row = 2 → ok = false → s'.dev.fld dTC_STATUS 2 0 = 3) ∧
        (row = 6 → ∀ i < 24, s'.dev.fld (grnOff dGRN_CTRL i) 0 0 = 1) ∧
        (row = 8 → s'.dev.fld dSLO_CTRL 0 0 = 1 ∧ (s'.dev.fld dGLB_START 0 0 = 1 ↔ d.recovery = false ∧ d.allMapped = true)))

/-- Tier 2. The reference clock, the standby time and the thermal limits (R532, R533, R542, R543, R546). A lost clock halts every job and is
counted; samples are stored by their sensor's width and a rise to the warn limit is shown; a trip takes the device into Off and holds
until the coolant is cool; the throttle moves by one level at a time, up by 8. -/
def Obligations.ClocksAndLimits : Prop :=
  ∀ s : State, let d := s.dev
    (d.power.hub = true → d.power.refOk = true → ∃ s', exec .refclkLoss s = .next s' ∧ s'.dev.power.refOk = false ∧
      s'.dev.rd dHK_CLK = 0x20 ∧ bit (s'.dev.rd dHK_STATUS) 4 = true ∧
      s'.dev.rd dHK_REFCLK_LOSS = (d.rd dHK_REFCLK_LOSS + 1) % 2 ^ 32 ∧ (∀ id j, s'.dev.jobById id = some j → j.halted = true)) ∧
    (d.power.hub = true → d.power.refOk = false → ∃ s', exec .refclkRelock s = .next s' ∧ s'.dev.power.refOk = true ∧
      s'.dev.rd dHK_CLK = 0x3F ∧ d.power.refPs + 10000000000 ≤ s'.dev.clock.ps ∧ s'.dev.jobs = d.jobs ∧ s'.dev.tiles = d.tiles) ∧
    (d.clock.ptpRun = true → ∃ s', exec .stbyTimeLoad s = .next s' ∧ s'.dev.stbyNs = s'.dev.ptpNs ∧
      s'.dev.power.loadPs = s'.dev.clock.ps ∧ d.power.loadPs + 1000000000000 ≤ s'.dev.clock.ps ∧ d.sameRegs s'.dev [] ∧
      s'.dev = { d with regs := s'.dev.regs, clock := s'.dev.clock, power := s'.dev.power }) ∧
    (∀ rs : List (Nat × Nat), (∀ r ∈ rs, isSensor r.1 = true) → (rs.map (·.1)).Nodup → d.power.stby = true →
      (d.power.hub = true ∨ ∀ r ∈ rs, r.1 = dHK_COOLANT) → ∃ s', exec (.thermalSample rs) s = .next s' ∧
        d.sameRegs s'.dev (dHK_STATUS :: rs.map (·.1)) ∧ s'.dev = { d.logsOf s'.dev with power := s'.dev.power } ∧
        ∀ r ∈ rs, match tempSensors.find? (fun t => t.1 == r.1) with
          | none => s'.dev.rd r.1 = r.2 % 2 ^ 32
          | some (_, q) => s'.dev.rd r.1 = r.2 % (if q = 1 then 256 else if q = 2 then 2 ^ 32 else 65536) ∧
            (d.reading r.1 < d.limit q 0 → d.limit q 0 ≤ s'.dev.reading r.1 → bit (s'.dev.rd dHK_STATUS) 0 = true)) ∧
    (∀ off q : Nat, tempSensors.find? (fun t => t.1 == off) = some (off, q) → d.power.stby = true → (d.power.hub = true ∨ q = 2) →
      d.limit q 2 ≤ d.reading off → d.power.trip = none → ∃ s', exec (.thermalTrip off) s = .next s' ∧ s'.dev.power.trip.isSome ∧
        bit (s'.dev.rd dHK_STATUS) 2 = true ∧
        (d.mainUp = true → s'.dev.pstate = 4 ∧ s'.dev.power.hub = false ∧ s'.dev.jobs = [] ∧ s'.dev.power.cause = 7)) ∧
    (∀ t : Nat, d.power.trip = some t → d.power.stby = true → d.reading dHK_COOLANT < d.limit 2 3 →
      ∃ s', exec .thermTripRelease s = .next s' ∧ s'.dev.power.trip = none ∧ t + 10000000000000 ≤ s'.dev.clock.ps ∧
        (d.fld dHK_TH_CTRL 0 0 = 0 → s'.dev.pstate = d.pstate) ∧
        (d.fld dHK_TH_CTRL 0 0 = 1 → d.pstate = 4 → s'.dev.pstate = 10 ∧ s'.dev.fld dHK_LAST_WAKE 2 0 = 5)) ∧
    (d.power.hub = true → (d.tooHot = true ∨ d.tooMuch = true) → d.fld dHK_THROTTLE 3 0 < 8 → ∃ s', exec .throttleRise s = .next s' ∧
      s'.dev.rd dHK_THROTTLE = d.fld dHK_THROTTLE 3 0 + 1 + b2n d.tooHot * 16 + b2n d.tooMuch * 32 ∧ bit (s'.dev.rd dHK_STATUS) 1 = true ∧
      d.power.throttlePs + 1000000000 ≤ s'.dev.clock.ps ∧ d.sameRegs s'.dev [dHK_THROTTLE, dHK_STATUS] ∧
      s'.dev = { d with regs := s'.dev.regs, clock := s'.dev.clock, power := s'.dev.power }) ∧
    (d.power.hub = true → d.wellBelow = true → 0 < d.fld dHK_THROTTLE 3 0 → ∃ s', exec .throttleFall s = .next s' ∧
      s'.dev.fld dHK_THROTTLE 3 0 = d.fld dHK_THROTTLE 3 0 - 1 ∧ d.power.throttlePs + 10000000000 ≤ s'.dev.clock.ps ∧
      d.sameRegs s'.dev [dHK_THROTTLE] ∧ s'.dev = { d with regs := s'.dev.regs, clock := s'.dev.clock, power := s'.dev.power })

/-- Tier 2. Management (R540): with the standby rail it reads a housekeeping register, a Daybook entry and the power state, wakes the device,
swaps a laser module and answers an alert; each answer is one message, and reading HK_STATUS takes the alert back. -/
def Obligations.ManagementAnswers : Prop :=
  ∀ s : State, s.dev.power.stby = true → let d := s.dev
    (∀ off : Nat, off < 0x10000 → off % 4 = 0 → ∃ s' w, exec (.mgmtReadHk off) s = .next s' ∧
      s'.dev.outbox = d.outbox ++ [.answer 8 (leBytes 4 w)] ∧
      (highHalf (dHK_PSTATE + off) = none → w = (sget? d.latches (latchKey 8 (dHK_PSTATE + off))).getD (d.peek (dHK_PSTATE + off))) ∧
      s'.dev.power = (if dHK_PSTATE + off = dHK_STATUS then { d.power with unread := 0 } else d.power) ∧ s'.dev.regs = d.regs ∧
      s'.dev = { d with outbox := s'.dev.outbox, latches := s'.dev.latches, power := s'.dev.power }) ∧
    (∀ n : Nat, n < 1048576 → exec (.mgmtReadDaybook n) s =
      .next (s.onDev { d with outbox := d.outbox ++ [.answer 8 (toBytes (d.entryBytes n 1))] })) ∧
    (exec .mgmtReadState s = .next (s.onDev { d with outbox := d.outbox ++
      [.answer 8 (leBytes 4 (d.rd dHK_PSTATE) ++ leBytes 4 (d.rd dHK_LAST_WAKE) ++ leBytes 4 (d.rd dHK_RESET_CAUSE))] })) ∧
    (∃ s', exec .mgmtWake s = .next s' ∧ s'.dev.outbox = d.outbox ++ [.answer 8 (leBytes 1 0)] ∧
      (d.pstate < 2 → s'.dev = { d with outbox := s'.dev.outbox }) ∧
      (2 ≤ d.pstate → d.pstate ≤ 4 → s'.dev.pstate = d.pstate + 6 ∧ s'.dev.fld dHK_LAST_WAKE 2 0 = 3)) ∧
    (∀ m phase : Nat, m < 4 → phase < 2 → ∃ s' st, exec (.mgmtLaserSwap m phase) s = .next s' ∧
      s'.dev.outbox = d.outbox ++ [.answer 8 (leBytes 1 st)] ∧
      (2 ≤ d.pstate ∨ d.power.hub = false → st = 0x02 ∧ s'.dev = { d with outbox := s'.dev.outbox }) ∧
      (st = 0 → phase = 0 → d.laserSwapping m = false ∧ bit (s'.dev.rd dLASER_CTRL) (4 + m) = true) ∧
      (st = 0 → phase = 1 → d.laserSwapping m = true ∧ bit (s'.dev.rd dLASER_STATUS) (8 + m) = false)) ∧
    (exec .mgmtAlertResponse s = .next (s.onDev { d with outbox := d.outbox ++ [.answer 8 (leBytes 1 0x4C)] }))

/-- Tier 1. The block right after reset: its memories are in canonical form, no command waits, no job and no session is there, every lock is open, the numeric settings of
every tile are AUDIT with ties to even (R56), XT owns every Loft bank (R181), and the device is not ready (R30). -/
def Obligations.ResetValues : Prop :=
  State.reset.memOk ∧ State.reset.pending = [] ∧ State.reset.dev.jobs = [] ∧ State.reset.dev.trust.sessions = [] ∧ State.reset.dev.rd dTC_LOCK = 0 ∧
    State.reset.dev.ready = false ∧ (∀ p : Nat, (State.reset.dev.tile p).rd tNUM_CTRL = 0) ∧ (∀ p b : Nat, b < 8 → (State.reset.dev.tile p).owner b = mXT) ∧
    State.reset.dev.pstate = 0
end

