-- ==== Sys2Proof/Laws/Sparse.lean ====
section
/-! SUPPORT. The laws of sparse stores: a read after a write gives the value written, a write leaves every other key alone, and
every operation keeps the canonical form. -/

namespace Sys2Proof.Laws

open Sys2Proof.Machine

variable {α : Type}

/-- Every key of a store is above `k`. -/
def above (k : Nat) (m : Sparse α) : Prop := ∀ e ∈ m, k < e.1

/-- The keys of a store rise, as a proposition by cases. -/
theorem keysRise_cons (a : Nat × α) (m : Sparse α) : keysRise (a :: m) = true ↔ above a.1 m ∧ keysRise m = true := by
  induction m generalizing a with
  | nil => simp [keysRise, above]
  | cons b r ih =>
    have hb := ih b
    constructor
    · intro h
      have h' : a.1 < b.1 ∧ keysRise (b :: r) = true := by simpa [keysRise] using h
      refine ⟨?_, h'.2⟩
      intro e he
      rcases List.mem_cons.1 he with rfl | he
      · exact h'.1
      · exact Nat.lt_trans h'.1 ((hb.1 h'.2).1 e he)
    · rintro ⟨h1, h2⟩
      have : a.1 < b.1 := h1 b (List.mem_cons_self ..)
      simp [keysRise, this, h2]

theorem sget_above (d : α) (m : Sparse α) (k : Nat) (h : above k m) : sget d m k = d := by
  induction m with
  | nil => rfl
  | cons e r ih =>
    have h1 : k < e.1 := h e (List.mem_cons_self ..)
    have h2 : above k r := fun x hx => h x (List.mem_cons_of_mem _ hx)
    obtain ⟨k', v⟩ := e
    have : k' ≠ k := Nat.ne_of_gt h1
    simp [sget, this, ih h2]

/-- A key above all that lie under `j` stays so when `j` is put. -/
theorem above_sput (m : Sparse α) (b k : Nat) (v : α) (h : above b m) (hb : b < k) : above b (sput m k v) := by
  induction m with
  | nil => intro e he; simp [sput] at he; subst he; exact hb
  | cons e r ih =>
    obtain ⟨k', v'⟩ := e
    have h1 : b < k' := h (k', v') (List.mem_cons_self ..)
    have h2 : above b r := fun x hx => h x (List.mem_cons_of_mem _ hx)
    intro x hx
    unfold sput at hx
    split at hx
    · simp only [List.mem_cons] at hx
      rcases hx with rfl | rfl | hx
      · exact hb
      · exact h1
      · exact h2 x hx
    · split at hx
      · rcases List.mem_cons.1 hx with rfl | hx
        · exact hb
        · exact h2 x hx
      · rcases List.mem_cons.1 hx with rfl | hx
        · exact h1
        · exact ih h2 x hx

/-- Putting a value keeps the keys' order. -/
theorem keysRise_sput (m : Sparse α) (k : Nat) (v : α) (h : keysRise m = true) : keysRise (sput m k v) = true := by
  induction m with
  | nil => rfl
  | cons e r ih =>
    obtain ⟨k', v'⟩ := e
    obtain ⟨h1, h2⟩ := (keysRise_cons _ _).1 h
    unfold sput
    split
    · rename_i hk
      refine (keysRise_cons _ _).2 ⟨?_, h⟩
      intro x hx
      rcases List.mem_cons.1 hx with rfl | hx
      · exact hk
      · exact Nat.lt_trans hk (h1 x hx)
    · split
      · rename_i hk
        subst hk
        exact (keysRise_cons _ _).2 ⟨h1, h2⟩
      · rename_i hk hk'
        exact (keysRise_cons _ _).2 ⟨above_sput r k' k v h1 (by omega), ih h2⟩

/-- Dropping entries keeps the keys' order. -/
theorem keysRise_filter (m : Sparse α) (q : Nat × α → Bool) (h : keysRise m = true) : keysRise (m.filter q) = true := by
  induction m with
  | nil => rfl
  | cons e r ih =>
    obtain ⟨h1, h2⟩ := (keysRise_cons _ _).1 h
    by_cases hq : q e = true
    · rw [List.filter_cons_of_pos hq]
      exact (keysRise_cons _ _).2 ⟨fun x hx => h1 x ((List.mem_filter.1 hx).1), ih h2⟩
    · rw [List.filter_cons_of_neg hq]
      exact ih h2

/-- A value put is the value read. -/
@[simp] theorem sget_sput_same (d : α) (m : Sparse α) (k : Nat) (v : α) : sget d (sput m k v) k = v := by
  induction m with
  | nil => simp [sput, sget]
  | cons e r ih =>
    obtain ⟨k', v'⟩ := e
    unfold sput
    split
    · simp [sget]
    · split
      · simp [sget]
      · rename_i hk hk'
        have : k' ≠ k := fun h => hk' h.symm
        simp [sget, this, ih]

/-- A value put leaves every other key alone. -/
theorem sget_sput_other (d : α) (m : Sparse α) (k j : Nat) (v : α) (h : j ≠ k) : sget d (sput m k v) j = sget d m j := by
  induction m with
  | nil => simp [sput, sget, Ne.symm h]
  | cons e r ih =>
    obtain ⟨k', v'⟩ := e
    unfold sput
    split
    · have : ¬ k = j := fun x => h x.symm
      simp [sget, this]
    · split
      · rename_i hk
        subst hk
        have : ¬ k = j := fun x => h x.symm
        simp [sget, this]
      · simp [sget, ih]

@[simp] theorem sget?_sput_same (m : Sparse α) (k : Nat) (v : α) : sget? (sput m k v) k = some v := by
  induction m with
  | nil => simp [sput, sget?]
  | cons e r ih =>
    obtain ⟨k', v'⟩ := e
    unfold sput
    split
    · simp [sget?]
    · split
      · simp [sget?]
      · rename_i hk hk'
        have : k' ≠ k := fun h => hk' h.symm
        simp [sget?, this, ih]

theorem sget?_sput_other (m : Sparse α) (k j : Nat) (v : α) (h : j ≠ k) : sget? (sput m k v) j = sget? m j := by
  induction m with
  | nil => simp [sput, sget?, Ne.symm h]
  | cons e r ih =>
    obtain ⟨k', v'⟩ := e
    unfold sput
    split
    · have : ¬ k = j := fun x => h x.symm
      simp [sget?, this]
    · split
      · rename_i hk
        subst hk
        have : ¬ k = j := fun x => h x.symm
        simp [sget?, this]
      · simp [sget?, ih]

@[simp] theorem sget_sdel_same (d : α) (m : Sparse α) (k : Nat) : sget d (sdel m k) k = d := by
  induction m with
  | nil => rfl
  | cons e r ih =>
    obtain ⟨k', v'⟩ := e
    by_cases hk : k' = k
    · subst hk; simpa [sdel] using ih
    · have : sdel ((k', v') :: r) k = (k', v') :: sdel r k := by simp [sdel, hk]
      rw [this]; simp [sget, hk, ih]

theorem sget_sdel_other (d : α) (m : Sparse α) (k j : Nat) (h : j ≠ k) : sget d (sdel m k) j = sget d m j := by
  induction m with
  | nil => rfl
  | cons e r ih =>
    obtain ⟨k', v'⟩ := e
    by_cases hk : k' = k
    · subst hk
      have h1 : sdel ((k', v') :: r) k' = sdel r k' := by simp [sdel]
      have : ¬ k' = j := fun x => h x.symm
      rw [h1, ih]; simp [sget, this]
    · have : sdel ((k', v') :: r) k = (k', v') :: sdel r k := by simp [sdel, hk]
      rw [this]; simp [sget, ih]

@[simp] theorem sget?_sdel_same (m : Sparse α) (k : Nat) : sget? (sdel m k) k = none := by
  induction m with
  | nil => rfl
  | cons e r ih =>
    obtain ⟨k', v'⟩ := e
    by_cases hk : k' = k
    · subst hk; simpa [sdel] using ih
    · have : sdel ((k', v') :: r) k = (k', v') :: sdel r k := by simp [sdel, hk]
      rw [this]; simp [sget?, hk, ih]

theorem sget?_sdel_other (m : Sparse α) (k j : Nat) (h : j ≠ k) : sget? (sdel m k) j = sget? m j := by
  induction m with
  | nil => rfl
  | cons e r ih =>
    obtain ⟨k', v'⟩ := e
    by_cases hk : k' = k
    · subst hk
      have h1 : sdel ((k', v') :: r) k' = sdel r k' := by simp [sdel]
      have : ¬ k' = j := fun x => h x.symm
      rw [h1, ih]; simp [sget?, this]
    · have : sdel ((k', v') :: r) k = (k', v') :: sdel r k := by simp [sdel, hk]
      rw [this]; simp [sget?, ih]

/-! ## Writes that take the default out -/

@[simp] theorem sget_sset_same [DecidableEq α] (d : α) (m : Sparse α) (k : Nat) (v : α) : sget d (sset d m k v) k = v := by
  unfold sset
  split
  · rename_i h; simp [h]
  · simp

theorem sget_sset_other [DecidableEq α] (d : α) (m : Sparse α) (k j : Nat) (v : α) (h : j ≠ k) :
    sget d (sset d m k v) j = sget d m j := by
  unfold sset
  split
  · exact sget_sdel_other d m k j h
  · exact sget_sput_other d m k j v h

theorem all_sput [DecidableEq α] (d : α) (m : Sparse α) (k : Nat) (v : α) (hv : v ≠ d)
    (h : m.all (fun e => e.2 != d) = true) : (sput m k v).all (fun e => e.2 != d) = true := by
  induction m with
  | nil => simp [sput, hv]
  | cons e r ih =>
    obtain ⟨k', v'⟩ := e
    have h' : v' ≠ d ∧ r.all (fun e => e.2 != d) = true := by simpa using h
    unfold sput
    split
    · simp [hv, h'.1]; simpa using h'.2
    · split
      · simp [hv]; simpa using h'.2
      · simp only [List.all_cons, Bool.and_eq_true]
        exact ⟨by simpa using h'.1, ih h'.2⟩

/-- A write keeps the canonical form. -/
theorem canonical_sset [DecidableEq α] (d : α) (m : Sparse α) (k : Nat) (v : α) (h : canonical d m = true) :
    canonical d (sset d m k v) = true := by
  simp only [canonical, Bool.and_eq_true] at h ⊢
  unfold sset
  split
  · exact ⟨keysRise_filter m _ h.1, by rw [List.all_eq_true] at *; exact fun x hx => h.2 x ((List.mem_filter.1 hx).1)⟩
  · rename_i hv
    exact ⟨keysRise_sput m k v h.1, all_sput d m k v hv h.2⟩

/-- Dropping entries keeps the canonical form. -/
theorem canonical_filter [DecidableEq α] (d : α) (m : Sparse α) (q : Nat × α → Bool) (h : canonical d m = true) :
    canonical d (m.filter q) = true := by
  simp only [canonical, Bool.and_eq_true] at h ⊢
  exact ⟨keysRise_filter m q h.1, by rw [List.all_eq_true] at *; exact fun x hx => h.2 x ((List.mem_filter.1 hx).1)⟩

/-! ## Byte memories -/

/-- A byte written keeps the canonical form. -/
theorem wf_wrByte (m : List Host.Cell) (a : Nat) (v : Byte) (h : Memory.wf m = true) : Memory.wf (wrByte m a v) = true :=
  canonical_sset 0 m a v h

/-- Bytes written keep the canonical form. -/
theorem wf_wrBytes (bs : List Byte) (m : List Host.Cell) (a : Nat) (h : Memory.wf m = true) :
    Memory.wf (wrBytes m a bs) = true := by
  induction bs generalizing m a with
  | nil => exact h
  | cons b bs ih => exact ih _ _ (wf_wrByte m a b h)

/-- Bytes dropped keep the canonical form. -/
theorem wf_filter (m : List Host.Cell) (q : Host.Cell → Bool) (h : Memory.wf m = true) : Memory.wf (m.filter q) = true :=
  canonical_filter 0 m q h

@[simp] theorem wf_nil : Memory.wf [] = true := rfl

@[simp] theorem rdByte_wrByte_same (m : List Host.Cell) (a : Nat) (v : Byte) : rdByte (wrByte m a v) a = v :=
  sget_sset_same 0 m a v

theorem rdByte_wrByte_other (m : List Host.Cell) (a b : Nat) (v : Byte) (h : b ≠ a) : rdByte (wrByte m a v) b = rdByte m b :=
  sget_sset_other 0 m a b v h

/-- A write of bytes leaves every byte below its first address alone. -/
theorem rdByte_wrBytes_below (bs : List Byte) (m : List Host.Cell) (a b : Nat) (h : b < a) :
    rdByte (wrBytes m a bs) b = rdByte m b := by
  induction bs generalizing m a with
  | nil => rfl
  | cons x bs ih =>
    unfold wrBytes
    rw [ih _ _ (by omega), rdByte_wrByte_other _ _ _ _ (by omega)]

/-- A write of bytes leaves every byte beyond its last address alone. -/
theorem rdByte_wrBytes_beyond (bs : List Byte) (m : List Host.Cell) (a b : Nat) (h : a + bs.length ≤ b) :
    rdByte (wrBytes m a bs) b = rdByte m b := by
  induction bs generalizing m a with
  | nil => rfl
  | cons x bs ih =>
    unfold wrBytes
    rw [List.length_cons] at h
    rw [ih _ _ (by omega), rdByte_wrByte_other _ _ _ _ (by omega)]

/-- A read within the bytes written gives the byte written. -/
theorem rdByte_wrBytes_same (bs : List Byte) (m : List Host.Cell) (a i : Nat) (h : i < bs.length) :
    rdByte (wrBytes m a bs) (a + i) = bs[i] := by
  induction bs generalizing m a i with
  | nil => simp at h
  | cons x bs ih =>
    unfold wrBytes
    cases i with
    | zero => rw [Nat.add_zero, rdByte_wrBytes_below _ _ _ _ (by omega)]; simp
    | succ n =>
      have := ih (wrByte m a x) (a + 1) n (by simpa using h)
      simpa [Nat.add_assoc, Nat.add_comm 1 n] using this

end Sys2Proof.Laws
end

