-- ==== Sys2Proof/Laws/State.lean ====
section
/-! SUPPORT. The small lemmas of the state: what each elementary update of a record leaves, one lemma per field per update. -/

namespace Sys2Proof.Laws

open Sys2Proof.Machine

/-! ## The queue -/

@[simp] theorem step_front (s : State) (c : Instr) (r : List Instr) (h : s.pending = c :: r) :
    step s = exec c { s with pending := r } := by simp [step, h]

@[simp] theorem step_idle (s : State) (h : s.pending = []) : step s = .next (idle s) := by simp [step, h]

@[simp] theorem idle_pending (s : State) : (idle s).pending = s.pending := by simp only [idle]

/-! ## Dev.wr -/

@[simp] theorem dev_wr_clock (d : Dev) (off v : Nat) : (d.wr off v).clock = d.clock := rfl
@[simp] theorem dev_wr_fuses (d : Dev) (off v : Nat) : (d.wr off v).fuses = d.fuses := rfl
@[simp] theorem dev_wr_tiles (d : Dev) (off v : Nat) : (d.wr off v).tiles = d.tiles := rfl
@[simp] theorem dev_wr_integ (d : Dev) (off v : Nat) : (d.wr off v).integ = d.integ := rfl
@[simp] theorem dev_wr_hostMem (d : Dev) (off v : Nat) : (d.wr off v).hostMem = d.hostMem := rfl
@[simp] theorem dev_wr_msix (d : Dev) (off v : Nat) : (d.wr off v).msix = d.msix := rfl
@[simp] theorem dev_wr_grnMem (d : Dev) (off v : Nat) : (d.wr off v).grnMem = d.grnMem := rfl
@[simp] theorem dev_wr_grnErr (d : Dev) (off v : Nat) : (d.wr off v).grnErr = d.grnErr := rfl
@[simp] theorem dev_wr_grnStacks (d : Dev) (off v : Nat) : (d.wr off v).grnStacks = d.grnStacks := rfl
@[simp] theorem dev_wr_stackRet (d : Dev) (off v : Nat) : (d.wr off v).stackRet = d.stackRet := rfl
@[simp] theorem dev_wr_parts (d : Dev) (off v : Nat) : (d.wr off v).parts = d.parts := rfl
@[simp] theorem dev_wr_persist (d : Dev) (off v : Nat) : (d.wr off v).persist = d.persist := rfl
@[simp] theorem dev_wr_failed (d : Dev) (off v : Nat) : (d.wr off v).failed = d.failed := rfl
@[simp] theorem dev_wr_gleanPs (d : Dev) (off v : Nat) : (d.wr off v).gleanPs = d.gleanPs := rfl
@[simp] theorem dev_wr_siloPs (d : Dev) (off v : Nat) : (d.wr off v).siloPs = d.siloPs := rfl
@[simp] theorem dev_wr_marchPs (d : Dev) (off v : Nat) : (d.wr off v).marchPs = d.marchPs := rfl
@[simp] theorem dev_wr_jobs (d : Dev) (off v : Nat) : (d.wr off v).jobs = d.jobs := rfl
@[simp] theorem dev_wr_stepRec (d : Dev) (off v : Nat) : (d.wr off v).stepRec = d.stepRec := rfl
@[simp] theorem dev_wr_outbox (d : Dev) (off v : Nat) : (d.wr off v).outbox = d.outbox := rfl
@[simp] theorem dev_wr_inner (d : Dev) (off v : Nat) : (d.wr off v).inner = d.inner := rfl
@[simp] theorem dev_wr_conns (d : Dev) (off v : Nat) : (d.wr off v).conns = d.conns := rfl
@[simp] theorem dev_wr_laneMoves (d : Dev) (off v : Nat) : (d.wr off v).laneMoves = d.laneMoves := rfl
@[simp] theorem dev_wr_training (d : Dev) (off v : Nat) : (d.wr off v).training = d.training := rfl
@[simp] theorem dev_wr_credits (d : Dev) (off v : Nat) : (d.wr off v).credits = d.credits := rfl
@[simp] theorem dev_wr_owed (d : Dev) (off v : Nat) : (d.wr off v).owed = d.owed := rfl
@[simp] theorem dev_wr_paused (d : Dev) (off v : Nat) : (d.wr off v).paused = d.paused := rfl
@[simp] theorem dev_wr_laserPs (d : Dev) (off v : Nat) : (d.wr off v).laserPs = d.laserPs := rfl
@[simp] theorem dev_wr_couplers (d : Dev) (off v : Nat) : (d.wr off v).couplers = d.couplers := rfl
@[simp] theorem dev_wr_spares (d : Dev) (off v : Nat) : (d.wr off v).spares = d.spares := rfl
@[simp] theorem dev_wr_buckets (d : Dev) (off v : Nat) : (d.wr off v).buckets = d.buckets := rfl
@[simp] theorem dev_wr_homes (d : Dev) (off v : Nat) : (d.wr off v).homes = d.homes := rfl
@[simp] theorem dev_wr_deferred (d : Dev) (off v : Nat) : (d.wr off v).deferred = d.deferred := rfl
@[simp] theorem dev_wr_carries (d : Dev) (off v : Nat) : (d.wr off v).carries = d.carries := rfl
@[simp] theorem dev_wr_ledger (d : Dev) (off v : Nat) : (d.wr off v).ledger = d.ledger := rfl
@[simp] theorem dev_wr_honoured (d : Dev) (off v : Nat) : (d.wr off v).honoured = d.honoured := rfl
@[simp] theorem dev_wr_layoutCur (d : Dev) (off v : Nat) : (d.wr off v).layoutCur = d.layoutCur := rfl
@[simp] theorem dev_wr_layoutPrev (d : Dev) (off v : Nat) : (d.wr off v).layoutPrev = d.layoutPrev := rfl
@[simp] theorem dev_wr_layoutNext (d : Dev) (off v : Nat) : (d.wr off v).layoutNext = d.layoutNext := rfl
@[simp] theorem dev_wr_fences (d : Dev) (off v : Nat) : (d.wr off v).fences = d.fences := rfl
@[simp] theorem dev_wr_barRanks (d : Dev) (off v : Nat) : (d.wr off v).barRanks = d.barRanks := rfl
@[simp] theorem dev_wr_barSent (d : Dev) (off v : Nat) : (d.wr off v).barSent = d.barSent := rfl
@[simp] theorem dev_wr_ringK (d : Dev) (off v : Nat) : (d.wr off v).ringK = d.ringK := rfl
@[simp] theorem dev_wr_ringFullFrom (d : Dev) (off v : Nat) : (d.wr off v).ringFullFrom = d.ringFullFrom := rfl
@[simp] theorem dev_wr_xferRecs (d : Dev) (off v : Nat) : (d.wr off v).xferRecs = d.xferRecs := rfl
@[simp] theorem dev_wr_cmds (d : Dev) (off v : Nat) : (d.wr off v).cmds = d.cmds := rfl
@[simp] theorem dev_wr_cmdNext (d : Dev) (off v : Nat) : (d.wr off v).cmdNext = d.cmdNext := rfl
@[simp] theorem dev_wr_turn (d : Dev) (off v : Nat) : (d.wr off v).turn = d.turn := rfl
@[simp] theorem dev_wr_trust (d : Dev) (off v : Nat) : (d.wr off v).trust = d.trust := rfl
@[simp] theorem dev_wr_latches (d : Dev) (off v : Nat) : (d.wr off v).latches = d.latches := rfl
@[simp] theorem dev_wr_hostVer (d : Dev) (off v : Nat) : (d.wr off v).hostVer = d.hostVer := rfl
@[simp] theorem dev_wr_winTenant (d : Dev) (off v : Nat) : (d.wr off v).winTenant = d.winTenant := rfl
@[simp] theorem dev_wr_mirrors (d : Dev) (off v : Nat) : (d.wr off v).mirrors = d.mirrors := rfl
@[simp] theorem dev_wr_power (d : Dev) (off v : Nat) : (d.wr off v).power = d.power := rfl
@[simp] theorem dev_wr_flits (d : Dev) (off v : Nat) : (d.wr off v).flits = d.flits := rfl
@[simp] theorem dev_wr_linkFailed (d : Dev) (off v : Nat) : (d.wr off v).linkFailed = d.linkFailed := rfl
@[simp] theorem dev_wr_wh (d : Dev) (off v : Nat) : (d.wr off v).wh = d.wh := rfl
@[simp] theorem dev_wr_whIv (d : Dev) (off v : Nat) : (d.wr off v).whIv = d.whIv := rfl
@[simp] theorem dev_wr_whAc (d : Dev) (off v : Nat) : (d.wr off v).whAc = d.whAc := rfl
@[simp] theorem dev_wr_freeCtr (d : Dev) (off v : Nat) : (d.wr off v).freeCtr = d.freeCtr := rfl

/-! ## Dev.setTile -/

@[simp] theorem dev_setTile_clock (d : Dev) (p : Nat) (t : Tile) : (d.setTile p t).clock = d.clock := rfl
@[simp] theorem dev_setTile_fuses (d : Dev) (p : Nat) (t : Tile) : (d.setTile p t).fuses = d.fuses := rfl
@[simp] theorem dev_setTile_regs (d : Dev) (p : Nat) (t : Tile) : (d.setTile p t).regs = d.regs := rfl
@[simp] theorem dev_setTile_integ (d : Dev) (p : Nat) (t : Tile) : (d.setTile p t).integ = d.integ := rfl
@[simp] theorem dev_setTile_hostMem (d : Dev) (p : Nat) (t : Tile) : (d.setTile p t).hostMem = d.hostMem := rfl
@[simp] theorem dev_setTile_msix (d : Dev) (p : Nat) (t : Tile) : (d.setTile p t).msix = d.msix := rfl
@[simp] theorem dev_setTile_grnMem (d : Dev) (p : Nat) (t : Tile) : (d.setTile p t).grnMem = d.grnMem := rfl
@[simp] theorem dev_setTile_grnErr (d : Dev) (p : Nat) (t : Tile) : (d.setTile p t).grnErr = d.grnErr := rfl
@[simp] theorem dev_setTile_grnStacks (d : Dev) (p : Nat) (t : Tile) : (d.setTile p t).grnStacks = d.grnStacks := rfl
@[simp] theorem dev_setTile_stackRet (d : Dev) (p : Nat) (t : Tile) : (d.setTile p t).stackRet = d.stackRet := rfl
@[simp] theorem dev_setTile_parts (d : Dev) (p : Nat) (t : Tile) : (d.setTile p t).parts = d.parts := rfl
@[simp] theorem dev_setTile_persist (d : Dev) (p : Nat) (t : Tile) : (d.setTile p t).persist = d.persist := rfl
@[simp] theorem dev_setTile_failed (d : Dev) (p : Nat) (t : Tile) : (d.setTile p t).failed = d.failed := rfl
@[simp] theorem dev_setTile_gleanPs (d : Dev) (p : Nat) (t : Tile) : (d.setTile p t).gleanPs = d.gleanPs := rfl
@[simp] theorem dev_setTile_siloPs (d : Dev) (p : Nat) (t : Tile) : (d.setTile p t).siloPs = d.siloPs := rfl
@[simp] theorem dev_setTile_marchPs (d : Dev) (p : Nat) (t : Tile) : (d.setTile p t).marchPs = d.marchPs := rfl
@[simp] theorem dev_setTile_jobs (d : Dev) (p : Nat) (t : Tile) : (d.setTile p t).jobs = d.jobs := rfl
@[simp] theorem dev_setTile_stepRec (d : Dev) (p : Nat) (t : Tile) : (d.setTile p t).stepRec = d.stepRec := rfl
@[simp] theorem dev_setTile_outbox (d : Dev) (p : Nat) (t : Tile) : (d.setTile p t).outbox = d.outbox := rfl
@[simp] theorem dev_setTile_inner (d : Dev) (p : Nat) (t : Tile) : (d.setTile p t).inner = d.inner := rfl
@[simp] theorem dev_setTile_conns (d : Dev) (p : Nat) (t : Tile) : (d.setTile p t).conns = d.conns := rfl
@[simp] theorem dev_setTile_laneMoves (d : Dev) (p : Nat) (t : Tile) : (d.setTile p t).laneMoves = d.laneMoves := rfl
@[simp] theorem dev_setTile_training (d : Dev) (p : Nat) (t : Tile) : (d.setTile p t).training = d.training := rfl
@[simp] theorem dev_setTile_credits (d : Dev) (p : Nat) (t : Tile) : (d.setTile p t).credits = d.credits := rfl
@[simp] theorem dev_setTile_owed (d : Dev) (p : Nat) (t : Tile) : (d.setTile p t).owed = d.owed := rfl
@[simp] theorem dev_setTile_paused (d : Dev) (p : Nat) (t : Tile) : (d.setTile p t).paused = d.paused := rfl
@[simp] theorem dev_setTile_laserPs (d : Dev) (p : Nat) (t : Tile) : (d.setTile p t).laserPs = d.laserPs := rfl
@[simp] theorem dev_setTile_couplers (d : Dev) (p : Nat) (t : Tile) : (d.setTile p t).couplers = d.couplers := rfl
@[simp] theorem dev_setTile_spares (d : Dev) (p : Nat) (t : Tile) : (d.setTile p t).spares = d.spares := rfl
@[simp] theorem dev_setTile_buckets (d : Dev) (p : Nat) (t : Tile) : (d.setTile p t).buckets = d.buckets := rfl
@[simp] theorem dev_setTile_homes (d : Dev) (p : Nat) (t : Tile) : (d.setTile p t).homes = d.homes := rfl
@[simp] theorem dev_setTile_deferred (d : Dev) (p : Nat) (t : Tile) : (d.setTile p t).deferred = d.deferred := rfl
@[simp] theorem dev_setTile_carries (d : Dev) (p : Nat) (t : Tile) : (d.setTile p t).carries = d.carries := rfl
@[simp] theorem dev_setTile_ledger (d : Dev) (p : Nat) (t : Tile) : (d.setTile p t).ledger = d.ledger := rfl
@[simp] theorem dev_setTile_honoured (d : Dev) (p : Nat) (t : Tile) : (d.setTile p t).honoured = d.honoured := rfl
@[simp] theorem dev_setTile_layoutCur (d : Dev) (p : Nat) (t : Tile) : (d.setTile p t).layoutCur = d.layoutCur := rfl
@[simp] theorem dev_setTile_layoutPrev (d : Dev) (p : Nat) (t : Tile) : (d.setTile p t).layoutPrev = d.layoutPrev := rfl
@[simp] theorem dev_setTile_layoutNext (d : Dev) (p : Nat) (t : Tile) : (d.setTile p t).layoutNext = d.layoutNext := rfl
@[simp] theorem dev_setTile_fences (d : Dev) (p : Nat) (t : Tile) : (d.setTile p t).fences = d.fences := rfl
@[simp] theorem dev_setTile_barRanks (d : Dev) (p : Nat) (t : Tile) : (d.setTile p t).barRanks = d.barRanks := rfl
@[simp] theorem dev_setTile_barSent (d : Dev) (p : Nat) (t : Tile) : (d.setTile p t).barSent = d.barSent := rfl
@[simp] theorem dev_setTile_ringK (d : Dev) (p : Nat) (t : Tile) : (d.setTile p t).ringK = d.ringK := rfl
@[simp] theorem dev_setTile_ringFullFrom (d : Dev) (p : Nat) (t : Tile) : (d.setTile p t).ringFullFrom = d.ringFullFrom := rfl
@[simp] theorem dev_setTile_xferRecs (d : Dev) (p : Nat) (t : Tile) : (d.setTile p t).xferRecs = d.xferRecs := rfl
@[simp] theorem dev_setTile_cmds (d : Dev) (p : Nat) (t : Tile) : (d.setTile p t).cmds = d.cmds := rfl
@[simp] theorem dev_setTile_cmdNext (d : Dev) (p : Nat) (t : Tile) : (d.setTile p t).cmdNext = d.cmdNext := rfl
@[simp] theorem dev_setTile_turn (d : Dev) (p : Nat) (t : Tile) : (d.setTile p t).turn = d.turn := rfl
@[simp] theorem dev_setTile_trust (d : Dev) (p : Nat) (t : Tile) : (d.setTile p t).trust = d.trust := rfl
@[simp] theorem dev_setTile_latches (d : Dev) (p : Nat) (t : Tile) : (d.setTile p t).latches = d.latches := rfl
@[simp] theorem dev_setTile_hostVer (d : Dev) (p : Nat) (t : Tile) : (d.setTile p t).hostVer = d.hostVer := rfl
@[simp] theorem dev_setTile_winTenant (d : Dev) (p : Nat) (t : Tile) : (d.setTile p t).winTenant = d.winTenant := rfl
@[simp] theorem dev_setTile_mirrors (d : Dev) (p : Nat) (t : Tile) : (d.setTile p t).mirrors = d.mirrors := rfl
@[simp] theorem dev_setTile_power (d : Dev) (p : Nat) (t : Tile) : (d.setTile p t).power = d.power := rfl
@[simp] theorem dev_setTile_flits (d : Dev) (p : Nat) (t : Tile) : (d.setTile p t).flits = d.flits := rfl
@[simp] theorem dev_setTile_linkFailed (d : Dev) (p : Nat) (t : Tile) : (d.setTile p t).linkFailed = d.linkFailed := rfl
@[simp] theorem dev_setTile_wh (d : Dev) (p : Nat) (t : Tile) : (d.setTile p t).wh = d.wh := rfl
@[simp] theorem dev_setTile_whIv (d : Dev) (p : Nat) (t : Tile) : (d.setTile p t).whIv = d.whIv := rfl
@[simp] theorem dev_setTile_whAc (d : Dev) (p : Nat) (t : Tile) : (d.setTile p t).whAc = d.whAc := rfl
@[simp] theorem dev_setTile_freeCtr (d : Dev) (p : Nat) (t : Tile) : (d.setTile p t).freeCtr = d.freeCtr := rfl

/-! ## Dev.hostWrite -/

@[simp] theorem dev_hostWrite_clock (d : Dev) (a : Nat) (bs : List Byte) : (d.hostWrite a bs).clock = d.clock := rfl
@[simp] theorem dev_hostWrite_fuses (d : Dev) (a : Nat) (bs : List Byte) : (d.hostWrite a bs).fuses = d.fuses := rfl
@[simp] theorem dev_hostWrite_regs (d : Dev) (a : Nat) (bs : List Byte) : (d.hostWrite a bs).regs = d.regs := rfl
@[simp] theorem dev_hostWrite_tiles (d : Dev) (a : Nat) (bs : List Byte) : (d.hostWrite a bs).tiles = d.tiles := rfl
@[simp] theorem dev_hostWrite_integ (d : Dev) (a : Nat) (bs : List Byte) : (d.hostWrite a bs).integ = d.integ := rfl
@[simp] theorem dev_hostWrite_msix (d : Dev) (a : Nat) (bs : List Byte) : (d.hostWrite a bs).msix = d.msix := rfl
@[simp] theorem dev_hostWrite_grnMem (d : Dev) (a : Nat) (bs : List Byte) : (d.hostWrite a bs).grnMem = d.grnMem := rfl
@[simp] theorem dev_hostWrite_grnErr (d : Dev) (a : Nat) (bs : List Byte) : (d.hostWrite a bs).grnErr = d.grnErr := rfl
@[simp] theorem dev_hostWrite_grnStacks (d : Dev) (a : Nat) (bs : List Byte) : (d.hostWrite a bs).grnStacks = d.grnStacks := rfl
@[simp] theorem dev_hostWrite_stackRet (d : Dev) (a : Nat) (bs : List Byte) : (d.hostWrite a bs).stackRet = d.stackRet := rfl
@[simp] theorem dev_hostWrite_parts (d : Dev) (a : Nat) (bs : List Byte) : (d.hostWrite a bs).parts = d.parts := rfl
@[simp] theorem dev_hostWrite_persist (d : Dev) (a : Nat) (bs : List Byte) : (d.hostWrite a bs).persist = d.persist := rfl
@[simp] theorem dev_hostWrite_failed (d : Dev) (a : Nat) (bs : List Byte) : (d.hostWrite a bs).failed = d.failed := rfl
@[simp] theorem dev_hostWrite_gleanPs (d : Dev) (a : Nat) (bs : List Byte) : (d.hostWrite a bs).gleanPs = d.gleanPs := rfl
@[simp] theorem dev_hostWrite_siloPs (d : Dev) (a : Nat) (bs : List Byte) : (d.hostWrite a bs).siloPs = d.siloPs := rfl
@[simp] theorem dev_hostWrite_marchPs (d : Dev) (a : Nat) (bs : List Byte) : (d.hostWrite a bs).marchPs = d.marchPs := rfl
@[simp] theorem dev_hostWrite_jobs (d : Dev) (a : Nat) (bs : List Byte) : (d.hostWrite a bs).jobs = d.jobs := rfl
@[simp] theorem dev_hostWrite_stepRec (d : Dev) (a : Nat) (bs : List Byte) : (d.hostWrite a bs).stepRec = d.stepRec := rfl
@[simp] theorem dev_hostWrite_outbox (d : Dev) (a : Nat) (bs : List Byte) : (d.hostWrite a bs).outbox = d.outbox := rfl
@[simp] theorem dev_hostWrite_inner (d : Dev) (a : Nat) (bs : List Byte) : (d.hostWrite a bs).inner = d.inner := rfl
@[simp] theorem dev_hostWrite_conns (d : Dev) (a : Nat) (bs : List Byte) : (d.hostWrite a bs).conns = d.conns := rfl
@[simp] theorem dev_hostWrite_laneMoves (d : Dev) (a : Nat) (bs : List Byte) : (d.hostWrite a bs).laneMoves = d.laneMoves := rfl
@[simp] theorem dev_hostWrite_training (d : Dev) (a : Nat) (bs : List Byte) : (d.hostWrite a bs).training = d.training := rfl
@[simp] theorem dev_hostWrite_credits (d : Dev) (a : Nat) (bs : List Byte) : (d.hostWrite a bs).credits = d.credits := rfl
@[simp] theorem dev_hostWrite_owed (d : Dev) (a : Nat) (bs : List Byte) : (d.hostWrite a bs).owed = d.owed := rfl
@[simp] theorem dev_hostWrite_paused (d : Dev) (a : Nat) (bs : List Byte) : (d.hostWrite a bs).paused = d.paused := rfl
@[simp] theorem dev_hostWrite_laserPs (d : Dev) (a : Nat) (bs : List Byte) : (d.hostWrite a bs).laserPs = d.laserPs := rfl
@[simp] theorem dev_hostWrite_couplers (d : Dev) (a : Nat) (bs : List Byte) : (d.hostWrite a bs).couplers = d.couplers := rfl
@[simp] theorem dev_hostWrite_spares (d : Dev) (a : Nat) (bs : List Byte) : (d.hostWrite a bs).spares = d.spares := rfl
@[simp] theorem dev_hostWrite_buckets (d : Dev) (a : Nat) (bs : List Byte) : (d.hostWrite a bs).buckets = d.buckets := rfl
@[simp] theorem dev_hostWrite_homes (d : Dev) (a : Nat) (bs : List Byte) : (d.hostWrite a bs).homes = d.homes := rfl
@[simp] theorem dev_hostWrite_deferred (d : Dev) (a : Nat) (bs : List Byte) : (d.hostWrite a bs).deferred = d.deferred := rfl
@[simp] theorem dev_hostWrite_carries (d : Dev) (a : Nat) (bs : List Byte) : (d.hostWrite a bs).carries = d.carries := rfl
@[simp] theorem dev_hostWrite_ledger (d : Dev) (a : Nat) (bs : List Byte) : (d.hostWrite a bs).ledger = d.ledger := rfl
@[simp] theorem dev_hostWrite_honoured (d : Dev) (a : Nat) (bs : List Byte) : (d.hostWrite a bs).honoured = d.honoured := rfl
@[simp] theorem dev_hostWrite_layoutCur (d : Dev) (a : Nat) (bs : List Byte) : (d.hostWrite a bs).layoutCur = d.layoutCur := rfl
@[simp] theorem dev_hostWrite_layoutPrev (d : Dev) (a : Nat) (bs : List Byte) : (d.hostWrite a bs).layoutPrev = d.layoutPrev := rfl
@[simp] theorem dev_hostWrite_layoutNext (d : Dev) (a : Nat) (bs : List Byte) : (d.hostWrite a bs).layoutNext = d.layoutNext := rfl
@[simp] theorem dev_hostWrite_fences (d : Dev) (a : Nat) (bs : List Byte) : (d.hostWrite a bs).fences = d.fences := rfl
@[simp] theorem dev_hostWrite_barRanks (d : Dev) (a : Nat) (bs : List Byte) : (d.hostWrite a bs).barRanks = d.barRanks := rfl
@[simp] theorem dev_hostWrite_barSent (d : Dev) (a : Nat) (bs : List Byte) : (d.hostWrite a bs).barSent = d.barSent := rfl
@[simp] theorem dev_hostWrite_ringK (d : Dev) (a : Nat) (bs : List Byte) : (d.hostWrite a bs).ringK = d.ringK := rfl
@[simp] theorem dev_hostWrite_ringFullFrom (d : Dev) (a : Nat) (bs : List Byte) : (d.hostWrite a bs).ringFullFrom = d.ringFullFrom := rfl
@[simp] theorem dev_hostWrite_xferRecs (d : Dev) (a : Nat) (bs : List Byte) : (d.hostWrite a bs).xferRecs = d.xferRecs := rfl
@[simp] theorem dev_hostWrite_cmds (d : Dev) (a : Nat) (bs : List Byte) : (d.hostWrite a bs).cmds = d.cmds := rfl
@[simp] theorem dev_hostWrite_cmdNext (d : Dev) (a : Nat) (bs : List Byte) : (d.hostWrite a bs).cmdNext = d.cmdNext := rfl
@[simp] theorem dev_hostWrite_turn (d : Dev) (a : Nat) (bs : List Byte) : (d.hostWrite a bs).turn = d.turn := rfl
@[simp] theorem dev_hostWrite_trust (d : Dev) (a : Nat) (bs : List Byte) : (d.hostWrite a bs).trust = d.trust := rfl
@[simp] theorem dev_hostWrite_latches (d : Dev) (a : Nat) (bs : List Byte) : (d.hostWrite a bs).latches = d.latches := rfl
@[simp] theorem dev_hostWrite_hostVer (d : Dev) (a : Nat) (bs : List Byte) : (d.hostWrite a bs).hostVer = d.hostVer := rfl
@[simp] theorem dev_hostWrite_winTenant (d : Dev) (a : Nat) (bs : List Byte) : (d.hostWrite a bs).winTenant = d.winTenant := rfl
@[simp] theorem dev_hostWrite_mirrors (d : Dev) (a : Nat) (bs : List Byte) : (d.hostWrite a bs).mirrors = d.mirrors := rfl
@[simp] theorem dev_hostWrite_power (d : Dev) (a : Nat) (bs : List Byte) : (d.hostWrite a bs).power = d.power := rfl
@[simp] theorem dev_hostWrite_flits (d : Dev) (a : Nat) (bs : List Byte) : (d.hostWrite a bs).flits = d.flits := rfl
@[simp] theorem dev_hostWrite_linkFailed (d : Dev) (a : Nat) (bs : List Byte) : (d.hostWrite a bs).linkFailed = d.linkFailed := rfl
@[simp] theorem dev_hostWrite_wh (d : Dev) (a : Nat) (bs : List Byte) : (d.hostWrite a bs).wh = d.wh := rfl
@[simp] theorem dev_hostWrite_whIv (d : Dev) (a : Nat) (bs : List Byte) : (d.hostWrite a bs).whIv = d.whIv := rfl
@[simp] theorem dev_hostWrite_whAc (d : Dev) (a : Nat) (bs : List Byte) : (d.hostWrite a bs).whAc = d.whAc := rfl
@[simp] theorem dev_hostWrite_freeCtr (d : Dev) (a : Nat) (bs : List Byte) : (d.hostWrite a bs).freeCtr = d.freeCtr := rfl

/-! ## Dev.raise -/

@[simp] theorem dev_raise_clock (d : Dev) (v : Nat) : (d.raise v).clock = d.clock := rfl
@[simp] theorem dev_raise_fuses (d : Dev) (v : Nat) : (d.raise v).fuses = d.fuses := rfl
@[simp] theorem dev_raise_regs (d : Dev) (v : Nat) : (d.raise v).regs = d.regs := rfl
@[simp] theorem dev_raise_tiles (d : Dev) (v : Nat) : (d.raise v).tiles = d.tiles := rfl
@[simp] theorem dev_raise_integ (d : Dev) (v : Nat) : (d.raise v).integ = d.integ := rfl
@[simp] theorem dev_raise_hostMem (d : Dev) (v : Nat) : (d.raise v).hostMem = d.hostMem := rfl
@[simp] theorem dev_raise_grnMem (d : Dev) (v : Nat) : (d.raise v).grnMem = d.grnMem := rfl
@[simp] theorem dev_raise_grnErr (d : Dev) (v : Nat) : (d.raise v).grnErr = d.grnErr := rfl
@[simp] theorem dev_raise_grnStacks (d : Dev) (v : Nat) : (d.raise v).grnStacks = d.grnStacks := rfl
@[simp] theorem dev_raise_stackRet (d : Dev) (v : Nat) : (d.raise v).stackRet = d.stackRet := rfl
@[simp] theorem dev_raise_parts (d : Dev) (v : Nat) : (d.raise v).parts = d.parts := rfl
@[simp] theorem dev_raise_persist (d : Dev) (v : Nat) : (d.raise v).persist = d.persist := rfl
@[simp] theorem dev_raise_failed (d : Dev) (v : Nat) : (d.raise v).failed = d.failed := rfl
@[simp] theorem dev_raise_gleanPs (d : Dev) (v : Nat) : (d.raise v).gleanPs = d.gleanPs := rfl
@[simp] theorem dev_raise_siloPs (d : Dev) (v : Nat) : (d.raise v).siloPs = d.siloPs := rfl
@[simp] theorem dev_raise_marchPs (d : Dev) (v : Nat) : (d.raise v).marchPs = d.marchPs := rfl
@[simp] theorem dev_raise_jobs (d : Dev) (v : Nat) : (d.raise v).jobs = d.jobs := rfl
@[simp] theorem dev_raise_stepRec (d : Dev) (v : Nat) : (d.raise v).stepRec = d.stepRec := rfl
@[simp] theorem dev_raise_outbox (d : Dev) (v : Nat) : (d.raise v).outbox = d.outbox := rfl
@[simp] theorem dev_raise_inner (d : Dev) (v : Nat) : (d.raise v).inner = d.inner := rfl
@[simp] theorem dev_raise_conns (d : Dev) (v : Nat) : (d.raise v).conns = d.conns := rfl
@[simp] theorem dev_raise_laneMoves (d : Dev) (v : Nat) : (d.raise v).laneMoves = d.laneMoves := rfl
@[simp] theorem dev_raise_training (d : Dev) (v : Nat) : (d.raise v).training = d.training := rfl
@[simp] theorem dev_raise_credits (d : Dev) (v : Nat) : (d.raise v).credits = d.credits := rfl
@[simp] theorem dev_raise_owed (d : Dev) (v : Nat) : (d.raise v).owed = d.owed := rfl
@[simp] theorem dev_raise_paused (d : Dev) (v : Nat) : (d.raise v).paused = d.paused := rfl
@[simp] theorem dev_raise_laserPs (d : Dev) (v : Nat) : (d.raise v).laserPs = d.laserPs := rfl
@[simp] theorem dev_raise_couplers (d : Dev) (v : Nat) : (d.raise v).couplers = d.couplers := rfl
@[simp] theorem dev_raise_spares (d : Dev) (v : Nat) : (d.raise v).spares = d.spares := rfl
@[simp] theorem dev_raise_buckets (d : Dev) (v : Nat) : (d.raise v).buckets = d.buckets := rfl
@[simp] theorem dev_raise_homes (d : Dev) (v : Nat) : (d.raise v).homes = d.homes := rfl
@[simp] theorem dev_raise_deferred (d : Dev) (v : Nat) : (d.raise v).deferred = d.deferred := rfl
@[simp] theorem dev_raise_carries (d : Dev) (v : Nat) : (d.raise v).carries = d.carries := rfl
@[simp] theorem dev_raise_ledger (d : Dev) (v : Nat) : (d.raise v).ledger = d.ledger := rfl
@[simp] theorem dev_raise_honoured (d : Dev) (v : Nat) : (d.raise v).honoured = d.honoured := rfl
@[simp] theorem dev_raise_layoutCur (d : Dev) (v : Nat) : (d.raise v).layoutCur = d.layoutCur := rfl
@[simp] theorem dev_raise_layoutPrev (d : Dev) (v : Nat) : (d.raise v).layoutPrev = d.layoutPrev := rfl
@[simp] theorem dev_raise_layoutNext (d : Dev) (v : Nat) : (d.raise v).layoutNext = d.layoutNext := rfl
@[simp] theorem dev_raise_fences (d : Dev) (v : Nat) : (d.raise v).fences = d.fences := rfl
@[simp] theorem dev_raise_barRanks (d : Dev) (v : Nat) : (d.raise v).barRanks = d.barRanks := rfl
@[simp] theorem dev_raise_barSent (d : Dev) (v : Nat) : (d.raise v).barSent = d.barSent := rfl
@[simp] theorem dev_raise_ringK (d : Dev) (v : Nat) : (d.raise v).ringK = d.ringK := rfl
@[simp] theorem dev_raise_ringFullFrom (d : Dev) (v : Nat) : (d.raise v).ringFullFrom = d.ringFullFrom := rfl
@[simp] theorem dev_raise_xferRecs (d : Dev) (v : Nat) : (d.raise v).xferRecs = d.xferRecs := rfl
@[simp] theorem dev_raise_cmds (d : Dev) (v : Nat) : (d.raise v).cmds = d.cmds := rfl
@[simp] theorem dev_raise_cmdNext (d : Dev) (v : Nat) : (d.raise v).cmdNext = d.cmdNext := rfl
@[simp] theorem dev_raise_turn (d : Dev) (v : Nat) : (d.raise v).turn = d.turn := rfl
@[simp] theorem dev_raise_trust (d : Dev) (v : Nat) : (d.raise v).trust = d.trust := rfl
@[simp] theorem dev_raise_latches (d : Dev) (v : Nat) : (d.raise v).latches = d.latches := rfl
@[simp] theorem dev_raise_hostVer (d : Dev) (v : Nat) : (d.raise v).hostVer = d.hostVer := rfl
@[simp] theorem dev_raise_winTenant (d : Dev) (v : Nat) : (d.raise v).winTenant = d.winTenant := rfl
@[simp] theorem dev_raise_mirrors (d : Dev) (v : Nat) : (d.raise v).mirrors = d.mirrors := rfl
@[simp] theorem dev_raise_power (d : Dev) (v : Nat) : (d.raise v).power = d.power := rfl
@[simp] theorem dev_raise_flits (d : Dev) (v : Nat) : (d.raise v).flits = d.flits := rfl
@[simp] theorem dev_raise_linkFailed (d : Dev) (v : Nat) : (d.raise v).linkFailed = d.linkFailed := rfl
@[simp] theorem dev_raise_wh (d : Dev) (v : Nat) : (d.raise v).wh = d.wh := rfl
@[simp] theorem dev_raise_whIv (d : Dev) (v : Nat) : (d.raise v).whIv = d.whIv := rfl
@[simp] theorem dev_raise_whAc (d : Dev) (v : Nat) : (d.raise v).whAc = d.whAc := rfl
@[simp] theorem dev_raise_freeCtr (d : Dev) (v : Nat) : (d.raise v).freeCtr = d.freeCtr := rfl

/-! ## Dev.send -/

@[simp] theorem dev_send_clock (d : Dev) (m : Out) : (d.send m).clock = d.clock := rfl
@[simp] theorem dev_send_fuses (d : Dev) (m : Out) : (d.send m).fuses = d.fuses := rfl
@[simp] theorem dev_send_regs (d : Dev) (m : Out) : (d.send m).regs = d.regs := rfl
@[simp] theorem dev_send_tiles (d : Dev) (m : Out) : (d.send m).tiles = d.tiles := rfl
@[simp] theorem dev_send_integ (d : Dev) (m : Out) : (d.send m).integ = d.integ := rfl
@[simp] theorem dev_send_hostMem (d : Dev) (m : Out) : (d.send m).hostMem = d.hostMem := rfl
@[simp] theorem dev_send_msix (d : Dev) (m : Out) : (d.send m).msix = d.msix := rfl
@[simp] theorem dev_send_grnMem (d : Dev) (m : Out) : (d.send m).grnMem = d.grnMem := rfl
@[simp] theorem dev_send_grnErr (d : Dev) (m : Out) : (d.send m).grnErr = d.grnErr := rfl
@[simp] theorem dev_send_grnStacks (d : Dev) (m : Out) : (d.send m).grnStacks = d.grnStacks := rfl
@[simp] theorem dev_send_stackRet (d : Dev) (m : Out) : (d.send m).stackRet = d.stackRet := rfl
@[simp] theorem dev_send_parts (d : Dev) (m : Out) : (d.send m).parts = d.parts := rfl
@[simp] theorem dev_send_persist (d : Dev) (m : Out) : (d.send m).persist = d.persist := rfl
@[simp] theorem dev_send_failed (d : Dev) (m : Out) : (d.send m).failed = d.failed := rfl
@[simp] theorem dev_send_gleanPs (d : Dev) (m : Out) : (d.send m).gleanPs = d.gleanPs := rfl
@[simp] theorem dev_send_siloPs (d : Dev) (m : Out) : (d.send m).siloPs = d.siloPs := rfl
@[simp] theorem dev_send_marchPs (d : Dev) (m : Out) : (d.send m).marchPs = d.marchPs := rfl
@[simp] theorem dev_send_jobs (d : Dev) (m : Out) : (d.send m).jobs = d.jobs := rfl
@[simp] theorem dev_send_stepRec (d : Dev) (m : Out) : (d.send m).stepRec = d.stepRec := rfl
@[simp] theorem dev_send_inner (d : Dev) (m : Out) : (d.send m).inner = d.inner := rfl
@[simp] theorem dev_send_conns (d : Dev) (m : Out) : (d.send m).conns = d.conns := rfl
@[simp] theorem dev_send_laneMoves (d : Dev) (m : Out) : (d.send m).laneMoves = d.laneMoves := rfl
@[simp] theorem dev_send_training (d : Dev) (m : Out) : (d.send m).training = d.training := rfl
@[simp] theorem dev_send_credits (d : Dev) (m : Out) : (d.send m).credits = d.credits := rfl
@[simp] theorem dev_send_owed (d : Dev) (m : Out) : (d.send m).owed = d.owed := rfl
@[simp] theorem dev_send_paused (d : Dev) (m : Out) : (d.send m).paused = d.paused := rfl
@[simp] theorem dev_send_laserPs (d : Dev) (m : Out) : (d.send m).laserPs = d.laserPs := rfl
@[simp] theorem dev_send_couplers (d : Dev) (m : Out) : (d.send m).couplers = d.couplers := rfl
@[simp] theorem dev_send_spares (d : Dev) (m : Out) : (d.send m).spares = d.spares := rfl
@[simp] theorem dev_send_buckets (d : Dev) (m : Out) : (d.send m).buckets = d.buckets := rfl
@[simp] theorem dev_send_homes (d : Dev) (m : Out) : (d.send m).homes = d.homes := rfl
@[simp] theorem dev_send_deferred (d : Dev) (m : Out) : (d.send m).deferred = d.deferred := rfl
@[simp] theorem dev_send_carries (d : Dev) (m : Out) : (d.send m).carries = d.carries := rfl
@[simp] theorem dev_send_ledger (d : Dev) (m : Out) : (d.send m).ledger = d.ledger := rfl
@[simp] theorem dev_send_honoured (d : Dev) (m : Out) : (d.send m).honoured = d.honoured := rfl
@[simp] theorem dev_send_layoutCur (d : Dev) (m : Out) : (d.send m).layoutCur = d.layoutCur := rfl
@[simp] theorem dev_send_layoutPrev (d : Dev) (m : Out) : (d.send m).layoutPrev = d.layoutPrev := rfl
@[simp] theorem dev_send_layoutNext (d : Dev) (m : Out) : (d.send m).layoutNext = d.layoutNext := rfl
@[simp] theorem dev_send_fences (d : Dev) (m : Out) : (d.send m).fences = d.fences := rfl
@[simp] theorem dev_send_barRanks (d : Dev) (m : Out) : (d.send m).barRanks = d.barRanks := rfl
@[simp] theorem dev_send_barSent (d : Dev) (m : Out) : (d.send m).barSent = d.barSent := rfl
@[simp] theorem dev_send_ringK (d : Dev) (m : Out) : (d.send m).ringK = d.ringK := rfl
@[simp] theorem dev_send_ringFullFrom (d : Dev) (m : Out) : (d.send m).ringFullFrom = d.ringFullFrom := rfl
@[simp] theorem dev_send_xferRecs (d : Dev) (m : Out) : (d.send m).xferRecs = d.xferRecs := rfl
@[simp] theorem dev_send_cmds (d : Dev) (m : Out) : (d.send m).cmds = d.cmds := rfl
@[simp] theorem dev_send_cmdNext (d : Dev) (m : Out) : (d.send m).cmdNext = d.cmdNext := rfl
@[simp] theorem dev_send_turn (d : Dev) (m : Out) : (d.send m).turn = d.turn := rfl
@[simp] theorem dev_send_trust (d : Dev) (m : Out) : (d.send m).trust = d.trust := rfl
@[simp] theorem dev_send_latches (d : Dev) (m : Out) : (d.send m).latches = d.latches := rfl
@[simp] theorem dev_send_hostVer (d : Dev) (m : Out) : (d.send m).hostVer = d.hostVer := rfl
@[simp] theorem dev_send_winTenant (d : Dev) (m : Out) : (d.send m).winTenant = d.winTenant := rfl
@[simp] theorem dev_send_mirrors (d : Dev) (m : Out) : (d.send m).mirrors = d.mirrors := rfl
@[simp] theorem dev_send_power (d : Dev) (m : Out) : (d.send m).power = d.power := rfl
@[simp] theorem dev_send_flits (d : Dev) (m : Out) : (d.send m).flits = d.flits := rfl
@[simp] theorem dev_send_linkFailed (d : Dev) (m : Out) : (d.send m).linkFailed = d.linkFailed := rfl
@[simp] theorem dev_send_wh (d : Dev) (m : Out) : (d.send m).wh = d.wh := rfl
@[simp] theorem dev_send_whIv (d : Dev) (m : Out) : (d.send m).whIv = d.whIv := rfl
@[simp] theorem dev_send_whAc (d : Dev) (m : Out) : (d.send m).whAc = d.whAc := rfl
@[simp] theorem dev_send_freeCtr (d : Dev) (m : Out) : (d.send m).freeCtr = d.freeCtr := rfl

/-! ## Dev.onJob -/

@[simp] theorem dev_onJob_clock (d : Dev) (id : Nat) (f : Job → Job) : (d.onJob id f).clock = d.clock := rfl
@[simp] theorem dev_onJob_fuses (d : Dev) (id : Nat) (f : Job → Job) : (d.onJob id f).fuses = d.fuses := rfl
@[simp] theorem dev_onJob_regs (d : Dev) (id : Nat) (f : Job → Job) : (d.onJob id f).regs = d.regs := rfl
@[simp] theorem dev_onJob_tiles (d : Dev) (id : Nat) (f : Job → Job) : (d.onJob id f).tiles = d.tiles := rfl
@[simp] theorem dev_onJob_integ (d : Dev) (id : Nat) (f : Job → Job) : (d.onJob id f).integ = d.integ := rfl
@[simp] theorem dev_onJob_hostMem (d : Dev) (id : Nat) (f : Job → Job) : (d.onJob id f).hostMem = d.hostMem := rfl
@[simp] theorem dev_onJob_msix (d : Dev) (id : Nat) (f : Job → Job) : (d.onJob id f).msix = d.msix := rfl
@[simp] theorem dev_onJob_grnMem (d : Dev) (id : Nat) (f : Job → Job) : (d.onJob id f).grnMem = d.grnMem := rfl
@[simp] theorem dev_onJob_grnErr (d : Dev) (id : Nat) (f : Job → Job) : (d.onJob id f).grnErr = d.grnErr := rfl
@[simp] theorem dev_onJob_grnStacks (d : Dev) (id : Nat) (f : Job → Job) : (d.onJob id f).grnStacks = d.grnStacks := rfl
@[simp] theorem dev_onJob_stackRet (d : Dev) (id : Nat) (f : Job → Job) : (d.onJob id f).stackRet = d.stackRet := rfl
@[simp] theorem dev_onJob_parts (d : Dev) (id : Nat) (f : Job → Job) : (d.onJob id f).parts = d.parts := rfl
@[simp] theorem dev_onJob_persist (d : Dev) (id : Nat) (f : Job → Job) : (d.onJob id f).persist = d.persist := rfl
@[simp] theorem dev_onJob_failed (d : Dev) (id : Nat) (f : Job → Job) : (d.onJob id f).failed = d.failed := rfl
@[simp] theorem dev_onJob_gleanPs (d : Dev) (id : Nat) (f : Job → Job) : (d.onJob id f).gleanPs = d.gleanPs := rfl
@[simp] theorem dev_onJob_siloPs (d : Dev) (id : Nat) (f : Job → Job) : (d.onJob id f).siloPs = d.siloPs := rfl
@[simp] theorem dev_onJob_marchPs (d : Dev) (id : Nat) (f : Job → Job) : (d.onJob id f).marchPs = d.marchPs := rfl
@[simp] theorem dev_onJob_stepRec (d : Dev) (id : Nat) (f : Job → Job) : (d.onJob id f).stepRec = d.stepRec := rfl
@[simp] theorem dev_onJob_outbox (d : Dev) (id : Nat) (f : Job → Job) : (d.onJob id f).outbox = d.outbox := rfl
@[simp] theorem dev_onJob_inner (d : Dev) (id : Nat) (f : Job → Job) : (d.onJob id f).inner = d.inner := rfl
@[simp] theorem dev_onJob_conns (d : Dev) (id : Nat) (f : Job → Job) : (d.onJob id f).conns = d.conns := rfl
@[simp] theorem dev_onJob_laneMoves (d : Dev) (id : Nat) (f : Job → Job) : (d.onJob id f).laneMoves = d.laneMoves := rfl
@[simp] theorem dev_onJob_training (d : Dev) (id : Nat) (f : Job → Job) : (d.onJob id f).training = d.training := rfl
@[simp] theorem dev_onJob_credits (d : Dev) (id : Nat) (f : Job → Job) : (d.onJob id f).credits = d.credits := rfl
@[simp] theorem dev_onJob_owed (d : Dev) (id : Nat) (f : Job → Job) : (d.onJob id f).owed = d.owed := rfl
@[simp] theorem dev_onJob_paused (d : Dev) (id : Nat) (f : Job → Job) : (d.onJob id f).paused = d.paused := rfl
@[simp] theorem dev_onJob_laserPs (d : Dev) (id : Nat) (f : Job → Job) : (d.onJob id f).laserPs = d.laserPs := rfl
@[simp] theorem dev_onJob_couplers (d : Dev) (id : Nat) (f : Job → Job) : (d.onJob id f).couplers = d.couplers := rfl
@[simp] theorem dev_onJob_spares (d : Dev) (id : Nat) (f : Job → Job) : (d.onJob id f).spares = d.spares := rfl
@[simp] theorem dev_onJob_buckets (d : Dev) (id : Nat) (f : Job → Job) : (d.onJob id f).buckets = d.buckets := rfl
@[simp] theorem dev_onJob_homes (d : Dev) (id : Nat) (f : Job → Job) : (d.onJob id f).homes = d.homes := rfl
@[simp] theorem dev_onJob_deferred (d : Dev) (id : Nat) (f : Job → Job) : (d.onJob id f).deferred = d.deferred := rfl
@[simp] theorem dev_onJob_carries (d : Dev) (id : Nat) (f : Job → Job) : (d.onJob id f).carries = d.carries := rfl
@[simp] theorem dev_onJob_ledger (d : Dev) (id : Nat) (f : Job → Job) : (d.onJob id f).ledger = d.ledger := rfl
@[simp] theorem dev_onJob_honoured (d : Dev) (id : Nat) (f : Job → Job) : (d.onJob id f).honoured = d.honoured := rfl
@[simp] theorem dev_onJob_layoutCur (d : Dev) (id : Nat) (f : Job → Job) : (d.onJob id f).layoutCur = d.layoutCur := rfl
@[simp] theorem dev_onJob_layoutPrev (d : Dev) (id : Nat) (f : Job → Job) : (d.onJob id f).layoutPrev = d.layoutPrev := rfl
@[simp] theorem dev_onJob_layoutNext (d : Dev) (id : Nat) (f : Job → Job) : (d.onJob id f).layoutNext = d.layoutNext := rfl
@[simp] theorem dev_onJob_fences (d : Dev) (id : Nat) (f : Job → Job) : (d.onJob id f).fences = d.fences := rfl
@[simp] theorem dev_onJob_barRanks (d : Dev) (id : Nat) (f : Job → Job) : (d.onJob id f).barRanks = d.barRanks := rfl
@[simp] theorem dev_onJob_barSent (d : Dev) (id : Nat) (f : Job → Job) : (d.onJob id f).barSent = d.barSent := rfl
@[simp] theorem dev_onJob_ringK (d : Dev) (id : Nat) (f : Job → Job) : (d.onJob id f).ringK = d.ringK := rfl
@[simp] theorem dev_onJob_ringFullFrom (d : Dev) (id : Nat) (f : Job → Job) : (d.onJob id f).ringFullFrom = d.ringFullFrom := rfl
@[simp] theorem dev_onJob_xferRecs (d : Dev) (id : Nat) (f : Job → Job) : (d.onJob id f).xferRecs = d.xferRecs := rfl
@[simp] theorem dev_onJob_cmds (d : Dev) (id : Nat) (f : Job → Job) : (d.onJob id f).cmds = d.cmds := rfl
@[simp] theorem dev_onJob_cmdNext (d : Dev) (id : Nat) (f : Job → Job) : (d.onJob id f).cmdNext = d.cmdNext := rfl
@[simp] theorem dev_onJob_turn (d : Dev) (id : Nat) (f : Job → Job) : (d.onJob id f).turn = d.turn := rfl
@[simp] theorem dev_onJob_trust (d : Dev) (id : Nat) (f : Job → Job) : (d.onJob id f).trust = d.trust := rfl
@[simp] theorem dev_onJob_latches (d : Dev) (id : Nat) (f : Job → Job) : (d.onJob id f).latches = d.latches := rfl
@[simp] theorem dev_onJob_hostVer (d : Dev) (id : Nat) (f : Job → Job) : (d.onJob id f).hostVer = d.hostVer := rfl
@[simp] theorem dev_onJob_winTenant (d : Dev) (id : Nat) (f : Job → Job) : (d.onJob id f).winTenant = d.winTenant := rfl
@[simp] theorem dev_onJob_mirrors (d : Dev) (id : Nat) (f : Job → Job) : (d.onJob id f).mirrors = d.mirrors := rfl
@[simp] theorem dev_onJob_power (d : Dev) (id : Nat) (f : Job → Job) : (d.onJob id f).power = d.power := rfl
@[simp] theorem dev_onJob_flits (d : Dev) (id : Nat) (f : Job → Job) : (d.onJob id f).flits = d.flits := rfl
@[simp] theorem dev_onJob_linkFailed (d : Dev) (id : Nat) (f : Job → Job) : (d.onJob id f).linkFailed = d.linkFailed := rfl
@[simp] theorem dev_onJob_wh (d : Dev) (id : Nat) (f : Job → Job) : (d.onJob id f).wh = d.wh := rfl
@[simp] theorem dev_onJob_whIv (d : Dev) (id : Nat) (f : Job → Job) : (d.onJob id f).whIv = d.whIv := rfl
@[simp] theorem dev_onJob_whAc (d : Dev) (id : Nat) (f : Job → Job) : (d.onJob id f).whAc = d.whAc := rfl
@[simp] theorem dev_onJob_freeCtr (d : Dev) (id : Nat) (f : Job → Job) : (d.onJob id f).freeCtr = d.freeCtr := rfl

/-! ## Dev.stepRecord -/

@[simp] theorem dev_stepRecord_clock (d : Dev) (job kind tile : Nat) (bs : List Byte) : (d.stepRecord job kind tile bs).clock = d.clock := rfl
@[simp] theorem dev_stepRecord_fuses (d : Dev) (job kind tile : Nat) (bs : List Byte) : (d.stepRecord job kind tile bs).fuses = d.fuses := rfl
@[simp] theorem dev_stepRecord_regs (d : Dev) (job kind tile : Nat) (bs : List Byte) : (d.stepRecord job kind tile bs).regs = d.regs := rfl
@[simp] theorem dev_stepRecord_tiles (d : Dev) (job kind tile : Nat) (bs : List Byte) : (d.stepRecord job kind tile bs).tiles = d.tiles := rfl
@[simp] theorem dev_stepRecord_integ (d : Dev) (job kind tile : Nat) (bs : List Byte) : (d.stepRecord job kind tile bs).integ = d.integ := rfl
@[simp] theorem dev_stepRecord_hostMem (d : Dev) (job kind tile : Nat) (bs : List Byte) : (d.stepRecord job kind tile bs).hostMem = d.hostMem := rfl
@[simp] theorem dev_stepRecord_msix (d : Dev) (job kind tile : Nat) (bs : List Byte) : (d.stepRecord job kind tile bs).msix = d.msix := rfl
@[simp] theorem dev_stepRecord_grnMem (d : Dev) (job kind tile : Nat) (bs : List Byte) : (d.stepRecord job kind tile bs).grnMem = d.grnMem := rfl
@[simp] theorem dev_stepRecord_grnErr (d : Dev) (job kind tile : Nat) (bs : List Byte) : (d.stepRecord job kind tile bs).grnErr = d.grnErr := rfl
@[simp] theorem dev_stepRecord_grnStacks (d : Dev) (job kind tile : Nat) (bs : List Byte) : (d.stepRecord job kind tile bs).grnStacks = d.grnStacks := rfl
@[simp] theorem dev_stepRecord_stackRet (d : Dev) (job kind tile : Nat) (bs : List Byte) : (d.stepRecord job kind tile bs).stackRet = d.stackRet := rfl
@[simp] theorem dev_stepRecord_parts (d : Dev) (job kind tile : Nat) (bs : List Byte) : (d.stepRecord job kind tile bs).parts = d.parts := rfl
@[simp] theorem dev_stepRecord_persist (d : Dev) (job kind tile : Nat) (bs : List Byte) : (d.stepRecord job kind tile bs).persist = d.persist := rfl
@[simp] theorem dev_stepRecord_failed (d : Dev) (job kind tile : Nat) (bs : List Byte) : (d.stepRecord job kind tile bs).failed = d.failed := rfl
@[simp] theorem dev_stepRecord_gleanPs (d : Dev) (job kind tile : Nat) (bs : List Byte) : (d.stepRecord job kind tile bs).gleanPs = d.gleanPs := rfl
@[simp] theorem dev_stepRecord_siloPs (d : Dev) (job kind tile : Nat) (bs : List Byte) : (d.stepRecord job kind tile bs).siloPs = d.siloPs := rfl
@[simp] theorem dev_stepRecord_marchPs (d : Dev) (job kind tile : Nat) (bs : List Byte) : (d.stepRecord job kind tile bs).marchPs = d.marchPs := rfl
@[simp] theorem dev_stepRecord_jobs (d : Dev) (job kind tile : Nat) (bs : List Byte) : (d.stepRecord job kind tile bs).jobs = d.jobs := rfl
@[simp] theorem dev_stepRecord_outbox (d : Dev) (job kind tile : Nat) (bs : List Byte) : (d.stepRecord job kind tile bs).outbox = d.outbox := rfl
@[simp] theorem dev_stepRecord_inner (d : Dev) (job kind tile : Nat) (bs : List Byte) : (d.stepRecord job kind tile bs).inner = d.inner := rfl
@[simp] theorem dev_stepRecord_conns (d : Dev) (job kind tile : Nat) (bs : List Byte) : (d.stepRecord job kind tile bs).conns = d.conns := rfl
@[simp] theorem dev_stepRecord_laneMoves (d : Dev) (job kind tile : Nat) (bs : List Byte) : (d.stepRecord job kind tile bs).laneMoves = d.laneMoves := rfl
@[simp] theorem dev_stepRecord_training (d : Dev) (job kind tile : Nat) (bs : List Byte) : (d.stepRecord job kind tile bs).training = d.training := rfl
@[simp] theorem dev_stepRecord_credits (d : Dev) (job kind tile : Nat) (bs : List Byte) : (d.stepRecord job kind tile bs).credits = d.credits := rfl
@[simp] theorem dev_stepRecord_owed (d : Dev) (job kind tile : Nat) (bs : List Byte) : (d.stepRecord job kind tile bs).owed = d.owed := rfl
@[simp] theorem dev_stepRecord_paused (d : Dev) (job kind tile : Nat) (bs : List Byte) : (d.stepRecord job kind tile bs).paused = d.paused := rfl
@[simp] theorem dev_stepRecord_laserPs (d : Dev) (job kind tile : Nat) (bs : List Byte) : (d.stepRecord job kind tile bs).laserPs = d.laserPs := rfl
@[simp] theorem dev_stepRecord_couplers (d : Dev) (job kind tile : Nat) (bs : List Byte) : (d.stepRecord job kind tile bs).couplers = d.couplers := rfl
@[simp] theorem dev_stepRecord_spares (d : Dev) (job kind tile : Nat) (bs : List Byte) : (d.stepRecord job kind tile bs).spares = d.spares := rfl
@[simp] theorem dev_stepRecord_buckets (d : Dev) (job kind tile : Nat) (bs : List Byte) : (d.stepRecord job kind tile bs).buckets = d.buckets := rfl
@[simp] theorem dev_stepRecord_homes (d : Dev) (job kind tile : Nat) (bs : List Byte) : (d.stepRecord job kind tile bs).homes = d.homes := rfl
@[simp] theorem dev_stepRecord_deferred (d : Dev) (job kind tile : Nat) (bs : List Byte) : (d.stepRecord job kind tile bs).deferred = d.deferred := rfl
@[simp] theorem dev_stepRecord_carries (d : Dev) (job kind tile : Nat) (bs : List Byte) : (d.stepRecord job kind tile bs).carries = d.carries := rfl
@[simp] theorem dev_stepRecord_ledger (d : Dev) (job kind tile : Nat) (bs : List Byte) : (d.stepRecord job kind tile bs).ledger = d.ledger := rfl
@[simp] theorem dev_stepRecord_honoured (d : Dev) (job kind tile : Nat) (bs : List Byte) : (d.stepRecord job kind tile bs).honoured = d.honoured := rfl
@[simp] theorem dev_stepRecord_layoutCur (d : Dev) (job kind tile : Nat) (bs : List Byte) : (d.stepRecord job kind tile bs).layoutCur = d.layoutCur := rfl
@[simp] theorem dev_stepRecord_layoutPrev (d : Dev) (job kind tile : Nat) (bs : List Byte) : (d.stepRecord job kind tile bs).layoutPrev = d.layoutPrev := rfl
@[simp] theorem dev_stepRecord_layoutNext (d : Dev) (job kind tile : Nat) (bs : List Byte) : (d.stepRecord job kind tile bs).layoutNext = d.layoutNext := rfl
@[simp] theorem dev_stepRecord_fences (d : Dev) (job kind tile : Nat) (bs : List Byte) : (d.stepRecord job kind tile bs).fences = d.fences := rfl
@[simp] theorem dev_stepRecord_barRanks (d : Dev) (job kind tile : Nat) (bs : List Byte) : (d.stepRecord job kind tile bs).barRanks = d.barRanks := rfl
@[simp] theorem dev_stepRecord_barSent (d : Dev) (job kind tile : Nat) (bs : List Byte) : (d.stepRecord job kind tile bs).barSent = d.barSent := rfl
@[simp] theorem dev_stepRecord_ringK (d : Dev) (job kind tile : Nat) (bs : List Byte) : (d.stepRecord job kind tile bs).ringK = d.ringK := rfl
@[simp] theorem dev_stepRecord_ringFullFrom (d : Dev) (job kind tile : Nat) (bs : List Byte) : (d.stepRecord job kind tile bs).ringFullFrom = d.ringFullFrom := rfl
@[simp] theorem dev_stepRecord_xferRecs (d : Dev) (job kind tile : Nat) (bs : List Byte) : (d.stepRecord job kind tile bs).xferRecs = d.xferRecs := rfl
@[simp] theorem dev_stepRecord_cmds (d : Dev) (job kind tile : Nat) (bs : List Byte) : (d.stepRecord job kind tile bs).cmds = d.cmds := rfl
@[simp] theorem dev_stepRecord_cmdNext (d : Dev) (job kind tile : Nat) (bs : List Byte) : (d.stepRecord job kind tile bs).cmdNext = d.cmdNext := rfl
@[simp] theorem dev_stepRecord_turn (d : Dev) (job kind tile : Nat) (bs : List Byte) : (d.stepRecord job kind tile bs).turn = d.turn := rfl
@[simp] theorem dev_stepRecord_trust (d : Dev) (job kind tile : Nat) (bs : List Byte) : (d.stepRecord job kind tile bs).trust = d.trust := rfl
@[simp] theorem dev_stepRecord_latches (d : Dev) (job kind tile : Nat) (bs : List Byte) : (d.stepRecord job kind tile bs).latches = d.latches := rfl
@[simp] theorem dev_stepRecord_hostVer (d : Dev) (job kind tile : Nat) (bs : List Byte) : (d.stepRecord job kind tile bs).hostVer = d.hostVer := rfl
@[simp] theorem dev_stepRecord_winTenant (d : Dev) (job kind tile : Nat) (bs : List Byte) : (d.stepRecord job kind tile bs).winTenant = d.winTenant := rfl
@[simp] theorem dev_stepRecord_mirrors (d : Dev) (job kind tile : Nat) (bs : List Byte) : (d.stepRecord job kind tile bs).mirrors = d.mirrors := rfl
@[simp] theorem dev_stepRecord_power (d : Dev) (job kind tile : Nat) (bs : List Byte) : (d.stepRecord job kind tile bs).power = d.power := rfl
@[simp] theorem dev_stepRecord_flits (d : Dev) (job kind tile : Nat) (bs : List Byte) : (d.stepRecord job kind tile bs).flits = d.flits := rfl
@[simp] theorem dev_stepRecord_linkFailed (d : Dev) (job kind tile : Nat) (bs : List Byte) : (d.stepRecord job kind tile bs).linkFailed = d.linkFailed := rfl
@[simp] theorem dev_stepRecord_wh (d : Dev) (job kind tile : Nat) (bs : List Byte) : (d.stepRecord job kind tile bs).wh = d.wh := rfl
@[simp] theorem dev_stepRecord_whIv (d : Dev) (job kind tile : Nat) (bs : List Byte) : (d.stepRecord job kind tile bs).whIv = d.whIv := rfl
@[simp] theorem dev_stepRecord_whAc (d : Dev) (job kind tile : Nat) (bs : List Byte) : (d.stepRecord job kind tile bs).whAc = d.whAc := rfl
@[simp] theorem dev_stepRecord_freeCtr (d : Dev) (job kind tile : Nat) (bs : List Byte) : (d.stepRecord job kind tile bs).freeCtr = d.freeCtr := rfl

/-! ## Tile.wr -/

@[simp] theorem tile_wr_logical (t : Tile) (off v : Nat) : (t.wr off v).logical = t.logical := rfl
@[simp] theorem tile_wr_job (t : Tile) (off v : Nat) : (t.wr off v).job = t.job := rfl
@[simp] theorem tile_wr_loft (t : Tile) (off v : Nat) : (t.wr off v).loft = t.loft := rfl
@[simp] theorem tile_wr_loftErr (t : Tile) (off v : Nat) : (t.wr off v).loftErr = t.loftErr := rfl
@[simp] theorem tile_wr_loftCe (t : Tile) (off v : Nat) : (t.wr off v).loftCe = t.loftCe := rfl
@[simp] theorem tile_wr_pocket (t : Tile) (off v : Nat) : (t.wr off v).pocket = t.pocket := rfl
@[simp] theorem tile_wr_hist (t : Tile) (off v : Nat) : (t.wr off v).hist = t.hist := rfl
@[simp] theorem tile_wr_cache (t : Tile) (off v : Nat) : (t.wr off v).cache = t.cache := rfl
@[simp] theorem tile_wr_vregs (t : Tile) (off v : Nat) : (t.wr off v).vregs = t.vregs := rfl
@[simp] theorem tile_wr_vpend (t : Tile) (off v : Nat) : (t.wr off v).vpend = t.vpend := rfl
@[simp] theorem tile_wr_entries (t : Tile) (off v : Nat) : (t.wr off v).entries = t.entries := rfl
@[simp] theorem tile_wr_entryErr (t : Tile) (off v : Nat) : (t.wr off v).entryErr = t.entryErr := rfl
@[simp] theorem tile_wr_desc (t : Tile) (off v : Nat) : (t.wr off v).desc = t.desc := rfl
@[simp] theorem tile_wr_descErr (t : Tile) (off v : Nat) : (t.wr off v).descErr = t.descErr := rfl
@[simp] theorem tile_wr_keys (t : Tile) (off v : Nat) : (t.wr off v).keys = t.keys := rfl
@[simp] theorem tile_wr_fp (t : Tile) (off v : Nat) : (t.wr off v).fp = t.fp := rfl
@[simp] theorem tile_wr_sc (t : Tile) (off v : Nat) : (t.wr off v).sc = t.sc := rfl
@[simp] theorem tile_wr_next (t : Tile) (off v : Nat) : (t.wr off v).next = t.next := rfl
@[simp] theorem tile_wr_last (t : Tile) (off v : Nat) : (t.wr off v).last = t.last := rfl
@[simp] theorem tile_wr_t0 (t : Tile) (off v : Nat) : (t.wr off v).t0 = t.t0 := rfl
@[simp] theorem tile_wr_minDelay (t : Tile) (off v : Nat) : (t.wr off v).minDelay = t.minDelay := rfl
@[simp] theorem tile_wr_woken (t : Tile) (off v : Nat) : (t.wr off v).woken = t.woken := rfl
@[simp] theorem tile_wr_issuedAny (t : Tile) (off v : Nat) : (t.wr off v).issuedAny = t.issuedAny := rfl
@[simp] theorem tile_wr_eng (t : Tile) (off v : Nat) : (t.wr off v).eng = t.eng := rfl
@[simp] theorem tile_wr_loftWait (t : Tile) (off v : Nat) : (t.wr off v).loftWait = t.loftWait := rfl
@[simp] theorem tile_wr_xfers (t : Tile) (off v : Nat) : (t.wr off v).xfers = t.xfers := rfl
@[simp] theorem tile_wr_flagTc (t : Tile) (off v : Nat) : (t.wr off v).flagTc = t.flagTc := rfl
@[simp] theorem tile_wr_freezes (t : Tile) (off v : Nat) : (t.wr off v).freezes = t.freezes := rfl
@[simp] theorem tile_wr_fetch (t : Tile) (off v : Nat) : (t.wr off v).fetch = t.fetch := rfl
@[simp] theorem tile_wr_handTc (t : Tile) (off v : Nat) : (t.wr off v).handTc = t.handTc := rfl
@[simp] theorem tile_wr_march (t : Tile) (off v : Nat) : (t.wr off v).march = t.march := rfl
@[simp] theorem tile_wr_unsent (t : Tile) (off v : Nat) : (t.wr off v).unsent = t.unsent := rfl
@[simp] theorem tile_wr_second (t : Tile) (off v : Nat) : (t.wr off v).second = t.second := rfl
@[simp] theorem tile_wr_workSeq (t : Tile) (off v : Nat) : (t.wr off v).workSeq = t.workSeq := rfl
@[simp] theorem tile_wr_verify (t : Tile) (off v : Nat) : (t.wr off v).verify = t.verify := rfl
@[simp] theorem tile_wr_rep (t : Tile) (off v : Nat) : (t.wr off v).rep = t.rep := rfl
@[simp] theorem tile_wr_ieeeOk (t : Tile) (off v : Nat) : (t.wr off v).ieeeOk = t.ieeeOk := rfl
@[simp] theorem tile_wr_failed (t : Tile) (off v : Nat) : (t.wr off v).failed = t.failed := rfl
@[simp] theorem tile_wr_loftFailed (t : Tile) (off v : Nat) : (t.wr off v).loftFailed = t.loftFailed := rfl
@[simp] theorem tile_wr_shadow (t : Tile) (off v : Nat) : (t.wr off v).shadow = t.shadow := rfl
@[simp] theorem tile_wr_arrayEnd (t : Tile) (off v : Nat) : (t.wr off v).arrayEnd = t.arrayEnd := rfl
@[simp] theorem tile_wr_outReads (t : Tile) (off v : Nat) : (t.wr off v).outReads = t.outReads := rfl
@[simp] theorem tile_wr_trace (t : Tile) (off v : Nat) : (t.wr off v).trace = t.trace := rfl
@[simp] theorem tile_wr_barStop (t : Tile) (off v : Nat) : (t.wr off v).barStop = t.barStop := rfl
@[simp] theorem tile_wr_switchWait (t : Tile) (off v : Nat) : (t.wr off v).switchWait = t.switchWait := rfl
@[simp] theorem tile_wr_scrub (t : Tile) (off v : Nat) : (t.wr off v).scrub = t.scrub := rfl
@[simp] theorem tile_wr_scrubTc (t : Tile) (off v : Nat) : (t.wr off v).scrubTc = t.scrubTc := rfl
@[simp] theorem tile_wr_start (t : Tile) (off v : Nat) : (t.wr off v).start = t.start := rfl

end Sys2Proof.Laws
end

