-- ==== Sys2Proof/Laws/Ops.lean ====
section
/-! SUPPORT. What the shared operations do, said once: bit fields, registers and tiles read after a write, and the outcomes of the
operations that every command goes through. -/

namespace Sys2Proof.Laws

open Sys2Proof.Machine

/-! ## Bit fields -/

/-- A number cut at two places. -/
theorem cut (v lo n : Nat) : v = v / 2 ^ (lo + n) * 2 ^ (lo + n) + v / 2 ^ lo % 2 ^ n * 2 ^ lo + v % 2 ^ lo := by
  have h1 : v = v / 2 ^ lo * 2 ^ lo + v % 2 ^ lo := (Nat.div_add_mod' v (2 ^ lo)).symm
  have h2 : v / 2 ^ lo = v / 2 ^ lo / 2 ^ n * 2 ^ n + v / 2 ^ lo % 2 ^ n := (Nat.div_add_mod' _ _).symm
  have h3 : v / 2 ^ lo / 2 ^ n = v / 2 ^ (lo + n) := by rw [Nat.div_div_eq_div_mul, ← Nat.pow_add]
  calc v = v / 2 ^ lo * 2 ^ lo + v % 2 ^ lo := h1
    _ = (v / 2 ^ (lo + n) * 2 ^ n + v / 2 ^ lo % 2 ^ n) * 2 ^ lo + v % 2 ^ lo := by rw [← h3, ← h2]
    _ = _ := by rw [Nat.add_mul, Nat.mul_assoc, ← Nat.pow_add, Nat.add_comm n lo]

theorem bits_eq (v hi lo : Nat) : bits v hi lo = v / 2 ^ lo % 2 ^ (hi + 1 - lo) := by
  simp [bits, Nat.shiftRight_eq_div_pow]

/-- A field written, the bits around it kept. -/
theorem setBits_eq (v hi lo x : Nat) :
    setBits v hi lo x = v / 2 ^ (lo + (hi + 1 - lo)) * 2 ^ (lo + (hi + 1 - lo)) + x % 2 ^ (hi + 1 - lo) * 2 ^ lo + v % 2 ^ lo := by
  have h := cut v lo (hi + 1 - lo)
  simp only [setBits, bits_eq, Nat.shiftLeft_eq]
  omega

/-- The field written is the value read. -/
theorem bits_setBits_same (v hi lo x : Nat) : bits (setBits v hi lo x) hi lo = x % 2 ^ (hi + 1 - lo) := by
  rw [bits_eq, setBits_eq]
  generalize hi + 1 - lo = n
  have h2 : v % 2 ^ lo < 2 ^ lo := Nat.mod_lt _ (Nat.two_pow_pos lo)
  have h3 : (v / 2 ^ (lo + n) * 2 ^ (lo + n) + x % 2 ^ n * 2 ^ lo + v % 2 ^ lo) =
      (v / 2 ^ (lo + n) * 2 ^ n + x % 2 ^ n) * 2 ^ lo + v % 2 ^ lo := by
    rw [Nat.add_mul, Nat.mul_assoc, ← Nat.pow_add, Nat.add_comm n lo]
  rw [h3, Nat.add_comm, Nat.add_mul_div_right _ _ (Nat.two_pow_pos lo), Nat.div_eq_of_lt h2, Nat.zero_add, Nat.add_comm,
    Nat.add_mul_mod_self_right, Nat.mod_mod]

/-- A field of a word is smaller than its width allows. -/
theorem bits_lt (v hi lo : Nat) : bits v hi lo < 2 ^ (hi + 1 - lo) := by
  rw [bits_eq]; exact Nat.mod_lt _ (Nat.two_pow_pos _)

/-- Bits of a word whose field has been written: the field's own from the value, the others as they were. -/
theorem testBit_setBits (v hi lo x i : Nat) (h : lo ≤ hi) :
    (setBits v hi lo x).testBit i = if lo ≤ i ∧ i ≤ hi then x.testBit (i - lo) else v.testBit i := by
  rw [setBits_eq]
  have hn : lo + (hi + 1 - lo) = hi + 1 := by omega
  rw [hn]
  have e : v / 2 ^ (hi + 1) * 2 ^ (hi + 1) + x % 2 ^ (hi + 1 - lo) * 2 ^ lo + v % 2 ^ lo =
      2 ^ (hi + 1) * (v / 2 ^ (hi + 1)) + (2 ^ lo * (x % 2 ^ (hi + 1 - lo)) + v % 2 ^ lo) := by
    rw [Nat.add_assoc, Nat.mul_comm (2 ^ (hi + 1)), Nat.mul_comm (2 ^ lo)]
  have h2 : v % 2 ^ lo < 2 ^ lo := Nat.mod_lt _ (Nat.two_pow_pos lo)
  have hx : x % 2 ^ (hi + 1 - lo) < 2 ^ (hi + 1 - lo) := Nat.mod_lt _ (Nat.two_pow_pos _)
  have h1 : 2 ^ lo * (x % 2 ^ (hi + 1 - lo)) + v % 2 ^ lo < 2 ^ (hi + 1) := by
    have : 2 ^ (hi + 1) = 2 ^ lo * 2 ^ (hi + 1 - lo) := by rw [← Nat.pow_add, hn]
    rw [this]
    have : 2 ^ lo * (x % 2 ^ (hi + 1 - lo)) + 2 ^ lo ≤ 2 ^ lo * 2 ^ (hi + 1 - lo) := by
      rw [← Nat.mul_succ]; exact Nat.mul_le_mul_left _ hx
    omega
  rw [e, Nat.testBit_two_pow_mul_add _ h1, Nat.testBit_two_pow_mul_add _ h2]
  by_cases hi1 : i < hi + 1
  · rw [if_pos hi1]
    by_cases hlo : i < lo
    · rw [if_pos hlo, if_neg (by omega), Nat.testBit_mod_two_pow]; simp [hlo]
    · rw [if_neg hlo, if_pos (by omega), Nat.testBit_mod_two_pow]
      have : i - lo < hi + 1 - lo := by omega
      simp [this]
  · rw [if_neg hi1, if_neg (by omega), Nat.testBit_div_two_pow]
    congr 1; omega

/-- A field apart from the one written is as it was. -/
theorem bits_setBits_other (v hi lo x hi' lo' : Nat) (h : lo ≤ hi) (hd : hi' < lo ∨ hi < lo') :
    bits (setBits v hi lo x) hi' lo' = bits v hi' lo' := by
  apply Nat.eq_of_testBit_eq
  intro i
  simp only [bits, Nat.testBit_mod_two_pow, Nat.testBit_shiftRight]
  by_cases hi1 : i < hi' + 1 - lo'
  · simp only [hi1, decide_true, Bool.true_and]
    rw [testBit_setBits _ _ _ _ _ h, if_neg (by omega)]
  · simp [hi1]

theorem setBits_lt (v hi lo x k : Nat) (hv : v < 2 ^ k) (h : lo ≤ hi) (hk : hi < k) : setBits v hi lo x < 2 ^ k := by
  apply Nat.lt_pow_two_of_testBit
  intro i hik
  rw [testBit_setBits _ _ _ _ _ h, if_neg (by omega)]
  exact Nat.testBit_lt_two_pow (Nat.lt_of_lt_of_le hv (Nat.pow_le_pow_right (by decide) hik))

/-! ## Registers -/

/-- A register word is 32 bits wide (R9). -/
theorem regGet_lt (tab : List RegDesc) (rs : Regs) (off : Nat) : regGet tab rs off < 2 ^ 32 := by
  unfold regGet
  split <;> exact BitVec.isLt _

theorem regGet_regPut_same (tab : List RegDesc) (rs : Regs) (off v : Nat) : regGet tab (regPut rs off v) off = v % 2 ^ 32 := by
  simp [regGet, regPut]

theorem regGet_regPut_other (tab : List RegDesc) (rs : Regs) (off off' v : Nat) (h : off' ≠ off) :
    regGet tab (regPut rs off v) off' = regGet tab rs off' := by
  simp [regGet, regPut, sget?_sput_other _ _ _ _ h]

theorem tile_rd_lt (t : Tile) (off : Nat) : t.rd off < 2 ^ 32 := regGet_lt _ _ _
theorem dev_rd_lt (d : Dev) (off : Nat) : d.rd off < 2 ^ 32 := regGet_lt _ _ _

@[simp] theorem tile_rd_wr_same (t : Tile) (off v : Nat) : (t.wr off v).rd off = v % 2 ^ 32 := regGet_regPut_same _ _ _ _
theorem tile_rd_wr_other (t : Tile) (off off' v : Nat) (h : off' ≠ off) : (t.wr off v).rd off' = t.rd off' :=
  regGet_regPut_other _ _ _ _ _ h
@[simp] theorem dev_rd_wr_same (d : Dev) (off v : Nat) : (d.wr off v).rd off = v % 2 ^ 32 := regGet_regPut_same _ _ _ _
theorem dev_rd_wr_other (d : Dev) (off off' v : Nat) (h : off' ≠ off) : (d.wr off v).rd off' = d.rd off' :=
  regGet_regPut_other _ _ _ _ _ h

theorem tile_rd_setFld_other (t : Tile) (off off' hi lo v : Nat) (h : off' ≠ off) : (t.setFld off hi lo v).rd off' = t.rd off' :=
  tile_rd_wr_other _ _ _ _ h
theorem dev_rd_setFld_other (d : Dev) (off off' hi lo v : Nat) (h : off' ≠ off) : (d.setFld off hi lo v).rd off' = d.rd off' :=
  dev_rd_wr_other _ _ _ _ h

/-- A field of a tile register written is the value read. -/
theorem tile_fld_setFld_same (t : Tile) (off hi lo v : Nat) (h : lo ≤ hi) (hk : hi < 32) :
    (t.setFld off hi lo v).fld off hi lo = v % 2 ^ (hi + 1 - lo) := by
  simp only [Tile.fld, Tile.setFld, tile_rd_wr_same]
  rw [Nat.mod_eq_of_lt (setBits_lt _ _ _ _ 32 (tile_rd_lt t off) h hk), bits_setBits_same]

/-- A field of a device register written is the value read. -/
theorem dev_fld_setFld_same (d : Dev) (off hi lo v : Nat) (h : lo ≤ hi) (hk : hi < 32) :
    (d.setFld off hi lo v).fld off hi lo = v % 2 ^ (hi + 1 - lo) := by
  simp only [Dev.fld, Dev.setFld, dev_rd_wr_same]
  rw [Nat.mod_eq_of_lt (setBits_lt _ _ _ _ 32 (dev_rd_lt d off) h hk), bits_setBits_same]

/-- Another field of the same tile register is as it was. -/
theorem tile_fld_setFld_other (t : Tile) (off hi lo v hi' lo' : Nat) (h : lo ≤ hi) (hk : hi < 32) (hd : hi' < lo ∨ hi < lo') :
    (t.setFld off hi lo v).fld off hi' lo' = t.fld off hi' lo' := by
  simp only [Tile.fld, Tile.setFld, tile_rd_wr_same]
  rw [Nat.mod_eq_of_lt (setBits_lt _ _ _ _ 32 (tile_rd_lt t off) h hk), bits_setBits_other _ _ _ _ _ _ h hd]

/-- Another field of the same device register is as it was. -/
theorem dev_fld_setFld_other (d : Dev) (off hi lo v hi' lo' : Nat) (h : lo ≤ hi) (hk : hi < 32) (hd : hi' < lo ∨ hi < lo') :
    (d.setFld off hi lo v).fld off hi' lo' = d.fld off hi' lo' := by
  simp only [Dev.fld, Dev.setFld, dev_rd_wr_same]
  rw [Nat.mod_eq_of_lt (setBits_lt _ _ _ _ 32 (dev_rd_lt d off) h hk), bits_setBits_other _ _ _ _ _ _ h hd]

/-! ## Tiles -/

@[simp] theorem tile_setTile_same (d : Dev) (p : Nat) (t : Tile) : (d.setTile p t).tile p = t := by
  simp [Dev.setTile, Dev.tile]

theorem tile_setTile_other (d : Dev) (p q : Nat) (t : Tile) (h : q ≠ p) : (d.setTile p t).tile q = d.tile q := by
  simp [Dev.setTile, Dev.tile, sget_sset_other _ _ _ _ _ h]

@[simp] theorem tile_onTile_same (d : Dev) (p : Nat) (f : Tile → Tile) : (d.onTile p f).tile p = f (d.tile p) := by
  simp [Dev.onTile]

theorem tile_onTile_other (d : Dev) (p q : Nat) (f : Tile → Tile) (h : q ≠ p) : (d.onTile p f).tile q = d.tile q :=
  tile_setTile_other _ _ _ _ h

@[simp] theorem tile_wr (d : Dev) (off v p : Nat) : (d.wr off v).tile p = d.tile p := rfl
@[simp] theorem dev_rd_setTile (d : Dev) (p : Nat) (t : Tile) (off : Nat) : (d.setTile p t).rd off = d.rd off := rfl
@[simp] theorem dev_rd_onTile (d : Dev) (p : Nat) (f : Tile → Tile) (off : Nat) : (d.onTile p f).rd off = d.rd off := rfl

/-! ## Commands -/

/-- What a host command of one row can answer: the state with its effect on the device that has begun it. -/
theorem runCmd_next (op k : Nat) (s t : State) (f : Dev → Cmd → Dev) :
    runCmd op k s f = .next t ↔ ∃ c, sget? s.dev.cmds k = some c ∧ c.op = op ∧ c.started = false ∧
      s.dev.mustWait k c = false ∧ t = { s with dev := f (s.dev.begin k) c } := by
  unfold runCmd
  cases h : sget? s.dev.cmds k with
  | none => simp
  | some c =>
    simp only [Option.some.injEq, exists_eq_left']
    split
    · rename_i hc; simp [hc, eq_comm]
    · rename_i hc
      simp only [reduceCtorEq, false_iff, not_and]
      exact fun a b c => absurd ⟨a, b, c⟩ hc

/-- A host command that may start starts. -/
theorem runCmd_eq (op k : Nat) (s : State) (f : Dev → Cmd → Dev) (c : Cmd) (h : sget? s.dev.cmds k = some c) (ho : c.op = op)
    (hs : c.started = false) (hw : s.dev.mustWait k c = false) :
    runCmd op k s f = .next { s with dev := f (s.dev.begin k) c } :=
  (runCmd_next op k s _ f).2 ⟨c, h, ho, hs, hw, rfl⟩

/-- A host command answered at once: its effect, then its final reply. -/
theorem runDone_eq (op k : Nat) (s : State) (f : Dev → Cmd → Dev × Nat × Nat) (c : Cmd) (h : sget? s.dev.cmds k = some c)
    (ho : c.op = op) (hs : c.started = false) (hw : s.dev.mustWait k c = false) :
    runDone op k s f = .next { s with dev := (f (s.dev.begin k) c).1.final k (f (s.dev.begin k) c).2.1 (f (s.dev.begin k) c).2.2 } :=
  runCmd_eq op k s _ c h ho hs hw

theorem runCmd_pending (op k : Nat) (s t : State) (f : Dev → Cmd → Dev) (h : runCmd op k s f = .next t) : t.pending = s.pending := by
  obtain ⟨c, -, -, -, -, rfl⟩ := (runCmd_next op k s t f).1 h
  rfl

theorem runDone_pending (op k : Nat) (s t : State) (f : Dev → Cmd → Dev × Nat × Nat) (h : runDone op k s f = .next t) :
    t.pending = s.pending := runCmd_pending op k s t _ h

/-- What the issue of a table entry can answer. -/
theorem issueCommand_next (op : Nat) (chk : Dev → Issue → Option Bad) (eff : Dev → Issue → Dev) (p : Nat) (s t : State) :
    issueCommand op chk eff p s = .next t ↔
      p < 272 ∧ ∃ x, (s.dev.tile p).mayIssue op = some x ∧ t = { s with dev := s.dev.sequence chk eff p x } := by
  unfold issueCommand
  split
  · rename_i hp
    cases h : (s.dev.tile p).mayIssue op with
    | none => simp
    | some x => simp [hp, eq_comm]
  · rename_i hp; simp [hp]

theorem issueCommand_pending (op : Nat) (chk : Dev → Issue → Option Bad) (eff : Dev → Issue → Dev) (p : Nat) (s t : State)
    (h : issueCommand op chk eff p s = .next t) : t.pending = s.pending := by
  obtain ⟨-, x, -, rfl⟩ := (issueCommand_next op chk eff p s t).1 h
  rfl

/-- What a write of the host to BAR0 can answer. -/
theorem hostWriteTo_next (off v : Nat) (s t : State) :
    hostWriteTo off v s = .next t ↔
      (off < barEnd ∧ off % 4 = 0) ∧ s.dev.reach = true ∧ t = { s with dev := s.dev.barWrite off (v % 2 ^ 32) } := by
  unfold hostWriteTo
  split
  · rename_i h; split
    · rename_i hr; simp [h, hr, eq_comm]
    · rename_i hr; simp [h, hr]
  · rename_i h; simp [h]

/-- What an event of the Weighhouse can answer. -/
theorem whRun_next (s t : State) (f : Dev → Dev) :
    whRun s f = .next t ↔ s.dev.wh.on = true ∧ t = { s with dev := (f s.dev).whFell } := by
  unfold whRun
  split
  · rename_i h; simp [h, eq_comm]
  · rename_i h; simp [h]

/-- What an access of management can answer. -/
theorem mgmt_next (ok : Bool) (s t : State) (f : Dev → Dev) :
    mgmt ok s f = .next t ↔ ok = true ∧ s.dev.power.stby = true ∧ t = { s with dev := f s.dev } := by
  unfold mgmt
  split
  · rename_i h; split
    · rename_i hr; simp [h, hr, eq_comm]
    · rename_i hr; simp [h, hr]
  · rename_i h; simp [h]

end Sys2Proof.Laws
end

