-- ==== Sys2Proof/Laws/Logs.lean ====
section
/-! SUPPORT. What writing a record can change: registers, the Daybook, host memory (the event queue) and interrupts, and nothing else
of the device. -/

namespace Sys2Proof.Laws

open Sys2Proof.Machine

/-- A device that differs from `d` in registers, logs, host memory and interrupts alone. -/
def LogsOnly (d d' : Dev) : Prop := ∃ r i h m, d' = { d with regs := r, integ := i, hostMem := h, msix := m }

theorem LogsOnly.refl (d : Dev) : LogsOnly d d := ⟨_, _, _, _, rfl⟩

theorem LogsOnly.trans {a b c : Dev} (h : LogsOnly a b) (k : LogsOnly b c) : LogsOnly a c := by
  obtain ⟨r, i, h, m, rfl⟩ := h
  obtain ⟨r', i', h', m', rfl⟩ := k
  exact ⟨r', i', h', m', rfl⟩

theorem LogsOnly.foldl {α : Type} (f : Dev → α → Dev) (hf : ∀ d x, LogsOnly d (f d x)) (l : List α) (d : Dev) :
    LogsOnly d (l.foldl f d) := by
  induction l generalizing d with
  | nil => exact LogsOnly.refl d
  | cons x l ih => exact (hf d x).trans (ih _)

theorem logsOnly_wr (d : Dev) (off v : Nat) : LogsOnly d (d.wr off v) := ⟨_, _, _, _, rfl⟩
theorem logsOnly_setFld (d : Dev) (off hi lo v : Nat) : LogsOnly d (d.setFld off hi lo v) := ⟨_, _, _, _, rfl⟩

theorem logsOnly_orBits (d : Dev) (off m : Nat) : LogsOnly d (d.orBits off m) := by
  unfold Dev.orBits; split
  · exact LogsOnly.refl d
  · exact logsOnly_wr ..

theorem logsOnly_bump (d : Dev) (off n : Nat) : LogsOnly d (d.bump off n) := by
  unfold Dev.bump; split
  · exact LogsOnly.refl d
  · exact logsOnly_wr ..

theorem logsOnly_hostWrite (d : Dev) (a : Nat) (bs : List Byte) : LogsOnly d (d.hostWrite a bs) := ⟨_, _, _, _, rfl⟩
theorem logsOnly_raise (d : Dev) (v : Nat) : LogsOnly d (d.raise v) := ⟨_, _, _, _, rfl⟩

theorem logsOnly_errRing (d : Dev) (seq : Nat) (bs : List Byte) : LogsOnly d (d.errRing seq bs) :=
  LogsOnly.foldl _ (fun d _ => logsOnly_wr d _ _) _ _

theorem logsOnly_daybook (d : Dev) (bs : List Byte) : LogsOnly d (d.daybookAppend bs) := ⟨_, _, _, _, rfl⟩

theorem logsOnly_firstFailure (d : Dev) (type : Nat) (bs : List Byte) (h : Nat) : LogsOnly d (d.firstFailure type bs h) := by
  unfold Dev.firstFailure
  dsimp only
  split
  · exact ⟨_, _, _, _, rfl⟩
  · split
    · exact ⟨_, _, _, _, rfl⟩
    · exact LogsOnly.refl d

theorem logsOnly_eventQueue (d : Dev) (type : Nat) (bs : List Byte) : LogsOnly d (d.eventQueue type bs) := by
  unfold Dev.eventQueue
  dsimp only
  split
  · split
    · exact logsOnly_bump ..
    · exact (((logsOnly_hostWrite ..).trans (logsOnly_hostWrite ..)).trans (logsOnly_setFld ..)).trans (logsOnly_raise ..)
  · exact LogsOnly.refl d

theorem logsOnly_errWrite (d : Dev) (merged : Nat) (r : ErrIn) : LogsOnly d (d.errWrite merged r) := by
  unfold Dev.errWrite
  dsimp only
  exact (((((logsOnly_errRing ..).trans (logsOnly_bump ..)).trans (logsOnly_daybook ..)).trans (logsOnly_firstFailure ..)).trans
    (logsOnly_orBits ..)).trans (logsOnly_eventQueue ..)

/-- An error record changes registers, logs, host memory and interrupts alone (R389 to R394). -/
theorem logsOnly_errRecord (d : Dev) (r : ErrIn) : LogsOnly d (d.errRecord r) := by
  have hi : ∀ (d : Dev) (c : Sparse (Nat × Nat)), LogsOnly d { d with integ := { d.integ with ceLast := c } } :=
    fun d c => ⟨_, _, _, _, rfl⟩
  unfold Dev.errRecord
  dsimp only
  split
  · split
    · split
      · exact (logsOnly_orBits ..).trans (hi _ _)
      · exact ((logsOnly_orBits ..).trans (hi _ _)).trans (logsOnly_errWrite ..)
    · exact ((logsOnly_orBits ..).trans (hi _ _)).trans (logsOnly_errWrite ..)
  · exact logsOnly_errWrite ..

theorem logsOnly_codeReport (d : Dev) (o : SheafOutcome) (flips : Nat) (r : ErrIn) : LogsOnly d (d.codeReport o flips r) := by
  unfold Dev.codeReport
  dsimp only
  split
  · exact LogsOnly.refl d
  · exact logsOnly_errRecord ..
  · exact logsOnly_errRecord ..

/-- Reading a table entry reports the decode of its words and changes nothing else (R188, R368). -/
theorem logsOnly_entryReports (d : Dev) (p b i : Nat) : LogsOnly d (d.entryReports p b i) :=
  LogsOnly.foldl _ (fun _ _ => logsOnly_codeReport ..) _ _

/-- Reading descriptors reports the decode of their halves and changes nothing else (R368). -/
theorem logsOnly_descReports (d : Dev) (p e i : Nat) : LogsOnly d (d.descReports p e i) :=
  LogsOnly.foldl _ (fun d _ => LogsOnly.foldl _ (fun _ _ => logsOnly_codeReport ..) _ d) _ _

theorem logsOnly_binderLog (d : Dev) (step job reason status cls tile rank detail : Nat) :
    LogsOnly d (d.binderLog step job reason status cls tile rank detail) := by
  unfold Dev.binderLog
  dsimp only
  split
  · exact logsOnly_bump ..
  · exact (LogsOnly.foldl _ (fun d _ => logsOnly_wr d _ _) _ _).trans (logsOnly_setFld ..)

namespace LogsOnly

variable {d d' : Dev}

theorem tiles (h : LogsOnly d d') : d'.tiles = d.tiles := by obtain ⟨r, i, x, m, rfl⟩ := h; rfl
theorem tile (h : LogsOnly d d') (p : Nat) : d'.tile p = d.tile p := by obtain ⟨r, i, x, m, rfl⟩ := h; rfl
theorem clock (h : LogsOnly d d') : d'.clock = d.clock := by obtain ⟨r, i, x, m, rfl⟩ := h; rfl
theorem fuses (h : LogsOnly d d') : d'.fuses = d.fuses := by obtain ⟨r, i, x, m, rfl⟩ := h; rfl
theorem jobs (h : LogsOnly d d') : d'.jobs = d.jobs := by obtain ⟨r, i, x, m, rfl⟩ := h; rfl
theorem cmds (h : LogsOnly d d') : d'.cmds = d.cmds := by obtain ⟨r, i, x, m, rfl⟩ := h; rfl
theorem grnMem (h : LogsOnly d d') : d'.grnMem = d.grnMem := by obtain ⟨r, i, x, m, rfl⟩ := h; rfl
theorem power (h : LogsOnly d d') : d'.power = d.power := by obtain ⟨r, i, x, m, rfl⟩ := h; rfl
theorem wh (h : LogsOnly d d') : d'.wh = d.wh := by obtain ⟨r, i, x, m, rfl⟩ := h; rfl
theorem trust (h : LogsOnly d d') : d'.trust = d.trust := by obtain ⟨r, i, x, m, rfl⟩ := h; rfl
theorem persist (h : LogsOnly d d') : d'.persist = d.persist := by obtain ⟨r, i, x, m, rfl⟩ := h; rfl
theorem parts (h : LogsOnly d d') : d'.parts = d.parts := by obtain ⟨r, i, x, m, rfl⟩ := h; rfl

end LogsOnly

end Sys2Proof.Laws
end

