-- ==== Sys2Proof/Tests/Slice0.lean ====
section
/-! SUPPORT. Tests. Witnesses: for each statement that has hypotheses, states and operands that meet the hypotheses of its clauses. Checks
of well-formedness: for each check a command that it takes and one that it refuses. Small checks of single commands, their expected
values from the spec's rules. -/

open Sys2Proof Sys2Proof.Machine

section

set_option Elab.async false

/-! ## Small states -/

/-- A device with registers written. -/
def tPut (d : Dev) (rs : List (Nat × Nat)) : Dev := rs.foldl (fun d r => d.wr r.1 r.2) d
/-- A tile with registers written. -/
def tSet (t : Tile) (rs : List (Nat × Nat)) : Tile := rs.foldl (fun t r => t.wr r.1 r.2) t

/-- A table entry: opcode, handles H0 to H2, SFLAG (none: SEN clear), ARGS, IMM; DELAY 1. -/
def tEnt (op h0 h1 h2 : Nat) (sf : Option Nat) (args imm : Nat) : Nat :=
  op + 2 ^ 16 + h0 * 2 ^ 32 + h1 * 2 ^ 40 + h2 * 2 ^ 48 + (match sf with | some f => 2 ^ 62 + f * 2 ^ 56 | none => 0) +
    args * 2 ^ 80 + imm * 2 ^ 192

/-- A descriptor word of owner tile 0, tenant 0, epoch 0: space, format, base, rows, columns; STRIDE 64. -/
def tDesc (space fmt base rows cols : Nat) : Nat :=
  space + fmt * 2 ^ 3 + base * 2 ^ 8 + 0x100000 * 2 ^ 49 + (rows - 1) * 2 ^ 90 + (cols - 1) * 2 ^ 106 + 64 * 2 ^ 122 + 2 ^ 255

/-- Descriptors 0 to 7. -/
def tDescs : Sparse (BitVec 256) :=
  [tDesc 0 fI32 0 1 1, tDesc 0 fFP32 0x80000 1 1, tDesc 0 fI8 0x180000 1 1, tDesc 0 fG8 0x40 1 32, tDesc 0 fStook 0x100 1 1,
   tDesc 0 fG16 0x140 1 1, tDesc 1 fI32 0 1 1, tDesc 0 fFP32 0 1 1].zipIdx.map (fun x => (x.2, BitVec.ofNat 256 x.1))

/-- ARGS of a vector command: SUB, FMT, operands and destination in registers, and more bits. -/
def tVec (sub fmt more : Nat) : Nat := sub + fmt * 32 + 2 ^ 25 + 2 ^ 27 + 2 ^ 29 + 8 * 2 ^ 43 + more

/-- A table with one entry of every row of `tableRows`, in its order. -/
def tTable : List Nat :=
  [tEnt 0x00 0 0 0 none 0 0, tEnt 0x01 0 0 0 none 0 0, tEnt 0x02 0 0 0 none 2 5, tEnt 0x03 0 0 0 none 2 0, tEnt 0x04 0 0 0 none 0 0,
   tEnt 0x05 0 0 0 none 0 3, tEnt 0x06 0 0 0 none 3 (2 ^ 64 - 1), tEnt 0x07 0 0 0 none 0 0x10, tEnt 0x08 0 0 0 none 1 3,
   tEnt 0x09 0 0 0 none 0 7, tEnt 0x0A 0 0 0 none 0 0, tEnt 0x10 3 3 0 none 0 0, tEnt 0x11 0 0 0 none 0 0, tEnt 0x20 0 0 0 none 0 0,
   tEnt 0x21 3 0 0 none (31 * 2 ^ 11) 0, tEnt 0x22 1 7 2 none 0 0, tEnt 0x30 0 0 0 none (tVec 0 8 0) 0,
   tEnt 0x31 0 0 0 none (tVec 0 8 0) 0, tEnt 0x32 0 0 0 none (tVec 0 8 (12 * 2 ^ 49)) 0, tEnt 0x33 0 0 0 none (tVec 0 8 0) 0,
   tEnt 0x34 0 0 0 none (tVec 0 8 0) 0, tEnt 0x35 0 0 0 none (tVec 0 8 0) 0, tEnt 0x36 0 0 0 none (tVec 0 9 0) 0,
   tEnt 0x37 0 0 0 none (tVec 0 8 0) 0, tEnt 0x38 0 0 0 none (tVec 0 8 (8 * 2 ^ 55)) 0, tEnt 0x40 6 0 0 (some 1) (2 ^ 15 + 1) 0,
   tEnt 0x41 0 6 0 (some 1) (2 ^ 15 + 1) 0, tEnt 0x50 0 0 0 none 0 0, tEnt 0x51 0 0 0 none 0 0, tEnt 0x52 0 0 0 none (2 ^ 13) 0,
   tEnt 0x53 1 4 4 (some 1) 0 0]

/-- An enabled tile in RUN for job 1, before entry `k` of `tTable`. -/
def tTile (k : Nat) : Tile :=
  let t := { Tile.reset with logical := some 0, job := 1, desc := tDescs, next := k }
  let t := { t with keys := [(0, 0)], ieeeOk := true, entries := tTable.zipIdx.map (fun x => (x.2, BitVec.ofNat 256 x.1)) }
  tSet t [(tTILE_CTRL, 1), (tSEQ_STATUS, 0x31), (tTBL_META_ENT, 32), (tTHR_KEYS, 1)]

/-- Job 1 in slot 0, this device its rank 0 of two. -/
def tJob : Job :=
  { id := 1, tenant := 0, tiles := 1, rank := 0, ranks := 2, step := 0, running := true, abandoned := false, rebuild := false, halted := false,
    replay := false, sealed := false, cmd := none, held := [], lastStep := none, bounds := 0, cause := 0, again := [], cursor := 0,
    ending := none, reshard := none, numCtrl := 0, keys := [], escBase := 0, escSlots := 0, regions := [], groups := [], rounded := false,
    width := 0, winnower := 0, offset := 0, chain := List.replicate 48 0, chains := [], sealedS := none, before := [], beforeNext := [],
    committed := true, commitTo := 0, deltas := [], inboxes := [], snapNow := false, snapDue := false, snapping := none, snapDone := [],
    snapPend := false, captures := 0, replayEnd := 0 }

/-- Registers of a module that runs job 1: tile 0, a barrier slot, a ring, a group of two ranks, port 0 up, stack 0 on. -/
def tRegs : List (Nat × Nat) :=
  [(dREPAIR_MAP, 2 ^ 31), (dBAR_CFG, 2 ^ 10), (dBAR_JOB, 1), (dBAR_HOME, 2 * 2 ^ 16), (dBAR_MASK, 1), (dRING_CFG, 5 * 2 ^ 18 + 6 * 2 ^ 24 + 2 ^ 30),
   (dRING_JOB, 1), (dRING_GEOM, 1 + 2 ^ 8), (dRING_STATE, 2 ^ 18), (dCOLL_CFG, 2 ^ 9 + 2 ^ 10 + 7 * 2 ^ 13), (dCOLL_JOB, 1), (dCOLL_MASK, 1),
   (dCOLL_RANKS, 2 * 2 ^ 16), (dCOLL_STRIDE, 1), (dCOLL_DEADLINE, 1 + 2 ^ 16), (dBND_STAGE_SIZE, 1), (dJOB_RANKS, 1), (dJOB_RANKS_HI, 2 * 2 ^ 15),
   (dRANK_CFG, 3), (dRANK_CFG + 0x40, 1), (dRANK_PORTS + 0x40, 1), (dENG_CTRL, 5), (dENG_STATUS, 2), (dPORT_STATUS, 7), (dGRN_CTRL, 1),
   (dWIN_JOB, 1), (dWIN_CFG, 2 ^ 31 + 3 * 2 ^ 16 + 1), (dWIN_SIZE, 1), (dLASER_CTRL, 1), (dLASER_STATUS, 0x11), (dLEDGER_CAP, 16),
   (dGLB_START, 0x11)]

/-- A module that runs job 1 on tile 0. -/
def tDev (t : Tile) : Dev :=
  tPut { Dev.reset with tiles := [(0, t)], parts := [⟨0, 0, 257 * 4096⟩], jobs := [(0, tJob)] } tRegs

/-- The module before entry `k` of `tTable`. -/
def tS (k : Nat) : State := ⟨[], tDev (tTile k)⟩
/-- The module with registers and its tile's registers written. -/
def tR (rs : List (Nat × Nat)) : State := ⟨[], tPut (tDev (tTile 0)) rs⟩
/-- The module with another tile 0. -/
def tT (t : Tile) : State := ⟨[], tDev t⟩

/-- The module whose tile 0 runs a table that holds entry `e` alone. -/
def tE (e : Nat) : State := tT { tTile 0 with entries := [(0, BitVec.ofNat 256 e)] }
/-- The module with its tile 0 changed by a function. -/
def tF (f : Tile → Tile) : State := tT (f (tTile 0))

/-! ## Witnesses: tables and tiles -/

theorem witness_StepRunsFront : ({ tS 0 with pending := [.nop 0, .mma 0] } : State).pending = .nop 0 :: [.mma 0] := by decide
theorem witness_StepIdleTicks : (tS 0).pending = [] := by decide
theorem witness_QueueIsFifo : ∃ t, exec .wakeInEdge State.reset = .next t := ⟨_, rfl⟩
theorem witness_StepKeepsMemories : State.reset.memOk ∧ ∃ t, step State.reset = .next t := ⟨by unfold State.memOk; decide, _, rfl⟩
theorem witness_StepKeepsFuses : ∃ t, step State.reset = .next t := ⟨_, rfl⟩

theorem witness_TableRowsExecute_sequencer :
    (tS 0).dev.executes 0x00 nopCheck 0 1 ∧ (tS 1).dev.executes 0x01 noCheck 0 1 ∧ (tS 2).dev.executes 0x02 loopSetCheck 0 1 ∧
    (tS 3).dev.executes 0x03 loopBackCheck 0 1 ∧ (tS 4).dev.executes 0x04 bankSwitchCheck 0 1 ∧ (tS 5).dev.executes 0x05 noCheck 0 1 ∧
    (tS 6).dev.executes 0x06 descSetCheck 0 1 ∧ (tS 7).dev.executes 0x07 descSetCheck 0 1 ∧ (tS 8).dev.executes 0x08 loftHandCheck 0 1 ∧
    (tS 9).dev.executes 0x09 noCheck 0 1 ∧ (tS 10).dev.executes 0x0A noCheck 0 1 := by
  unfold Dev.executes Dev.waitOver; and_intros <;> decide +kernel
theorem witness_TableRowsExecute_array :
    (tS 11).dev.executes 0x10 mmaCheck 0 1 ∧ (tS 12).dev.executes 0x11 pocketLoadCheck 0 1 ∧ (tS 13).dev.executes 0x20 storeCheck 0 1 ∧
    (tS 14).dev.executes 0x21 scoutCheck 0 1 ∧ (tS 15).dev.executes 0x22 scoreCheck 0 1 := by
  unfold Dev.executes Dev.waitOver; and_intros <;> decide +kernel
theorem witness_TableRowsExecute_vector :
    (tS 16).dev.executes 0x30 vopCheck 0 1 ∧ (tS 17).dev.executes 0x31 vfuncCheck 0 1 ∧ (tS 18).dev.executes 0x32 vcvtCheck 0 1 ∧
    (tS 19).dev.executes 0x33 vdrawCheck 0 1 ∧ (tS 20).dev.executes 0x34 vsortCheck 0 1 ∧ (tS 21).dev.executes 0x35 vdotCheck 0 1 ∧
    (tS 22).dev.executes 0x36 vred64Check 0 1 ∧ (tS 23).dev.executes 0x37 vtestCheck 0 1 ∧ (tS 24).dev.executes 0x38 vpoutCheck 0 1 := by
  unfold Dev.executes Dev.waitOver; and_intros <;> decide +kernel
theorem witness_TableRowsExecute_transfers :
    (tS 25).dev.executes 0x40 (dmaCheck true) 0 1 ∧ (tS 26).dev.executes 0x41 (dmaCheck false) 0 1 ∧
    (tS 27).dev.executes 0x50 flagSendCheck 0 1 ∧ (tS 28).dev.executes 0x51 barrierCheck 0 1 ∧
    (tS 29).dev.executes 0x52 ringPushCheck 0 1 ∧ (tS 30).dev.executes 0x53 collectiveCheck 0 1 := by
  unfold Dev.executes Dev.waitOver; and_intros <;> decide +kernel

/-- An MMA entry whose predicate, flag 3 at 1, does not hold. -/
def tPred : State := tE (tEnt 0x10 3 3 0 none 0 0 + 2 ^ 15 + 2 ^ 14 + 3 * 2 ^ 8)
theorem witness_PredicateSkips :
    (0x10, Instr.mma) ∈ tableRows ∧ (tPred.dev.tile 0).mayIssue 0x10 = some 1 ∧ tPred.dev.waitOver 0 1 ∧ tPred.dev.predHolds 0 1 = false := by
  refine ⟨by simp [tableRows], ?_⟩
  unfold Dev.waitOver; decide +kernel

theorem witness_LoopCounters :
    (tS 2).dev.executes 0x02 loopSetCheck 0 1 ∧ (tS 3).dev.executes 0x03 loopBackCheck 0 1 ∧
    ((tF (fun t => t.setState stIDLE)).dev.tile 0).enabled = true ∧ ((tF (fun t => t.setState stIDLE)).dev.tile 0).state = stIDLE := by
  unfold Dev.executes Dev.waitOver; and_intros <;> decide +kernel

theorem witness_ProgramDescriptors :
    (tS 6).dev.executes 0x06 descSetCheck 0 1 ∧ (tS 7).dev.executes 0x07 descSetCheck 0 1 := by
  unfold Dev.executes Dev.waitOver; and_intros <;> decide +kernel

theorem witness_SequencerStates :
    ((tS 1).dev.executes 0x01 noCheck 0 1 ∧ ((tS 1).dev.tile 0).barStop = false) ∧ (tS 4).dev.executes 0x04 bankSwitchCheck 0 1 ∧
    (tS 9).dev.executes 0x09 noCheck 0 1 ∧ (tS 8).dev.executes 0x08 loftHandCheck 0 1 := by
  unfold Dev.executes Dev.waitOver; and_intros <;> decide +kernel

/-- A set from outside for flag 39 of tile 0, and for flag 6, which a ring binds. -/
theorem witness_FlagSetArrives :
    0 < (tS 0).dev.gradeTiles ∧ (tS 0).dev.physOf 0 = some 0 ∧ ((tS 0).dev.tile 0).job = 1 ∧
    (tS 0).dev.bound ((tS 0).dev.tile 0) 39 = false ∧ (tS 0).dev.bound ((tS 0).dev.tile 0) 6 = true := by decide +kernel

/-- Tile 0 waits for flag 7; WAIT_LIMIT 1. -/
def tWait : State := tT (tSet { tTile 0 with entries := [(0, BitVec.ofNat 256 (tEnt 0x00 0 0 0 none 0 0 + (7 + 2 ^ 6 + 2 ^ 7) * 2 ^ 64))] }
  [(tSEQ_STATUS, 0x32), (tSEQ_CTRL, 1)])
/-- The array holds a command done at tc 1, the first that completes. -/
def tCmd : EngCmd := ⟨.array, 1, 1, [4], 0, []⟩
def tDone : State := tF (fun t => { t with eng := [tCmd] })
def tFetch : State := tF (fun t => { t with fetch := [⟨0, [1]⟩] })
/-- An access of master 2 waits for bank 0. -/
def tLw : LoftWait := ⟨.array, 0, 0, 0, 0, 2, 1, [], none, none⟩
def tLate : State := tF (fun t => tSet { t with loftWait := [tLw], minDelay := 1024 } [(tLOFT_CTRL, 1)])

theorem witness_WaitsEnd_timeout :
    (tWait.dev.tile 0).state = stWAIT ∧ (tWait.dev.tile 0).woken = none ∧ (tWait.dev.tile 0).fld tSEQ_CTRL 7 0 ≠ 0 ∧
    (tWait.dev.tile 0).clearTo ((tWait.dev.tile 0).counted + (tWait.dev.tile 0).fld tSEQ_CTRL 7 0 * 2 ^ 24) = true ∧
    (tWait.dev.tile 0).fld tLOG_COUNT 6 0 < 64 ∧ ((tS 0).dev.tile 0).fld tSEQ_CTRL 7 0 = 0 := by decide +kernel
theorem witness_WaitsEnd_commands :
    (engOf 0 = some .array ∧ (tDone.dev.tile 0).eng.find? (fun c => c.eng == .array && (tDone.dev.tile 0).completesNext c) = some tCmd) ∧
    ((tFetch.dev.tile 0).fetch = ⟨0, [1]⟩ :: [] ∧ (tFetch.dev.tile 0).eng.all (fun c => c.flags.isEmpty || 0 ≤ c.done) = true) ∧
    (tLate.dev.tile 0).firstWait 2 = some tLw ∧ (tLate.dev.tile 0).clearTo ((tLate.dev.tile 0).waitEnds tLw) = true ∧
    (tLate.dev.tile 0).due = some 1024 ∧ (tLate.dev.tile 0).waitEnds tLw ≤ 1024 ∧ tLw.cross = none ∧ (tLate.dev.tile 0).state ≠ stHALTED := by decide +kernel

/-- Bank 7 of tile 0 is owned by the vector unit; bank 0 is a ring bank of the Binder. -/
def tOwn : State := tF (fun t => tSet t [(tLOFT_OWN_NOW, 0x37777776), (tLOFT_CTRL, 0x100)])
theorem witness_LoftAtomics :
    (atomOk 3 0 (2 ^ 22 - 4) = true ∧ atomOk 3 1 (2 ^ 22 - 8) = true ∧ (tOwn.dev.tile 0).owner (bankOf (2 ^ 22 - 4)) = 3 ∧
      ((tOwn.dev.tile 0).isRing (bankOf (2 ^ 22 - 4)) && (3 : Nat) == mBN) = false) ∧
    (atomOk 3 4 (2 ^ 22 - 16) = true ∧ (tOwn.dev.tile 0).owner (bankOf (2 ^ 22 - 16)) = 3 ∧
      ((tOwn.dev.tile 0).isRing (bankOf (2 ^ 22 - 16)) && (3 : Nat) == mBN) = false) ∧
    atomOk 3 0 2 = false ∧ ((tOwn.dev.tile 0).isRing (bankOf 0) && mBN == mBN) = true := by decide +kernel

/-- Tile 1 is disabled and runs a march of bank 1. -/
def tMarch : March := ⟨2, false, false, 42640⟩
def tM : State :=
  let d := (tDev (tTile 0)).setTile 1 { Tile.reset with march := some tMarch }
  ⟨[], d.onTile 0 (fun t => tSet { t with unsent := [(3, 5)], second := [(0, ⟨0, 0, false, false, 1, 0, 3, 5, 0⟩)] } [(tLOFT_OWN_NOW, 0x77777777)])⟩
theorem witness_TileUpkeep :
    ((tM.dev.tile 0).march = none ∧ (tM.dev.tile 0).owns mXT (bits 0xFF01 15 8) = true) ∧ (tM.dev.tile 1).march.isSome = true ∧
    ((tM.dev.tile 1).march = some tMarch ∧ tMarch.rowsOk [2048 + 1039] = true ∧ tMarch.preserving = false) ∧
    (1 ∉ tM.dev.fuses.fusedOff ∧ (tM.dev.tile 1).enabled = false) ∧
    (tM.dev.tile 0).second = (0, ⟨0, 0, false, false, 1, 0, 3, 5, 0⟩) :: [] := by decide +kernel

/-! ## Witnesses: barriers, rings, transfers, the Granary -/

/-- Tile 0 waits at round 65,535 of barrier slot 0. -/
def tBar : State :=
  let d := tPut (tDev (tSet (tTile 0) [(tBAR_TILE, 0xFFFF0001)])) [(dBAR_STATE, 0x1FFFF)]
  ⟨[], { d with barSent := [(0, true)] }⟩
theorem witness_BarriersAcrossDevices :
    (tBar.dev.barRound 0 = 65535 ∧ sget false tBar.dev.barSent 0 = true ∧ tBar.dev.barMember 0 0 = true ∧ tBar.dev.physOf 0 = some 0 ∧
      (tBar.dev.tile 0).state ≠ stHALTED ∧ (tBar.dev.tile 0).fld tBAR_TILE 0 0 = 1 ∧ (tBar.dev.tile 0).fld tBAR_TILE 7 2 = 0 ∧
      (tBar.dev.tile 0).fld tBAR_TILE 31 16 = 65535) ∧
    sget false (tS 0).dev.barSent 0 = false ∧
    (tBar.dev.barValid 0 = true ∧ tBar.dev.barReg 0 dBAR_JOB = 1 ∧ 1 ∉ sget [] tBar.dev.barRanks 0 ∧ tBar.dev.rankIsSelf 1 1 = false) ∧
    (tS 0).dev.rankIsSelf 1 0 = true ∧ bits (tBar.dev.barReg 0 dBAR_HOME) 31 16 = 2 := by and_intros <;> decide +kernel

/-- A slot of ring 0 is on its way back within the device. -/
def tRing : State := ⟨[], { (tS 0).dev with inner := [(1, .slotReturn 0)] }⟩
/-- Ring 0's producer is rank 1; its bank of tile 0 is a ring bank. -/
def tRing2 : State := ⟨[], tPut (tDev (tSet (tTile 0) [(tLOFT_CTRL, 0x100)])) [(dRING_PEERS, 1)]⟩
/-- A transfer of tile 0 under flag 1 from the table's entry 25. -/
def tX (kind : XferKind) : Xfer :=
  { kind := kind, flag := some 1, running := true, out := true, banks := 0, ret := 7, master := 4, entry := BitVec.ofNat 256 (tEnt 0x40 6 0 0 (some 1) (2 ^ 15 + 1) 0),
    index := 25, src := BitVec.ofNat 256 (tDesc 1 fI32 0 1 1), dst := BitVec.ofNat 256 (tDesc 0 fI32 0 1 1), issued := 1, waits := 0, deferred := [],
    held := false, aux := 0, status := none, note := 0 }
/-- The module with that transfer under way, on bank 0 as a ring bank. -/
def tXs (kind : XferKind) : State := tF (fun t => { t with xfers := [tX kind] })
theorem witness_RingEvents :
    (tRing.dev.ringValid 0 = true ∧ tRing.dev.ringProdHere 0 = true ∧ tRing.dev.inner.contains (tRing.dev.ringReg 0 dRING_JOB, .slotReturn 0) = true) ∧
    (tRing2.dev.ringValid 0 = true ∧ tRing2.dev.ringConsHere 0 = true ∧ tRing2.dev.ringProdHere 0 = false ∧
      tRing2.dev.inSlot0 0 (Desc.ofNat (tDesc 0 fI32 0 1 1)) = true ∧ 0 < tRing2.dev.ringN 0 ∧
      tRing2.dev.physOf (bits (tRing2.dev.ringReg 0 dRING_CFG) 17 9) = some 0 ∧ (tRing2.dev.tile 0).isRing (tRing2.dev.ringBank 0) = true ∧
      tRing2.dev.ringFull 0 + 1 < 512) ∧
    (((tXs .push).dev.tile 0).xfers.find? (fun x => x.running && x.kind == .push && x.aux % 16 == 0) = some (tX .push) ∧
      (tX .push).waits = 0 ∧ (tX .push).held = false ∧ (tXs .push).dev.slotOnWay 0 ((tX .push).aux / 16) 0 = false) := by
  and_intros <;> decide +kernel

/-- Bucket 0 of group slot 0: decided, this device in the set and ready. -/
def tBucket : Bucket :=
  { slot := 0, bucket := 0, step := 0, op := 0, tid := 0, tiles := [0], ready := true, contrib := [(0, 0)], folded := 0, included := some [0, 1],
    self := 0, ledger := 0 }
/-- A collective under way whose bucket stands as given. -/
def tColl (x : Bucket) : State :=
  let f := { tX .coll with src := BitVec.ofNat 256 (tDesc 0 fFP32 0 1 1), dst := BitVec.ofNat 256 (tDesc 0 fStook 0x100 1 1) }
  let f := { f with entry := BitVec.ofNat 256 (tEnt 0x53 7 4 4 (some 1) 0 0) }
  ⟨[], { (tF (fun t => { t with xfers := [f] })).dev with buckets := [x] }⟩
theorem witness_TransfersComplete :
    (((tXs .dmaIn).dev.tile 0).xfers.find? (fun x => x.running && x.flag == some 1 && (x.kind == .dmaIn || x.kind == .dmaOut)) = some (tX .dmaIn) ∧
      (tXs .dmaIn).dev.tiles.any (fun e => e.2.loftWait.any (fun w => w.cross == some (0, 1))) = false ∧
      (tXs .dmaIn).dev.dmaMayLand 0 (tX .dmaIn) = true) ∧
    (((tColl tBucket).dev.tile 0).collOf 1).isSome = true ∧ (tColl tBucket).dev.findBucket 0 0 0 = some tBucket ∧
    tBucket.included = some [0, 1] ∧ tBucket.ready = true ∧
    (tColl { tBucket with included := none, op := 4 }).dev.findBucket 0 0 0 = some { tBucket with included := none, op := 4 } ∧
    isSum 4 = false := by
  and_intros <;> decide +kernel

theorem witness_GranaryAccesses :
    0 < grnEnd ∧ (tS 0).dev.grnOn (grnMap 0).1 = true ∧ 0 < (tS 0).dev.top ∧
    (tS 0).dev.beingCopied (grnMap 0).1 (pageOfX (grnMap 0).2) (colOfX (grnMap 0).2) = false ∧ sget 0 (tS 0).dev.grnErr 0 = 0 := by
  and_intros <;> decide +kernel

theorem witness_ErrorsAndScrub :
    (tR [(dINT_CTRL, 1), (dGLN_POS, 2 ^ 25 - 1)]).dev.fld dINT_CTRL 0 0 = 1 ∧
    (tR [(dINT_CTRL, 1), (dGLN_POS, 2 ^ 25 - 1)]).dev.fld dGLN_POS 24 0 + 1 = 2 ^ 25 ∧
    (tR [(dINT_CTRL, 1)]).dev.fld dGLN_POS 24 0 + 1 < 2 ^ 25 := by decide +kernel

/-- Row 3 of bank 63 of pseudo-channel 63 is tracked. -/
def tHammer : State :=
  ⟨[], (tS 0).dev.setStack 0 { Stack.reset with hammer := [(hammerKey 63 63, [(3, 5)])] }⟩
theorem witness_StackUpkeep :
    tHammer.dev.grnOn 0 = true ∧ sget [] (tHammer.dev.stack 0).hammer (hammerKey 63 63) = [(3, 5)] ∧ tHammer.dev.calDue 0 127 = true := by
  and_intros <;> decide +kernel

/-- Page 5 of stack 0 is ordered to retire. -/
def tOrder : State := ⟨[], (tS 0).dev.setStack 0 { Stack.reset with orders := [5] }⟩
/-- A page of stack 0 is being copied, `c` its granule. -/
def tCopy (c : Nat) : State := ⟨[], tPut ((tS 0).dev.setStack 0 { Stack.reset with copying := some 0 }) [(dGRN_RETIRE, c * 2 ^ 20), (dGRN_REMAP, 2 ^ 31 + 2 ^ 30 + 5), (dGRN_REMAP_DST, 2 ^ 20 - 1)]⟩
/-- A retirement of stack 0 stands as given. -/
def tRet (r : StackRet) : State := ⟨[], { (tS 0).dev with stackRet := some r }⟩
theorem witness_Retirement :
    (tOrder.dev.grnOn 0 = true ∧ (tOrder.dev.stack 0).orders = 5 :: [] ∧ (tOrder.dev.stack 0).copying = none ∧ tOrder.dev.freeRemap 0 = some 0 ∧
      tOrder.dev.topReserve 0 = some (2 ^ 20 - 1)) ∧
    (((tCopy 31).dev.stack 0).copying = some 0 ∧ (tCopy 31).dev.fld (grnOff dGRN_RETIRE 0) 24 20 = 31 ∧
      (tCopy 30).dev.fld (grnOff dGRN_RETIRE 0) 24 20 < 31) ∧
    (((tRet (.copying 0 0 31)).dev.stack 0).copying = none ∧ (tRet (.copying 0 0 31)).dev.stackRet = some (.copying 0 0 31)) ∧
    (tRet (.ordered 0)).dev.stackRet = some (.ordered 0) := by and_intros <;> decide +kernel

/-! ## Witnesses: the network -/

/-- A swap of lane 15 of engine 0 is agreed. -/
def tMove : LaneMove := ⟨0, 15, 10000000, true⟩
def tMoves : State := ⟨[], { (tS 0).dev with laneMoves := [tMove] }⟩
/-- Port 3 of engine 0 trains. -/
def tTrain : State := ⟨[], { tMoves.dev with training := [3] }⟩
theorem witness_LaneSwaps :
    ((tS 0).dev.engineOn 0 = true ∧ (tS 0).dev.laneMoves.any (fun m => m.eng == 0 && m.lane == 15) = false) ∧
    ((tS 0).dev.direct 0 ((tS 0).dev.laneSlot 0 15) = true ∧ (tS 0).dev.fld (engOff dENG_CTRL 0) 2 2 = 1 ∧ ((tS 0).dev.freeSpareLane 0).isSome = true) ∧
    (tMoves.dev.laneMoves.find? (fun m => m.eng == 0 && m.lane == 15 && !tMoves.dev.training.contains (4 * 0 + tMoves.dev.laneSlot 0 15)) = some tMove ∧
      tMoves.dev.freeSpareLane 0 = some 16) ∧
    (tTrain.dev.training.contains (4 * 0 + 3) = true ∧ tTrain.dev.fld (engOff dENG_STATUS 0) 1 1 = 1) := by and_intros <;> decide +kernel

/-- The couplers of engine 0 move to the alternate module. -/
def tCouple : State := ⟨[], { (tS 0).dev with couplers := [(0, true)] }⟩
theorem witness_LaserFeeds :
    ([0, 3].all (fun j => ((tS 0).dev.enginePorts 0).contains j) = true ∧ (tS 0).dev.fld (engOff dENG_STATUS 0) 1 1 = 1 ∧
      (tS 0).dev.laserLit (feedModule 0 true) = false ∧ (tR [(dLASER_STATUS, 0x33)]).dev.laserLit (feedModule 0 true) = true) ∧
    ((tS 0).dev.laserPresent 0 ≠ false ∧ (tS 0).dev.laserPresent 3 ≠ true) ∧
    ((tR [(dLASER_STATUS, 1)]).dev.laserPresent 0 = true ∧ (tR [(dLASER_STATUS, 1)]).dev.fld dLASER_CTRL 0 0 = 1 ∧
      (tR [(dLASER_STATUS, 1)]).dev.laserLit 0 = false ∧ (tR [(dLASER_STATUS, 1)]).dev.fld (engOff dENG_STATUS 1) 0 0 = 0) ∧
    tCouple.dev.couplers.find? (fun c => c.1 == 0) = some (0, true) := by and_intros <;> decide +kernel

theorem witness_PtpClock :
    (0 = (tS 0).dev.fld dPTP_PORT 4 0 ∧ (tS 0).dev.portUp 0 = true ∧ 1000000 < ((2 ^ 63 - 1 : Int) - (tS 0).dev.ptpNs).natAbs) ∧
    (tR [(dPTP_STATUS, 1)]).dev.fld dPTP_STATUS 0 0 = 1 := by and_intros <;> decide +kernel

theorem witness_KeyAgreements :
    (tS 0).dev.agreePort 0 = true ∧ (tS 0).dev.trust.admission = none := by and_intros <;> decide +kernel

/-- The connection to rank 1 in class 1 with given contents. -/
def tConn (c : Conn) : State := ⟨[], { (tS 0).dev with conns := [(connKey 1 1 1, c)] }⟩
/-- Number 2^32 − 1 is expected next. -/
def tWrap : State := tConn { Conn.fresh 0 with expect := 2 ^ 32 - 1 }
theorem witness_WainReceive :
    ((tS 0).dev.portUp 0 = true ∧ (tS 0).dev.fld (psOff 0 0) 2 2 = 1) ∧
    (tWrap.dev.rxRefused 1 1 1 true = none ∧ (tWrap.dev.conn 1 1 1).expect = 2 ^ 32 - 1 ∧ (tWrap.dev.conn 1 1 1).held = []) ∧
    seqBefore 5 (tWrap.dev.conn 1 1 1).expect = false ∧ seqBefore (2 ^ 32 - 2) (tWrap.dev.conn 1 1 1).expect = true ∧
    tWrap.dev.staleEpoch 1 0 = false ∧ tWrap.dev.peerWindow 1 1 true 65532 4 = true := by and_intros <;> decide +kernel

/-- Packet 3 to rank 1 in class 1 is not acknowledged. -/
def tUn : Unacked := ⟨3, .keepalive, 0, 0⟩
def tSent : State := ⟨[], { (tConn { Conn.fresh 0 with unacked := [tUn], next := 4, window := 16 }).dev with owed := [(1, 5)] }⟩
/-- 100 µs on. -/
def tLater : State := ⟨[], { tSent.dev with clock := { tSent.dev.clock with ps := 100000000 } }⟩
theorem witness_WainSend :
    tSent.dev.rxRefused 1 1 1 true = none ∧ (tSent.dev.conn 1 1 1).unacked.find? (fun u => u.seq == 3) = some tUn ∧
    (tSent.dev.direct 0 0 = true ∧ tSent.dev.portUp 0 = true ∧
      (List.range 4).any (fun k => (sget? tSent.dev.owed (0 * 4 + k)).isSome) = true) ∧
    (tR [(dPORT_CFG, 2)]).dev.direct 0 0 = false ∧ tSent.dev.rxRefused 1 1 0 true = none ∧
    (tLater.dev.rankValid 1 1 = true ∧ tLater.dev.rankIsSelf 1 1 = false ∧ tLater.dev.rankLost 1 1 = false ∧
      max (tLater.dev.conn 1 1 0).rxPs (tLater.dev.conn 1 1 0).txPs + 100000000 ≤ tLater.dev.clock.ps) ∧
    (tPut tLater.dev [(dWAIN_CTRL, 3)]).fld dWAIN_CTRL 1 1 = 1 ∧ (tLater.dev.conn 1 1 1).growPs + 8000000 ≤ tLater.dev.clock.ps := by
  and_intros <;> decide +kernel

/-- A fence on job 1 that has not completed. -/
def tFence : State := ⟨[], { (tColl { tBucket with included := none }).dev with fences := [⟨1, none, false, false⟩], tiles := [] }⟩
theorem witness_NetworkControl :
    ((tS 0).dev.rxRefused 1 1 0 false).isSome = true ∧ ((tS 0).dev.rxRefused 7 1 0 true).isSome = true ∧
    (tS 0).dev.rxRefused 1 1 0 true = none ∧ 0 ∈ (tS 0).dev.jobTiles 1 ∧
    (tFence.dev.fences.find? (fun f => f.job == 1 && !f.complete) = some ⟨1, none, false, false⟩ ∧
      tFence.dev.fences.all (fun f => f.job != 1 || tFence.dev.fenceQuiet f) = true) ∧
    ((tS 0).dev.jobRuns 1 = true ∧ (tS 0).dev.rankValid 1 1 = true ∧ (tS 0).dev.rankIsSelf 1 1 = false ∧ (tS 0).dev.rankLost 1 1 = false) := by
  and_intros <;> decide +kernel

/-- A DMA transfer to a peer under way. -/
def tFar : Xfer := { tX .dmaOut with dst := BitVec.ofNat 256 (tDesc 2 fI32 0 1 1), src := BitVec.ofNat 256 (tDesc 0 fI32 0 1 1), entry := BitVec.ofNat 256 (tEnt 0x41 0 6 0 (some 1) (2 ^ 15 + 1 + 2 ^ 17) 0) }
def tFars : State := tF (fun t => { t with xfers := [tFar] })
/-- Layout epoch 2 with the previous layout, epoch 1, kept. -/
def tEpoch : State := ⟨[], tPut (tColl { tBucket with included := none }).dev [(dLAYOUT_EPOCH, 2 + 2 ^ 16), (dLAYOUT_PREV, 2 ^ 31)]⟩
theorem witness_RefusalsArrive :
    (tFars.dev.rxRefused 1 1 0 true = none ∧ (tFars.dev.tile 0).xfers.find? (fun x => x.running && x.flag == some 1 &&
      (x.kind == .dmaIn || x.kind == .dmaOut) && x.viaBinder && x.waits == 0 && !x.held) = some tFar) ∧
    (tBar.dev.barReg 0 dBAR_JOB = 1 ∧ (tBar.dev.tile 0).state = stRUN) ∧
    ((tXs .push).dev.tile 0).xfers.find? (fun x => x.running && x.kind == .push && x.aux % 16 == 0 && x.waits == 0 && !x.held) = some (tX .push) ∧
    (tEpoch.dev.buckets.find? (fun x => x.slot == 0 && x.bucket == 0 && tEpoch.dev.collReg 0 dCOLL_JOB == 1) = some { tBucket with included := none } ∧
      1 ≠ tEpoch.dev.fld dLAYOUT_EPOCH 15 0 ∧ 1 = tEpoch.dev.fld dLAYOUT_EPOCH 31 16 ∧ tEpoch.dev.fld dLAYOUT_PREV 31 31 = 1) := by
  and_intros <;> decide +kernel

/-- Bucket 0 at its home: rank 0 alone is ready. -/
def tHome (ready : List Nat) : State := ⟨[], { (tS 0).dev with homes := [⟨0, 0, 0, ready, 0, 0, false⟩] }⟩
theorem witness_BucketDecisions :
    ((tHome [0]).dev.homed 0 = true ∧ ((tHome [0]).dev.collRanks 0).contains 1 = true ∧ (tHome [0]).dev.rankIsSelf 1 1 = false ∧
      (tHome [0]).dev.honours 0 0 0 = [] ∧ (tHome [0]).dev.homes.find? (fun y => y.slot == 0 && y.bucket == 0 && y.step == 0) = some ⟨0, 0, 0, [0], 0, 0, false⟩) ∧
    ((tHome [0]).dev.homes.find? (fun y => y.slot == 0 && y.bucket == 0 && y.step == 0 && !y.closed) = some ⟨0, 0, 0, [0], 0, 0, false⟩ ∧
      (tHome [0]).dev.deadlinePs 0 = some 1000000 ∧ (tHome [0]).dev.collPolicy 0 = 1 ∧ 1 ∈ (tHome [0]).dev.collRanks 0 ∧ (1 : Nat) ∉ [0] ∧
      (tHome [0]).dev.quorum 0 ≤ [0].length ∧ (tHome [0]).dev.required 0 0 1 = false ∧ (tHome [0]).dev.replays 1 = false ∧
      (tHome [0]).dev.fld dBND_STATUS 2 2 = 0 ∧ ((tHome [0]).dev.collRanks 0).length ≤ (tHome [0]).dev.ledgerRoom) ∧
    ((tPut (tHome [0]).dev [(dCOLL_DEADLINE, 1)]).quorum 0 = 2) ∧
    (bit ((tS 0).dev.collReg 0 dCOLL_CFG) 9 = true ∧ [1].all (fun r => ((tS 0).dev.collRanks 0).contains r) = true ∧
      (tS 0).dev.findBucket 0 0 0 = none ∧ (tS 0).dev.homed 0 = true) ∧
    ((1, Msg.included 0 0 0 [1] 0) ∈ ({ (tS 0).dev with inner := [(1, .included 0 0 0 [1] 0)] } : Dev).inner) := by
  and_intros <;> decide +kernel

/-! ## Witnesses: runs, integrity, persistence -/

/-- The module with its job changed. -/
def tJ (f : Job → Job) : State := ⟨[], { (tF (fun t => t.setState stDONE)).dev with jobs := [(0, f tJob)] }⟩
/-- The run of job 1 has ended and its seal is signed. -/
def tEnd : State := tJ (fun j => { j with sealed := true })
/-- The run of job 1 is abandoned. -/
def tLost : State := tJ (fun j => { j with abandoned := true, cause := 0x30 })
theorem witness_RunsEnd :
    (sget? tEnd.dev.jobs 0 = some { tJob with sealed := true } ∧ tEnd.dev.jobById 1 = some { tJob with sealed := true } ∧
      tEnd.dev.atBoundary { tJob with sealed := true } = true ∧ normsRise ((normEntries []).map (fun e => e.headD 0)) = true ∧
      tEnd.dev.parG 0 = 0) ∧
    (tLost.dev.atRepeat { tJob with abandoned := true, cause := 0x30 } = true ∧
      tLost.dev.needsRestore 0 { tJob with abandoned := true, cause := 0x30 } = true) ∧
    ((tJ id).dev.runDone 1 = true ∧ (tJ id).dev.noHold 1 = true ∧ (tJ id).dev.noSets 1 = true) := by and_intros <;> decide +kernel

/-- Tile 1 verifies tile 0; the comparison stands as given. -/
def tMir (st : Nat) : Mirror := ⟨1, 0, 0, 1, 272, 5, st, (0, 0)⟩
def tWin (st : Nat) : State := ⟨[], { (tF (fun t => (t.setState stDONE).setLevel 43 true)).dev with mirrors := [tMir st] }⟩
theorem witness_WinnowerVotes :
    ((tWin 0).dev.mirrorOf 0 = some (tMir 0) ∧ (tMir 0).state = 0 ∧ [stDONE, stSTOPPED, stHALTED].contains ((tWin 0).dev.tile 0).state = true) ∧
    ((tMir 1).state = 1 ∧ (tMir 1).state ≠ 0) ∧ (tMir 2).state = 2 ∧ (tWin 2).dev.runOver (tMir 2).job = true := by and_intros <;> decide +kernel

/-- The hub domain is powered and the Gleaner and the Silo are on. -/
def tHub : State :=
  let d := tPut (tDev (tTile 0)) [(dINT_CTRL, 1), (dSLO_CTRL, 1)]
  ⟨[], { d with power := { d.power with hub := true, good := true, perst := true, link := true, refOk := true, tclk := true } }⟩
theorem witness_BackgroundWork :
    (tHub.dev.fld dINT_CTRL 0 0 = 1 ∧ tHub.dev.idleTile 271 = true ∧ (tHub.dev.tile 271).scrubAt (tHub.dev.tile 271).scrub = (0, 0)) ∧
    (tHub.dev.fld dSLO_CTRL 0 0 = 1 ∧ tHub.dev.fld dSLO_LIMITS 7 0 < 255) ∧
    (tHub.dev.power.hub = true ∧ [(0, 1), (0x3FFFFFC, 2)].all (fun f => f.1 % 4 == 0 && f.1 < 0x4000000 && (f.2 == 1 || f.2 == 2)) = true) ∧
    tHub.dev.linkFailed.contains 0 = false := by and_intros <;> decide +kernel

/-- Job 1 has a region of one chunk and a parity group of three, this device its position 1. -/
def tPar (f : Job → Job) : State :=
  let s := tJ (fun j => f { j with regions := [(0, 1)] })
  ⟨[], tPut s.dev [(dSNAP_CFG, 3 * 2 ^ 22 + 1 * 2 ^ 26), (dPAR_CHUNKS, 1), (dBI_SIZE, 1), (dPAR_BASE, 16)]⟩
theorem witness_Commits :
    (sget? (tPar id).dev.jobs 0 = some { tJob with regions := [(0, 1)] } ∧ ({ tJob with regions := [(0, 1)] } : Job).chunks.contains 0 = true ∧
      ({ tJob with regions := [(0, 1)] } : Job).dirty 0 = false ∧ (tPar id).dev.beforeFull 0 = false ∧
      (tPut (tPar id).dev [(dBI_USED, 1)]).beforeFull 0 = true) ∧
    (3 ≤ (tPar id).dev.parG 0 ∧ (0 : Nat) ≠ (tPar id).dev.parPos 0 ∧ tJob.expects 1 = true ∧ 0 / (tPar id).dev.parG 0 < (tPar id).dev.parChunks 0 / 2 ∧
      holderP ((tPar id).dev.parG 0) 0 = (tPar id).dev.parPos 0 ∧ shareIndex ((tPar id).dev.parG 0) 0 2 < (tPar id).dev.parG 0 - 2) ∧
    ((tPar id).dev.commitHome tJob = tJob.rank ∧ ((tPar id).dev.liveRanks tJob).contains 1 = true ∧ tJob.inboxes.contains 1 = false) ∧
    (let j : Job := { tJob with rank := 1, committed := false, commitTo := 7 }
     (tPar (fun _ => j)).dev.commitHome j ≠ j.rank ∧ j.committed = false) := by and_intros <;> decide +kernel

/-- Job 1 with an allotment that holds two generations. -/
def tAllot : Allot := ⟨0, 1, [(0, ⟨4, 40, [], [], true⟩), (1, ⟨5, 50, [], [], true⟩)]⟩
def tSnap (f : Job → Job) : State :=
  let s := tJ f
  ⟨[], { (tPut s.dev [(dSLO_CTRL, 1)]) with persist := { s.dev.persist with silo := ⟨[(1, tAllot)], 0⟩ } }⟩
theorem witness_Snapshots :
    (let j : Job := { tJob with snapDue := true }
     (tSnap (fun _ => j)).dev.fld dSLO_CTRL 0 0 = 1 ∧ j.wantsSnap = true ∧ (tSnap (fun _ => j)).dev.snapOnWay j = false ∧
       (tSnap (fun _ => j)).dev.jobAllot j = some tAllot ∧ (tSnap (fun _ => j)).dev.fld dSLO_STATUS 0 0 = 0) ∧
    (tJ (fun j => { j with snapDue := true })).dev.jobAllot tJob = none ∧
    (let j : Job := { tJob with snapping := some 60 }
     j.snapping = some 60 ∧ (tSnap (fun _ => j)).dev.jobAllot j = some tAllot ∧ tAllot.olderSlot = 0) := by and_intros <;> decide +kernel

/-! ## Witnesses: the Weighhouse -/

/-- The Weighhouse with given contents. -/
def tWh (f : Wh → Wh) : State := ⟨[], { tHub.dev with wh := f tHub.dev.wh }⟩
/-- An account open, its last message at 0. -/
def tAcc : WhAccount := ⟨0, 1, 0, 0, 0, 0, 0, List.replicate 30 0, false⟩
theorem witness_EnergyMeasured : (tWh id).dev.wh.on = true := by decide +kernel
theorem witness_WorkCounted :
    (tWh (fun w => { w with accounts := [tAcc], laneDown := 7, expect := [(271, 5)] })).dev.wh.on = true ∧
    (tWh (fun w => { w with accounts := [tAcc] })).dev.wh.accounts[0]? = some tAcc ∧
    ((tWh (fun w => { w with laneDown := 7 })).dev.wh.laneDown.testBit 0 = true ∧
      (tWh (fun w => { w with laneDown := 7 })).dev.wh.laneDown.testBit 3 = false) ∧
    sget 0 (tWh (fun w => { w with expect := [(271, 5)] })).dev.wh.expect 271 = 5 := by and_intros <;> decide +kernel
theorem witness_WeighhouseSupply :
    (let s : State := ⟨[], { State.reset.dev with power := { State.reset.dev.power with stby := false } }⟩
     s.dev.wh.on = true ∧ s.dev.power.stby = false ∧ s.dev.power.hub = false) ∧
    (tWh (fun w => { w with on := false })).dev.wh.on = false ∧ (tWh (fun w => { w with on := false })).dev.wh.cap = true := by
  and_intros <;> decide +kernel
theorem witness_WeighhouseEndpoint :
    (tWh id).dev.wh.on = true ∧ (tWh (fun w => { w with seals := 127 })).dev.wh.seals < 128 ∧ whParamOk 8 4400 = true ∧ whParamOk 7 0 = true := by
  and_intros <;> decide +kernel

/-! ## Witnesses: the host -/

/-- A command of 64 bytes (R503): opcode, job, tenant, body. -/
def tPacket (op job tenant : Nat) (body : List Nat) : List Byte :=
  leBytes 2 op ++ leBytes 2 0 ++ leBytes 4 7 ++ leBytes 4 job ++ leBytes 2 tenant ++ leBytes 2 body.length ++
    (body ++ List.replicate (48 - body.length) 0).map (BitVec.ofNat 8)
/-- The command as queue 0 has it once taken, with a buffer. -/
def tCmdOf (op job tenant : Nat) (body : List Nat) (buf : List Byte) : Cmd := ⟨0, 1, tPacket op job tenant body, buf, false, false⟩
/-- Registers of queue 0: both rings of 16 entries; replies at 0x1000. -/
def tQueue : List (Nat × Nat) :=
  [(dQ_CTRL, 1 + 4 * 16 + 4 * 512), (dSQ_BASE_LO, 0), (dRQ_BASE_LO, 0x1000), (dRQ_TAIL, 0x1000F), (dQ_OUTSTANDING, 1)]
/-- A ready module with a command taken from queue 0 as number 0. -/
def tC (s : State) (c : Cmd) : State := ⟨[], { (tPut s.dev tQueue) with cmds := [(0, c)], cmdNext := 1 }⟩

theorem witness_RegisterAccess :
    tHub.dev.reach = true ∧ tHub.dev.plainWord dGLN_PERIOD = true ∧ (findReg devRegs dGLN_PERIOD).isSome = true ∧
    (0x30000 < barEnd ∧ readOnlyBlock 0x30000 = true ∧ readOnlyBlock 0x5FFFFC = true) ∧ (15 : Nat) ≠ 14 ∧
    (highHalf dPTP_TIME_LO = some dPTP_TIME_HI ∧ highHalf dGLN_PERIOD = none ∧ (inPortDomain dPTP_TIME_LO && tHub.dev.portsOff) = false) := by
  and_intros <;> decide +kernel

/-- A packet waits in queue 0. -/
def tWaiting : State := ⟨[], { tPut tHub.dev (tQueue ++ [(dSQ_TAIL, 1), (dQ_OUTSTANDING, 0), (dRQ_TAIL, 0x10000)]) with hostMem := wrBytes [] 0 (tPacket 0x0101 0 0 []) }⟩
theorem witness_PacketsTaken :
    tWaiting.dev.reach = true ∧ (tWaiting.dev.qReg 0 dQ_OUTSTANDING = 0) ∧ 15 % 2 ^ 16 < 2 ^ bits (tWaiting.dev.qReg 0 dQ_CTRL) 8 4 ∧
    ¬ 16 % 2 ^ 16 < 2 ^ bits (tWaiting.dev.qReg 0 dQ_CTRL) 8 4 ∧ (3 ≤ tWaiting.dev.fld dGLB_START 4 1 ∧ tWaiting.dev.nextQueue = some 0) ∧
    bit (tPut tHub.dev [(dURG_STATUS, 8)] |>.rd dURG_STATUS) 3 = true ∧ bit (tHub.dev.rd dURG_STATUS) 3 = false := by
  and_intros <;> decide +kernel

/-- Stream 5 is active, its ring of 16 records. -/
def tStream : State := ⟨[], tPut tHub.dev [(dTS_CTRL + 0xA00, 1 + 4 * 4)]⟩
theorem witness_TelemetryStreams :
    tStream.dev.reach = true ∧ (tStream.dev.endpoint = true ∧ bit (tStream.dev.rd (dTS_CTRL + 0xA00)) 0 = true) := by
  and_intros <;> decide +kernel

theorem witness_FinalReply :
    (sget? (tC tHub (tCmdOf 0x0101 0 0 [] [])).dev.cmds 0 = some (tCmdOf 0x0101 0 0 [] []) ∧ (tCmdOf 0x0101 0 0 [] []).src < 16) ∧
    (let c := { tCmdOf 0x0101 0 0 [] [] with src := 19 }
     sget? (tC tHub c).dev.cmds 0 = some c ∧ 16 ≤ c.src ∧ c.src < 20 ∧ (tC tHub c).dev.fld dURG_RQ_CTRL 0 0 = 0) := by
  and_intros <;> decide +kernel

/-! ## Witnesses: commands of the host -/

/-- A body from fields: byte, bytes, value. -/
def tBody (fs : List (Nat × Nat)) : List Nat :=
  let n := fs.foldl (fun n f => n + f.2 * 256 ^ f.1) 0
  (List.range 32).map (fun i => n / 256 ^ i % 256)
/-- The module with a command of an opcode, of job 1 and tenant 0, as number 0. -/
def tCs (s : State) (op : Nat) (fs : List (Nat × Nat)) (buf : List Byte) : State := tC s (tCmdOf op 1 0 (tBody fs) buf)
/-- Command 0 of a state. -/
def tCmd0 (op : Nat) (fs : List (Nat × Nat)) (buf : List Byte) : Cmd := tCmdOf op 1 0 (tBody fs) buf
/-- Zero bytes. -/
def tZ (n : Nat) : List Byte := List.replicate n 0
/-- The state that a command leads to. -/
def tNext (o : Host.Outcome State Fault Refusal) : State := match o with | .next t => t | _ => State.reset
/-- Host window 0 of job 1, of 514 host pages, is open. -/
def tHw : State := tNext (exec (.hostWindow 0) (tCs tHub 0x0202 [(4, 0x100000), (12, 33)] []))
/-- The module with its host job in its slot and its tile idle. -/
def tIdle : State := ⟨[], tHub.dev.onTile 0 (fun t => t.setState stIDLE)⟩
/-- A Word32 of table metadata: ENTRIES and NUMERICS, and `n` entries of zeros. -/
def tTab (n : Nat) : List Byte := leBytes 8 0 ++ leBytes 4 n ++ tZ (20 + 32 * n)

/-- The module with its tile idle and its job changed. -/
def tHj (f : Job → Job) : State := ⟨[], { tIdle.dev with jobs := [(0, f tJob)] }⟩
/-- Its job does not run. -/
def tQuiet : State := tHj (fun j => { j with running := false })
/-- Its job has an allotment. -/
def tKept (s : State) : State := ⟨[], { s.dev with persist := { s.dev.persist with silo := ⟨[(1, tAllot)], 0⟩ } }⟩
/-- No job is in a slot. -/
def tFree (s : State) : State := ⟨[], { s.dev with jobs := [] }⟩
/-- Generation 0 of the allotment, a record of zeros. -/
def tRec : State := ⟨[], { tHw.dev with persist := { tHw.dev.persist with silo := ⟨[(1, ⟨0, 1, [(0, ⟨4, 40, [], tZ 8192, true⟩)]⟩)], 0⟩ } }⟩

/-- An item of a job descriptor (R509). -/
def tItem (id : Nat) (v : List Byte) : List Byte := leBytes 2 id ++ leBytes 2 v.length ++ v ++ tZ ((4 - v.length % 4) % 4)
/-- A descriptor: one tile, the numeric settings as at reset, keys 0 and 1, one region of 65 chunks, one before-image. -/
def tDescr (tiles : Nat) : List Byte :=
  tItem 1 (leBytes 32 tiles) ++ tItem 2 [1, 1] ++ tItem 3 (leBytes 4 3 ++ leBytes 16 5 ++ leBytes 16 6) ++ tItem 4 (tZ 12) ++
    tItem 5 (leBytes 4 1 ++ leBytes 8 0 ++ leBytes 4 65) ++ tItem 6 (leBytes 8 (65 * 65536) ++ leBytes 4 1)
/-- No job is in a slot; the tenant's partition holds 1 GiB. -/
def tEmpty : State := ⟨[], { tPut tHub.dev [(dWNW_CTRL, 0)] with jobs := [], parts := [⟨0, 0, 2 ^ 30⟩] }⟩
/-- The fields of JOB_START for a descriptor. -/
def tStart (n : Nat) : List (Nat × Nat) := [(12, n), (16, 0)]
/-- The job at its first step, its tile enabled and idle, before a STEP. -/
def tReady : State :=
  ⟨[], { ((tHj (fun j => { j with running := false, step := 5 })).dev.onTile 0 (fun t => (t.setFld tTILE_CTRL 0 0 1).setState stIDLE)) with fences := [] }⟩

/-- Command 0 of a module may start. -/
@[irreducible] def tMay (s : State) (op : Nat) (fs : List (Nat × Nat)) (buf : List Byte) : Prop := (tCs s op fs buf).mayStart 0 op (tCmd0 op fs buf)
/-- The device as the command's handler has it. -/
def tBeg (s : State) (op : Nat) (fs : List (Nat × Nat)) (buf : List Byte) : Dev := (tCs s op fs buf).dev.begin 0

theorem witness_WindowCommands :
    tMay tHub 0x0201 [(0, 31), (1, 1), (3, 3), (12, 1)] [] ∧
    (tMay tHub 0x0202 [(0, 15), (12, 1)] [] ∧ (tBeg tHub 0x0202 [(0, 15), (12, 1)] []).jobById 1 = some tJob ∧
      bit ((tBeg tHub 0x0202 [(0, 15), (12, 1)] []).rd dTC_LOCK) 5 = false ∧
      (tBeg tHub 0x0202 [(0, 15), (12, 1)] []).winForeign 47 1 = false) ∧
    (tMay ⟨[], tPut tHub.dev [(dTC_LOCK, 32)]⟩ 0x0202 [] [] ∧ bit ((tBeg ⟨[], tPut tHub.dev [(dTC_LOCK, 32)]⟩ 0x0202 [] []).rd dTC_LOCK) 5 = true) ∧
    tMay tHw 0x0203 [(0, 1)] [] ∧ tMay tHub 0x0203 [(1, 31)] [] ∧
    (tMay tHw 0x0204 [(1, 1)] [] ∧ (tCmd0 0x0204 [(1, 1)] []).body 1 1 ≠ 0 ∧ (tBeg tHw 0x0204 [(1, 1)] []).copyOk (tCmd0 0x0204 [(1, 1)] []) = true) ∧
    (tMay tHw 0x0204 [(20, 4096)] [] ∧ (tCs tHw 0x0204 [(20, 4096)] []).dev.mayLand 0 4096 = true ∧
      (tBeg tHw 0x0204 [(20, 4096)] []).copyOk (tCmd0 0x0204 [(20, 4096)] []) = true) ∧
    (tBeg tHw 0x0204 [(0, 1)] []).copyOk (tCmd0 0x0204 [(0, 1)] []) = false := by
  unfold tMay State.mayStart
  and_intros <;> decide +kernel

theorem witness_TableCommands :
    (tMay tHub 0x0401 [(14, 1)] (tTab 2) ∧ (tBeg tHub 0x0401 [(14, 1)] (tTab 2)).jobById 1 = some tJob ∧
      (tBeg tHub 0x0401 [(14, 1)] (tTab 2)).jobTileOf tJob 0 = .inl 0 ∧ tJob.held = [] ∧ tJob.abandoned = false ∧
      (1 : Nat) ≠ ((tBeg tHub 0x0401 [(14, 1)] (tTab 2)).tile 0).bank) ∧
    (tMay tHub 0x0401 [(14, 2)] (tTab 2) ∧ tMay tHub 0x0401 [(14, 0)] (tTab 2) ∧ ((tBeg tHub 0x0401 [(14, 0)] (tTab 2)).tile 0).bank = 0) ∧
    (tMay tIdle 0x0402 [(14, 255)] (tZ 32) ∧ ((tBeg tIdle 0x0402 [(14, 255)] (tZ 32)).tile 0).state = stIDLE ∧ 255 + 1 ≤ 256 ∧
      32 * 1 ≤ (tZ 32).length ∧ 256 < 255 + 2) ∧
    (tMay tHub 0x0402 [(14, 255)] (tZ 32) ∧ ((tBeg tHub 0x0402 [(14, 255)] (tZ 32)).tile 0).state = stRUN) ∧
    (tMay tIdle 0x0403 [] [] ∧ (tCmd0 0x0403 [] []).body 2 1 = 0 ∧ (tBeg tIdle 0x0403 [] []).switchTiles tJob 0 = .inl [0] ∧
      ((tBeg tIdle 0x0403 [] []).tile 0).state = stIDLE ∧ ((tBeg tIdle 0x0403 [] []).tile 0).ready 1 = true ∧
      ((tBeg ⟨[], tIdle.dev.onTile 0 (fun t => t.setReady 1 false)⟩ 0x0403 [] []).tile 0).ready 1 = false ∧
      ((tBeg tHub 0x0403 [] []).tile 0).state ≠ stIDLE) ∧
    (tMay tHub 0x0403 [(2, 1)] [] ∧ (tCmd0 0x0403 [(2, 1)] []).body 2 1 = 1 ∧ tMay tHub 0x0403 [(2, 2)] [] ∧
      (tCmd0 0x0403 [(2, 2)] []).body 2 1 ≠ 1) ∧
    (tMay tHub 0x0407 [(12, 65535), (16, 1)] (tZ 32) ∧ tMay tHub 0x0407 [(12, 65535), (16, 2)] (tZ 64) ∧ 65536 < 65535 + 2) := by
  unfold tMay State.mayStart
  and_intros <;> decide +kernel

theorem witness_SlotCommands :
    (let b := tZ 4 ++ leBytes 4 1 ++ tZ 56
     tMay tHub 0x0404 [(12, 63)] b ∧ 0x40 ≤ b.length ∧ (tBeg tHub 0x0404 [(12, 63)] b).jobById (valAt b 4 4) = some tJob ∧
       tMay tHub 0x0404 [(12, 64)] b ∧ (tC tHub (tCmdOf 0x0404 1 3 (tBody [(12, 63)]) b)).dev.jobById (valAt b 4 4) = some tJob ∧
       tJob.tenant ≠ (tCmdOf 0x0404 1 3 (tBody [(12, 63)]) b).tenant) ∧
    (let b := leBytes 4 (2 ^ 30) ++ leBytes 4 0 ++ leBytes 4 (255 + 2 ^ 8) ++ leBytes 4 1 ++ tZ 48
     tMay tHub 0x0405 [(12, 15)] b ∧ bit (valAt b 0 4) 30 = true ∧ tMay tHub 0x0405 [(12, 16)] b) ∧
    (let b := leBytes 4 (2 ^ 30) ++ leBytes 4 0 ++ leBytes 4 (1 + 513 * 2 ^ 8) ++ leBytes 4 1 ++ tZ 48
     tMay tHub 0x0405 [(12, 15)] b ∧ bit (valAt b 0 4) 30 = true ∧ 512 < bits (valAt b 8 4) 17 8) ∧
    (let b := leBytes 4 (2 ^ 9 + 2 ^ 13) ++ leBytes 4 1 ++ leBytes 4 (2 ^ 16) ++ leBytes 4 1 ++ tZ 80
     tMay tHub 0x0406 [(12, 63)] b ∧ bit (valAt b 0 4) 9 = true ∧ tMay tHub 0x0406 [(12, 64)] b) ∧
    (let b := leBytes 4 (2 ^ 9) ++ leBytes 4 1 ++ tZ 88
     tMay tHub 0x0406 [(12, 63)] b ∧ bit (valAt b 0 4) 9 = true ∧ valAt b 10 2 = 0) := by
  unfold tMay State.mayStart
  and_intros <;> decide +kernel

/-- A laser module that has been replaced for a second. -/
def tSwap : State :=
  ⟨[], { tPut tHub.dev [(dLASER_CTRL, 0x80), (dLASER_STATUS, 0x8)] with
    laserPs := [(3, 0)], clock := { tHub.dev.clock with ps := 1000000000000 } }⟩
theorem witness_RelayCommands :
    (tMay tHub 0x0301 [(0, dPTP_TIME_LO)] [] ∧ dPTP_TIME_LO < barEnd ∧ dPTP_TIME_LO % 4 = 0 ∧ highHalf dPTP_TIME_LO = some dPTP_TIME_HI ∧
      tMay tHub 0x0301 [(0, barEnd)] [] ∧ ¬ barEnd < barEnd ∧
      (inPortDomain dPTP_TIME_LO && (tBeg tHub 0x0301 [(0, dPTP_TIME_LO)] []).portsOff) = false) ∧
    (let fs := [(0, dGLN_PERIOD), (4, 77), (8, 0xFFFFFFFF)]
     tMay tHub 0x0302 fs [] ∧ (tBeg tHub 0x0302 fs []).plainWord dGLN_PERIOD = true ∧ (findReg devRegs dGLN_PERIOD).isSome = true ∧
       (tCmd0 0x0302 fs []).body 8 4 = 0xFFFFFFFF) ∧
    (tMay tHub 0x0303 [(12, 2), (14, 1)] (tZ 64) ∧ tMay tHub 0x0303 [(12, 32768), (14, 1)] (tZ 64) ∧ 32768 < 32768 + 1) ∧
    (tMay tHub 0x0305 [(0, 2 ^ 64 - 1)] [] ∧ 1000000 < ((2 ^ 63 - 1 : Nat) - (tHub.dev.ptpNs : Int)).natAbs) ∧
    (tMay tHub 0x0901 [(12, 5)] [] ∧ tMay tHub 0x0901 [(12, 6)] []) ∧
    (tMay tHub 0x0304 [(0, 3)] [] ∧ (tCmd0 0x0304 [(0, 3)] []).body 1 1 = 0 ∧ tMay tHub 0x0304 [(0, 4)] []) ∧
    (tMay tSwap 0x0304 [(0, 3), (1, 1)] [] ∧ (tCmd0 0x0304 [(0, 3), (1, 1)] []).body 1 1 = 1) := by
  unfold tMay State.mayStart
  and_intros <;> decide +kernel

/-- Tile 271 is quarantined. -/
def tQuar : State :=
  ⟨[], { tPut tHub.dev [(dPHYS_STATE + 4 * 271, 3)] with persist := { tHub.dev.persist with quarantine := [3, 271] } }⟩
theorem witness_OrderCommands :
    (tMay tHub 0x0501 [(0, 23), (4, 5)] [] ∧ 5 < (tBeg tHub 0x0501 [(0, 23), (4, 5)] []).progPages ∧
      ((tBeg tHub 0x0501 [(0, 23), (4, 5)] []).stack 23).orders.contains 5 = false ∧
      (∀ r ∈ (tBeg tHub 0x0501 [(0, 23), (4, 5)] []).remaps 23, r.src ≠ 5) ∧ tMay tHub 0x0501 [(0, 24), (4, 5)] [] ∧
      ((tBeg tOrder 0x0501 [(4, 5)] []).stack 0).orders.contains 5 = true) ∧
    (tMay tHub 0x0502 [(0, 23)] [] ∧ (tBeg tHub 0x0502 [(0, 23)] []).stackRet ≠ some (.ordered 23) ∧
      (tBeg tHub 0x0502 [(0, 23)] []).retiredStack ≠ some 23 ∧ tMay tHub 0x0502 [(0, 24)] [] ∧
      (tBeg (tRet (.ordered 0)) 0x0502 [] []).stackRet = some (.ordered 0)) ∧
    (tMay tQuar 0x0503 [(12, 271)] [] ∧ 271 ∉ (tBeg tQuar 0x0503 [(12, 271)] []).fuses.fusedOff ∧
      (tBeg tQuar 0x0503 [(12, 271)] []).fld (dPHYS_STATE + 4 * 271) 2 0 = 3 ∧ tMay tHub 0x0503 [(12, 272)] [] ∧
      (tBeg tHub 0x0503 [(12, 271)] []).fld (dPHYS_STATE + 4 * 271) 2 0 ≠ 3) ∧
    tMay tHub 0x0504 [] [] := by
  unfold tMay State.mayStart
  and_intros <;> decide +kernel

theorem witness_PersistenceCommands :
    (tMay tQuiet 0x0601 [(0, 8), (1, 0), (4, 1)] [] ∧ tMay tHub 0x0601 [(0, 3)] [] ∧ (tBeg tHub 0x0601 [(0, 3)] []).jobById 1 = some tJob ∧
      tJob.busy = true) ∧
    (tMay tHub 0x0605 [(8, 5)] [] ∧ tMay tHub 0x0605 [(8, 5000)] []) ∧
    (tMay (tKept tHub) 0x0602 [] [] ∧ ((tBeg (tKept tHub) 0x0602 [] []).jobAllot tJob).isSome = true ∧
      (tBeg (tKept tHub) 0x0602 [] []).fld dSLO_STATUS 0 0 = 0 ∧ (tBeg tHub 0x0602 [] []).jobAllot tJob = none ∧
      (tBeg (tFree tHub) 0x0602 [] []).jobById 1 = none) ∧
    (tMay tIdle 0x0603 [(0, 1)] [] ∧ (tBeg tIdle 0x0603 [(0, 1)] []).jobQuiet 1 = true ∧
      1 = ((tBeg tIdle 0x0603 [(0, 1)] []).fld dLAYOUT_EPOCH 15 0 + 1) % 2 ^ 16 ∧ tJob.mayRecover 0 = true ∧ tJob.mayRecover 5 = false ∧
      (tBeg tHub 0x0603 [(0, 1)] []).jobQuiet 1 = false) ∧
    (tMay tQuiet 0x0604 [(12, 40)] [] ∧ tMay tHub 0x0604 [(12, 40)] [] ∧ tJob.running = true) ∧
    (tMay (tFree (tKept tHub)) 0x0606 [] [] ∧ (tBeg (tFree (tKept tHub)) 0x0606 [] []).jobById 1 = none ∧
      (tBeg (tFree (tKept tHub)) 0x0606 [] []).allotOf 1 0 = some tAllot ∧ (tBeg (tFree tHub) 0x0606 [] []).allotOf 1 0 = none ∧
      ((tBeg tHub 0x0606 [] []).jobById 1).isSome = true) ∧
    (tMay tHw 0x0607 [] [] ∧ (tBeg tHw 0x0607 [] []).ownWindow (tCmd0 0x0607 [] []) 0 = true ∧ tMay tHub 0x0607 [] [] ∧
      (tBeg tHub 0x0607 [] []).ownWindow (tCmd0 0x0607 [] []) 0 = false) ∧
    tMay tHw 0x0608 [] [] ∧ tMay tHub 0x0608 [] [] := by
  unfold tMay State.mayStart
  and_intros <;> decide +kernel

/-- A report was made at time 0. -/
def tReport (ps : Nat) : State :=
  ⟨[], { tHub.dev with trust := { tHub.dev.trust with report := some ⟨0, [], 0⟩ }, clock := { tHub.dev.clock with ps := ps } }⟩
theorem witness_TenantCommands :
    (tMay tHub 0x0701 [] (tZ 32) ∧ tMay tHub 0x0701 [] (tZ 31)) ∧
    (tMay (tReport 0) 0x0702 [] (tZ 1713) ∧ (tBeg (tReport 0) 0x0702 [] (tZ 1713)).trust.report = some ⟨0, [], 0⟩ ∧
      0 + 60000000000000 < (tBeg (tReport 60000000000001) 0x0702 [] []).clock.ps ∧
      (tBeg (tReport 60000000000000) 0x0702 [] []).clock.ps ≤ 0 + 60000000000000 ∧ tMay tHub 0x0702 [] (tZ 1712) ∧
      (tBeg tHub 0x0702 [] []).trust.report = none) ∧
    (tMay tHub 0x0703 [] [] ∧ (∃ x ∈ (tBeg tHub 0x0703 [] []).jobs, x.2.tenant = (tCmd0 0x0703 [] []).tenant) ∧ tMay (tFree tHub) 0x0703 [] [] ∧
      (∀ x ∈ (tBeg (tFree tHub) 0x0703 [] []).jobs, x.2.tenant ≠ (tCmd0 0x0703 [] []).tenant)) ∧
    (tMay tHub 0x0704 [(0, 1), (2, 1)] [] ∧ tMay tHub 0x0704 [(0, 1535), (2, 2)] [] ∧
      (tBeg tHub 0x0704 [(0, 1535), (2, 2)] []).top < gib (1535 + 2)) ∧
    (tMay tHub 0x0705 [] [] ∧
      (tBeg tHub 0x0705 [] []).parts.find? (fun p => p.tenant == 0 && p.base == gib 0) = some ⟨0, 0, 257 * 4096⟩ ∧ tMay tHub 0x0705 [(0, 1)] [] ∧
      (∀ p ∈ (tBeg tHub 0x0705 [(0, 1)] []).parts, ¬ (p.tenant = 0 ∧ p.base = gib 1))) := by
  unfold tMay State.mayStart
  and_intros <;> decide +kernel

/-- Every lock is closed. -/
def tLocks : State := ⟨[], tPut tHub.dev [(dTC_LOCK, 63)]⟩
/-- Images are booted from slot 0; fused SVNs of 3. -/
def tBoot : State :=
  ⟨[], { tHub.dev with
    trust := { tHub.dev.trust with booted := [0, 0, 0, 0] }
    persist := { tHub.dev.persist with svn := [3, 3, 3, 3], images := List.replicate 4 (some ⟨1, 5, [], true⟩, none) } }⟩
/-- Ports 0 and 31 are not in direct mode. -/
def tFabric : State := ⟨[], tPut tHub.dev [(engOff dPORT_CFG 0, 2), (engOff dPORT_CFG 7 + 12, 2)]⟩
/-- The words that a claim begins with are the claim code, whatever that is. -/
theorem witness_claimCode : ∃ b : List Byte, 16 + ownerKeyBytes ≤ (toNats b).length ∧ (toNats b).take 10 = claimCode := by
  have h10 : claimCode.length = 10 := by simp [claimCode]
  have hlt : ∀ n ∈ claimCode, n < 256 := by
    intro n hn
    simp only [claimCode, List.mem_map] at hn
    obtain ⟨i, -, rfl⟩ := hn
    have : ∀ m, base32 (m % 32) < 256 := by
      intro m
      have : m % 32 < 32 := Nat.mod_lt _ (by decide)
      unfold base32
      split <;> omega
    exact this _
  have hmap : (claimCode.map (BitVec.ofNat 8)).map BitVec.toNat = claimCode := by
    rw [List.map_map]
    conv => rhs; rw [← List.map_id claimCode]
    refine List.map_congr_left (fun n hn => ?_)
    simp [Nat.mod_eq_of_lt (hlt n hn)]
  refine ⟨claimCode.map (BitVec.ofNat 8) ++ tZ 2695, ?_, ?_⟩
  · simp only [toNats, tZ, List.length_map, List.length_append, List.length_replicate, h10, ownerKeyBytes]
    omega
  · simp only [toNats, List.map_append, hmap]
    rw [List.take_left' h10]
/-- `tMay`, the buffer not looked at. -/
theorem tMay_of {s : State} {op : Nat} {fs : List (Nat × Nat)} {buf : List Byte}
    (h : (tCmd0 op fs buf).op = op ∧ (tCmd0 op fs buf).src < 20 ∧ (tCs s op fs buf).dev.mustWait 0 (tCmd0 op fs buf) = false) :
    tMay s op fs buf := by
  unfold tMay State.mayStart
  exact ⟨rfl, h.1, h.2.1, rfl, h.2.2⟩
theorem witness_OwnerCommands :
    (tMay tLocks 0x0706 [(12, 1)] (tZ 100) ∧ (tCmd0 0x0706 [(12, 1)] []).body 12 1 < tLocks.dev.persist.images.length ∧
      bit ((tBeg tLocks 0x0706 [(12, 1)] (tZ 100)).rd dTC_LOCK) 0 = true ∧ tMay tHub 0x0706 [(12, 1)] (tZ 100)) ∧
    (tMay tBoot 0x0707 [(12, 3)] [] ∧ tBoot.dev.persist.svn.length = 4 ∧ bit ((tBeg tBoot 0x0707 [(12, 3)] []).rd dTC_LOCK) 3 = false ∧
      (tBeg tBoot 0x0707 [(12, 3)] []).bootedImage 3 = some ⟨1, 5, [], true⟩ ∧ tMay tBoot 0x0707 [(12, 4)] [] ∧ tMay tLocks 0x0707 [] []) ∧
    (tMay tHub 0x0708 [] (tZ 2705) ∧ (tBeg tHub 0x0708 [] (tZ 2705)).persist.owner = none ∧ (tBeg tHub 0x0708 [] (tZ 2705)).trust.claims < 8 ∧
      tMay tHub 0x0708 [] (tZ 2704)) ∧
    (tMay tHub 0x0709 [] (tZ 10889) ∧ ownerKeyBytes + 8 ≤ ((tZ 10889).drop ownerArea).length ∧ tMay tLocks 0x0709 [] (tZ 10889) ∧
      bit ((tBeg tHub 0x0709 [] []).rd dTC_LOCK) 2 = false ∧ bit ((tBeg tLocks 0x0709 [] []).rd dTC_LOCK) 2 = true) ∧
    (tMay tHub 0x070A [(12, 63)] [] ∧ tMay tHub 0x070A [(12, 64)] []) ∧
    (tMay tHub 0x0306 [] (tZ 8192 ++ leBytes 4 16 ++ tZ 16) ∧ tMay tHub 0x0306 [] (tZ 8192 ++ leBytes 4 15 ++ tZ 16) ∧
      tMay tHub 0x0306 [] (tZ 8192 ++ leBytes 4 (432 * 64) ++ tZ 16) ∧ tMay tLocks 0x0306 [] []) ∧
    (tMay tFabric 0x0307 [] (tZ 8192 ++ [31, 1, 3] ++ tZ 37) ∧ (tBeg tFabric 0x0307 [] []).direct 7 3 = false ∧
      tMay tHub 0x0307 [] (tZ 8192 ++ [31, 1, 3] ++ tZ 36)) := by
  and_intros <;> first | exact tMay_of (by decide +kernel) | decide +kernel

theorem witness_JobsStart :
    (tMay tEmpty 0x0101 (tStart (tDescr 1).length) (tDescr 1) ∧ (jobItems (tDescr 1)).isSome = true ∧
      (tBeg tEmpty 0x0101 (tStart (tDescr 1).length) (tDescr 1)).jobRefusal (tCmd0 0x0101 (tStart (tDescr 1).length) (tDescr 1)) true
        (JobDesc.ofItems ((jobItems (tDescr 1)).getD [])) = 0) ∧
    tMay tEmpty 0x0101 (tStart ((tDescr 1).length - 1)) (tDescr 1) ∧ jobItems ((tDescr 1).take ((tDescr 1).length - 1)) = none ∧
    tMay tEmpty 0x0101 [(16, 2)] [] := by
  unfold tMay State.mayStart
  and_intros <;> decide +kernel

/-- The job of a module with a job in slot 0. -/
def tJobOf (s : State) : Job := (sget? s.dev.jobs 0).getD tJob
/-- Command 0 of a module has started. -/
def tStarted (s : State) (op : Nat) : State := ⟨[], { (tCs s op [] []).dev with cmds := [(0, { tCmd0 op [] [] with started := true })] }⟩
theorem witness_StepsReleased :
    (tMay tReady 0x0102 [(0, 5)] [] ∧ tMay tReady 0x0103 [(0, 5)] [] ∧ (tBeg tReady 0x0102 [] []).inSlot 1 0 (tJobOf tReady) ∧
      (tBeg tReady 0x0102 [] []).mayRelease (tJobOf tReady) = true ∧ (tJobOf tReady).abandoned = false ∧ (tJobOf tReady).held = [] ∧
      (tJobOf tReady).ending = none ∧ (tBeg tReady 0x0102 [] []).lacksTile (tJobOf tReady) = false) ∧
    ((tBeg tHub 0x0102 [] []).mayRelease tJob = false ∧ (tBeg tHub 0x0102 [] []).lacksTile tJob = false ∧
      (tBeg tHub 0x0102 [] []).lacksTile { tJob with tiles := 3 } = true ∧ (tBeg (tFree tHub) 0x0102 [] []).jobById 1 = none) ∧
    (let s : State := tStarted (tHj (fun _ => { tJobOf tReady with held := [0] })) 0x0102
     sget? s.dev.cmds 0 = some { tCmd0 0x0102 [] [] with started := true } ∧ s.dev.inSlot 1 0 { tJobOf tReady with held := [0] } ∧
       s.dev.stepHeld 0 { tCmd0 0x0102 [] [] with started := true } = true) := by
  unfold tMay State.mayStart Dev.inSlot
  and_intros <;> decide +kernel

theorem witness_JobsEndAndHalt :
    (tMay tHub 0x0105 [] [] ∧ (tBeg tHub 0x0105 [] []).inSlot 1 0 tJob ∧ tJob.ending = none ∧ (tBeg tHub 0x0105 [] []).tablesEnded tJob = false ∧
      tMay tReady 0x0105 [] [] ∧ (tBeg tReady 0x0105 [] []).tablesEnded (tJobOf tReady) = true ∧
      (tBeg (tFree tHub) 0x0105 [] []).jobById 1 = none) ∧
    (let s : State := tStarted (tHj (fun _ => { tJobOf tReady with ending := some 0 })) 0x0105
     s.dev.inSlot 1 0 { tJobOf tReady with ending := some 0 } ∧ s.dev.endReady 0 { tCmd0 0x0105 [] [] with started := true } = true) ∧
    (tMay tHub 0x0104 [(0, 5), (4, 1), (6, 3)] [] ∧ tJob.reshard = none ∧ tJob.passed 5 = false ∧ tJob.rounded = false ∧
      (tBeg tHub 0x0104 [] []).fld dLAYOUT_EPOCH 15 0 = 0) ∧
    (tMay tHub 0x0F01 [] [] ∧ (tBeg tHub 0x0F01 [] []).namedJobs 1 = [1] ∧ (tBeg tHub 0x0F01 [] []).namedJobs 0xFFFFFFFF = [1] ∧
      (tBeg (tFree tHub) 0x0F01 [] []).namedJobs 1 = [] ∧ tMay (tFree tHub) 0x0F01 [] []) ∧
    tMay tHub 0x0F02 [(0, 1)] [] ∧ tMay tHub 0x0F03 [(0, 2)] [] ∧ tMay tHub 0x0F04 [] [] := by
  unfold tMay State.mayStart Dev.inSlot
  and_intros <;> decide +kernel

/-- A module in a power state, with wakes noted. -/
def tPs (s : State) (n wakes : Nat) : State := ⟨[], { tPut s.dev [(dHK_PSTATE, n)] with power := { s.dev.power with wakes := wakes } }⟩
theorem witness_PowerCommands :
    (tMay tEmpty 0x0801 [(0, 63)] [] ∧ (tBeg tEmpty 0x0801 [] []).anyJob = false ∧ (tBeg tEmpty 0x0801 [] []).pstate = 0) ∧
    (tMay (tPs tEmpty 2 0) 0x0802 [] [] ∧ (tBeg (tPs tEmpty 2 0) 0x0802 [] []).pstate = 2) ∧ tMay (tPs tEmpty 1 0) 0x0803 [] [] ∧
    tMay tEmpty 0x0801 [(0, 64)] [] ∧ (tMay tHub 0x0801 [] [] ∧ (tBeg tHub 0x0801 [] []).anyJob = true) ∧
    tMay tHub 0x0804 [(0, 7)] [] ∧ tMay tHub 0x0804 [] [] := by
  unfold tMay State.mayStart
  and_intros <;> decide +kernel

/-- Idle may be entered: started up, no tile on, a delay set. -/
def tMayIdle : State := ⟨[], { tPut tEmpty.dev [(dGLB_START, 0x11), (dHK_IDLE, 5)] with tiles := [] }⟩
/-- A tamper alarm, and a wake timer of 3 s. -/
def tAlarm (s : State) : State := ⟨[], { tPut s.dev [(dHK_TIMER, 3)] with wh := { s.dev.wh with tamper := true } }⟩
theorem witness_PowerStates :
    ((tPs tEmpty 5 0).dev.pstate = 5 ∧ (tPs tEmpty 7 6).dev.pstate = 7 ∧ (tPs tEmpty 7 6).dev.power.wakes ≠ 0) ∧ (tPs tEmpty 8 0).dev.pstate = 8 ∧
    tMayIdle.dev.mayIdle = true ∧ ((tPs tEmpty 4 0).dev.power.stby = true ∧ (tPs tEmpty 4 0).dev.pstate = 4) ∧
    ((tPs tEmpty 2 0).dev.reach = true ∧ (tPs tEmpty 2 0).dev.pstate = 2 ∧ bit ((tPs tEmpty 2 0).dev.fld dHK_WAKE 13 8) 1 = false ∧
      bit (((tPs tEmpty 2 0).dev.setFld dHK_WAKE 13 8 2).fld dHK_WAKE 13 8) 1 = true) ∧
    ((tAlarm tEmpty).dev.whAlarm = true ∧ (tAlarm tEmpty).dev.wh.seen = false ∧ (tAlarm tEmpty).dev.rd dHK_TIMER ≠ 0) := by
  and_intros <;> decide +kernel

/-- The power supply changed. -/
def tPow (s : State) (f : Power → Power) : State := ⟨[], { s.dev with power := f s.dev.power }⟩
/-- Start-up has come to the row before `row`; every image is there and every laser module. -/
def tRow (row : Nat) : State := ⟨[], (tPut tBoot.dev [(dLASER_STATUS, 0xFFF)]).setFld dGLB_START 4 1 (row - 1)⟩
theorem witness_ResetsAndSupplies :
    ((tPow tHub (fun p => { p with stby := false })).dev.power.stby = false ∧ (tPow tHub (fun p => { p with good := false })).dev.power.good = false) ∧
    ((tPow tHub (fun p => { p with hub := false })).dev.power.hub = false ∧ (tPow tHub (fun p => { p with hub := false })).dev.pstate = 0 ∧
      (tPs tHub 10 0).dev.pstate = 10) ∧
    ((tPow tHub (fun p => { p with perst := false })).dev.power.perst = false ∧ tHub.dev.power.perst = true ∧ tHub.dev.mainUp = true ∧
      (tPow tHub (fun p => { p with hub := false })).dev.mainUp = false) ∧
    (tHub.dev.endpoint = true ∧ tHub.dev.power.link = true) ∧
    ((tPow tHub (fun p => { p with link := false })).dev.endpoint = true ∧ (tPow tHub (fun p => { p with link := false })).dev.power.link = false ∧
      16 ∈ [1, 2, 4, 8, 16]) ∧
    (tHub.dev.power.stby = true ∧ tHub.dev.power.good = true) ∧
    ((List.range 8).all (fun r => (tRow (r + 1)).dev.rowReady (r + 1)) = true) := by
  and_intros <;> decide +kernel

/-- Sensors at their highest readings. -/
def tHot : State :=
  ⟨[], tPut tHub.dev [(dHK_COOLANT, 0x7FF), (dHK_TEMP, 0x7FF), (grnOff dGRN_TEMP 23, 127), (dHK_PHOT_TEMP + 28, 0x7FF), (dHK_PIN, 9000)]⟩
theorem witness_ClocksAndLimits :
    (tHub.dev.power.hub = true ∧ tHub.dev.power.refOk = true ∧ (tPow tHub (fun p => { p with refOk := false })).dev.power.refOk = false) ∧
    (let s : State := ⟨[], { tHub.dev with clock := { tHub.dev.clock with ptpRun := true } }⟩
     s.dev.clock.ptpRun = true) ∧
    ([dHK_TEMP, grnOff dGRN_TEMP 23, dHK_COOLANT, dHK_PHOT_TEMP + 28, dHK_PIN].all isSensor = true ∧
      [dHK_TEMP, grnOff dGRN_TEMP 23, dHK_COOLANT, dHK_PHOT_TEMP + 28, dHK_PIN].Nodup ∧
      tHub.dev.reading dHK_COOLANT < tHub.dev.limit 2 0 ∧ tHot.dev.limit 2 0 ≤ tHot.dev.reading dHK_COOLANT) ∧
    ([(dHK_TEMP, 0), (grnOff dGRN_TEMP 23, 1), (dHK_COOLANT, 2), (dHK_PHOT_TEMP + 28, 3)].all (fun x =>
      tempSensors.find? (fun t => t.1 == x.1) == some x && decide (tHot.dev.limit x.2 2 ≤ tHot.dev.reading x.1)) = true ∧
      tHot.dev.power.trip = none) ∧
    ((tPow (tPs tHub 4 0) (fun p => { p with trip := some 77 })).dev.power.trip = some 77 ∧
      (tPs tHub 4 0).dev.reading dHK_COOLANT < (tPs tHub 4 0).dev.limit 2 3) ∧
    (tHot.dev.tooHot = true ∧ tHot.dev.fld dHK_THROTTLE 3 0 < 8) ∧
    ((tPut tHub.dev [(dHK_THROTTLE, 1), (dHK_PWR_CAP, 4000)]).wellBelow = true ∧
      0 < (tPut tHub.dev [(dHK_THROTTLE, 1), (dHK_PWR_CAP, 4000)]).fld dHK_THROTTLE 3 0) := by
  and_intros <;> decide +kernel

theorem witness_ManagementAnswers :
    tHub.dev.power.stby = true ∧ ((0xFFFC : Nat) < 0x10000 ∧ 0xFFFC % 4 = 0 ∧ highHalf (dHK_PSTATE + 0xFFFC) = none) ∧ tHub.dev.pstate < 2 ∧
    (tPs tEmpty 4 0).dev.pstate = 4 ∧ (tPow tHub (fun p => { p with hub := false })).dev.power.hub = false := by
  and_intros <;> decide +kernel

/-! ## Well-formedness: what each check takes and what it refuses -/

/-- Commands that are well formed, and commands that are not. -/
def tWf (good bad : List Instr) : Bool := good.all Instr.wf && bad.all (fun i => !i.wf)

theorem test_wf_tile : tWf [.nop 271] [.nop 272] = true := by decide
theorem test_wf_logical : tWf [.flagSetArrive 255 63 1 (some 255)] [.flagSetArrive 256 0 1 none, .flagSetArrive 0 64 1 none, .flagSetArrive 0 0 1 (some 256)] = true := by decide
theorem test_wf_byte : tWf [.dmaComplete 0 63 255 []] [.dmaComplete 0 63 256 [], .dmaComplete 0 64 0 []] = true := by decide
theorem test_wf_word : tWf [.marchStart 0 0xFFFFFFFF] [.marchStart 0 0x100000000] = true := by decide
theorem test_wf_bytes : tWf [.stepSeal 3 [255] []] [.stepSeal 3 [256] [], .stepSeal 3 [] [256]] = true := by decide
theorem test_wf_rank : tWf [.keepaliveRx 1 32767 true] [.keepaliveRx 1 32768 true] = true := by decide
theorem test_wf_class : tWf [.wainCreditRx 31 3 0] [.wainCreditRx 31 4 0] = true := by decide
theorem test_wf_master : tWf [.loftWaitTimeout 0 7] [.loftWaitTimeout 0 8] = true := by decide
theorem test_wf_ring : tWf [.ringSlotReturn 15] [.ringSlotReturn 16] = true := by decide
theorem test_wf_slot : tWf [.barRelease 63 0] [.barRelease 64 0] = true := by decide
theorem test_wf_job_slot : tWf [.commitRx 3] [.commitRx 4] = true := by decide
theorem test_wf_queue : tWf [.qEnable 15, .sqTailWrite 0 0 [(5, 255)]] [.qEnable 16, .sqTailWrite 0 0 [(5, 256)]] = true := by decide
theorem test_wf_stack : tWf [.pageRetirement 23] [.pageRetirement 24] = true := by decide
theorem test_wf_channel : tWf [.grnCalPass 0 0 [63] []] [.grnCalPass 0 0 [64] [], .grnCalPass 0 0 [] [64]] = true := by decide
theorem test_wf_bank : tWf [.grnRefresh 0 63 63 [] 0] [.grnRefresh 0 64 0 [] 0, .grnRefresh 0 0 64 [] 0] = true := by decide
theorem test_wf_engine : tWf [.couplerMoveDone 7] [.couplerMoveDone 8] = true := by decide
theorem test_wf_lane : tWf [.laneSwapApply 7 15] [.laneSwapApply 7 16] = true := by decide
theorem test_wf_port : tWf [.creditSend 31] [.creditSend 32] = true := by decide
theorem test_wf_engine_port : tWf [.portRetrained 7 3, .feedLoss 7 [3]] [.portRetrained 7 4, .feedLoss 7 [4]] = true := by decide
theorem test_wf_module : tWf [.laserStable 3, .mgmtLaserSwap 3 1] [.laserStable 4, .mgmtLaserSwap 4 1, .mgmtLaserSwap 3 2] = true := by decide
theorem test_wf_die : tWf [.whLaneUp 3] [.whLaneUp 4] = true := by decide
theorem test_wf_offset : tWf [.latchingRead 0x3FFFFFC, .regWritePlain 0 0 15]
    [.latchingRead 0x4000000, .latchingRead 2, .regWritePlain 0 0 16] = true := by decide
theorem test_wf_unit : tWf [.commandComplete 0 4, .voteDone 0 3 false false []] [.commandComplete 0 5, .voteDone 0 4 false false []] = true := by decide
theorem test_wf_descriptor : tWf [.ringSlotArrive 15 255 (2 ^ 256 - 1) none] [.ringSlotArrive 15 255 (2 ^ 256) none] = true := by decide
theorem test_wf_flips : tWf [.granaryAccess 0 (some (2 ^ 128 - 1)) (2 ^ 144 - 1) 0 true 0, .gleanerGranaryScrub [(0, 2 ^ 144 - 1)], .tableScrubTick 0 (2 ^ 144 - 1)]
    [.granaryAccess 0 (some (2 ^ 128)) 0 0 true 0, .granaryAccess 0 none (2 ^ 144) 0 true 0, .gleanerGranaryScrub [(0, 2 ^ 144)],
     .tableScrubTick 0 (2 ^ 144)] = true := by decide
theorem test_wf_link : tWf [.wainDataRx 31 1 0 3 0 0 112 true true false 0 0 0 [], .pfcPauseRx 31 7 65535, .ptpMessageRx 31 (2 ^ 63 - 1)]
    [.wainDataRx 31 1 0 3 0 0 113 true true false 0 0 0 [], .pfcPauseRx 31 8 0, .pfcPauseRx 31 0 65536, .ptpMessageRx 31 (2 ^ 63)] = true := by decide
theorem test_wf_vote : tWf [.tmrSweep [(0x3FFFFFC, 2)]] [.tmrSweep [(2, 1)], .tmrSweep [(0x4000000, 1)], .tmrSweep [(0, 3)]] = true := by decide
theorem test_wf_weighhouse : tWf [.whWorkMsg 271 65535 1 9 0 0 false false false false true, .whReadReg 0x3FC, .whReadRecord 1 0, .whTimeSet 0 true (2 ^ 64 - 1),
      .whFwLoad 0 true 65535 []]
    [.whWorkMsg 0 65536 1 0 0 0 false false false false true, .whWorkMsg 0 0 1 10 0 0 false false false false true, .whReadReg 0x400, .whReadRecord 2 0,
     .whTimeSet 0 true (2 ^ 64), .whFwLoad 0 true 65536 []] = true := by decide
theorem test_wf_host : tWf [.urgDoorbell 3, .tsEnable 5, .tsSampleTick 5 true] [.urgDoorbell 4, .tsEnable 6, .tsSampleTick 6 true] = true := by decide
theorem test_wf_startup : tWf [.startupRow 1 true [], .startupRow 8 true [], .powerFault 2] [.startupRow 0 true [], .startupRow 9 true [], .powerFault 3] = true := by decide
theorem test_wf_pcie : tWf [.pcieLinkUp 6 16] [.pcieLinkUp 0 1, .pcieLinkUp 7 1, .pcieLinkUp 1 3] = true := by decide
theorem test_wf_management : tWf [.mgmtReadHk 0xFFFC, .mgmtReadDaybook 1048575] [.mgmtReadHk 0x10000, .mgmtReadDaybook 1048576] = true := by decide

/-! ## Values that the spec's tables and worked examples give -/

/-- The vectors of R116. -/
theorem test_threshing_1 : threshing 0 0 0 0 = 0x2E2B34CA59FA4C883B2C8AEFD44BE966 := by decide +kernel
theorem test_threshing_2 :
    threshing 0x0F0E0D0C0B0A09080706050403020100 0xFFEEDDCC 0xBBAA9988 0x7766554433221100 = 0x5AC5B47080B7CDD830047B6AD8E0C469 := by decide +kernel
theorem test_threshing_3 :
    threshing 0x3C4FCF098815F7ABA6D2AE2816157E2B 0x340737E0 0xA2983131 0x8D305A88A8F64332 = 0x320B6A19978511DCFB09DC021D842539 := by decide +kernel
/-- The canonical Stook of 0.75, and the escape of VP3 of logical tile 7 ("Exact Accumulation"). -/
theorem test_stook_three_quarters : stookOf (.fin false 3 (-2)) = some 0x1A00C000000000000000000000000000 := by decide +kernel
theorem test_stook_moves_up : stookOf (.fin false 57387 (-6)) = some (27 * 2 ^ 120 + 57387 * 2 ^ 98) := by decide +kernel
theorem test_stook_smallest : stookOf (.fin false 1 (-298)) = some 0x400000 := by decide +kernel
theorem test_escape_word : escapeWord 7 12291 = 0xFF000000000000000000000007003003 := by decide +kernel
/-- The G8 block of "Number Formats", at scale −3, and the same values at scale 4 and headroom −3 ("Rounding, Quantisation and Streams"). -/
theorem test_g8_block : [(0x415B3333, 0x6E), (0xBC23D70A, 0x9A), (0x38D1B717, 0), (0xB8D1B717, 0), (0x459C4000, 0x7F), (0x7FC00000, 0x80)].all (fun x =>
    (convert fG8 .ne (-3) true true (elemVal fFP32 x.1 0)).code == x.2) = true := by decide +kernel
theorem test_g8_headroom : [(0x415B3333, 4, 0x36), (0xBC23D70A, 4, 0), (0x459C4000, 4, 0x7A), (0x415B3333, 1, 0x4E), (0xBC23D70A, 1, 0x83), (0x459C4000, 1, 0x7F)].all
    (fun (x : Nat × Int × Nat) => (convert fG8 .ne x.2.1 true true (elemVal fFP32 x.1 0)).code == x.2.2) = true := by decide +kernel
/-- R125: 1 + 0.75 × 2^−7 to G16, rounded with the draws of vectors 2 and 3. -/
theorem test_stochastic_up : (convert fG16 (.sr 0xD8E0C469) 0 true true (.fin false 515 (-9))).code = 0x3F81 := by decide +kernel
theorem test_stochastic_down : (convert fG16 (.sr 0x1D842539) 0 true true (.fin false 515 (-9))).code = 0x3F80 := by decide +kernel
/-- R134: 0.3 with e = −7 gives 38. -/
theorem test_i8_scaled : (convert fI8 .ne 0 true true (Val.scale (elemVal fFP32 0x3E99999A 0) 7)).code = 38 := by decide +kernel
/-- The Sheaf code's worked example (R257, R259, R260). -/
theorem test_sheaf_check : sheafCheck 1 = 0x6F63 ∧ sheafCheck 7 = 0x634A := by decide +kernel
theorem test_sheaf_decode : syndromes 0x6F63 = (0x4C, 0x46) ∧ sheafDecode 0x6F63 = .corrected [16] ∧ sheafDecode poisonFlips = .uncorrectable := by decide +kernel
/-- The address map's worked example (R255, R256). -/
theorem test_granary_map : grnMap 0x01234567890 = (23, 3257811088) ∧ pageOfX 3257811088 = 49710 ∧ pcOfX 3257811088 = 4 ∧ colOfX 3257811088 = 8 ∧
    bankOfX 3257811088 = 46 ∧ rowOfX 3257811088 = 776 ∧ grnUnmap 23 3257811088 = 0x01234567890 := by decide +kernel
/-- Stack 5 retired with one stack's worth of reserve: page 49,710 (R268). -/
theorem test_stack_retired :
    (tPut { State.reset.dev with stackRet := some (.done 5) } [(dGRN_RESERVE, 1)]).resolve 5 49710 0 = (8, 1007046) := by decide +kernel
/-- The data part of a partition of 64 GiB at 1 TiB (R450). -/
theorem test_partition_data : (Sys2Proof.Machine.Part.mk 1 0x01000000000 0x1000000000).dataEnd = 0x01FF00FF000 := by decide +kernel
/-- The shares of a stripe in the worked example of R408 and R409. -/
theorem test_parity_shares : [0x11, 0x03, 0x22, 0x44, 0x05, 0x80].foldl (fun a b => a ^^^ b) 0 = 0xF1 ∧
    [0x11, 0x03, 0x22, 0x44, 0x05, 0x80].zipIdx.foldl (fun a x => a ^^^ gfMul (gfPow x.2) x.1) 0 = 0x18 ∧
    [7, 6, 5, 4, 3, 2].map (shareIndex 8 0) = [0, 1, 2, 3, 4, 5] ∧ holderP 8 0 = 1 ∧ holderQ 8 0 = 0 := by decide +kernel
/-- A physical tile beyond the 272 (R1) is no unit of the device. -/
theorem test_no_such_tile : exec (.nop 272) State.reset = .fault .noSuchUnit := rfl
/-- The table gives its rows no bits. -/
theorem test_no_words : decodeTableWord 8 0 = none := rfl

end
end

section
/-! SUPPORT. The release of a step and the boundary that ends its run: what a release fixes of its job, the replies that come with it, the
statement about STEP and GENERATE (R35, R122, R384) and the statement about the end of a run (R35). -/

namespace Sys2Proof.Laws

open Sys2Proof.Machine

/-! ## Where a job stands in its run -/

/-- What a release fixes of a job: that it runs, its step, its data cursor, its command, the commands held. -/
def runPart (j : Job) : Bool × Nat × Nat × Option Nat × List Nat := (j.running, j.step, j.cursor, j.cmd, j.held)

/-- Where the job in slot `u` stands in its run. -/
def runAt (d : Dev) (u : Nat) : Option (Bool × Nat × Nat × Option Nat × List Nat) := (sget? d.jobs u).map runPart

/-- The runs of all job slots are as they were. -/
def SameRuns (d d' : Dev) : Prop := runAt d' = runAt d

theorem SameRuns.refl (d : Dev) : SameRuns d d := rfl

theorem SameRuns.trans {a b c : Dev} (h : SameRuns a b) (k : SameRuns b c) : SameRuns a c := Eq.trans k h

theorem SameRuns.of_jobs {d d' : Dev} (h : d'.jobs = d.jobs) : SameRuns d d' := by
  funext u
  simp only [runAt, h]

theorem SameRuns.foldl {α : Type} (f : Dev → α → Dev) (hf : ∀ d x, SameRuns d (f d x)) (l : List α) (d : Dev) :
    SameRuns d (l.foldl f d) := by
  induction l generalizing d with
  | nil => exact SameRuns.refl d
  | cons x l ih => exact (hf d x).trans (ih _)

theorem LogsOnly.sameRuns {d d' : Dev} (h : LogsOnly d d') : SameRuns d d' := .of_jobs h.jobs

/-- A fold leaves the job slots alone where each of its steps does. -/
theorem jobs_foldl {α : Type} (f : Dev → α → Dev) (hf : ∀ d x, (f d x).jobs = d.jobs) (l : List α) (d : Dev) :
    (l.foldl f d).jobs = d.jobs := by
  induction l generalizing d with
  | nil => rfl
  | cons x l ih => exact (ih _).trans (hf d x)

/-! ## Operations that leave the job slots alone -/

@[simp] theorem jobs_setFld (d : Dev) (off hi lo v : Nat) : (d.setFld off hi lo v).jobs = d.jobs := rfl
@[simp] theorem jobs_onTile (d : Dev) (p : Nat) (f : Tile → Tile) : (d.onTile p f).jobs = d.jobs := rfl
@[simp] theorem jobs_orBits (d : Dev) (off m : Nat) : (d.orBits off m).jobs = d.jobs := (logsOnly_orBits d off m).jobs
@[simp] theorem jobs_bump (d : Dev) (off n : Nat) : (d.bump off n).jobs = d.jobs := (logsOnly_bump d off n).jobs


theorem logsOnly_queueReply (d : Dev) (q seq st : Nat) (fin : Bool) (head r : Nat) (kr : Option (List Nat)) :
    LogsOnly d (d.queueReply q seq st fin head r kr) := ⟨_, _, _, _, rfl⟩

theorem logsOnly_urgentReply (d : Dev) (k seq st : Nat) (fin : Bool) (r : Nat) (kr : Option (List Nat)) :
    LogsOnly d (d.urgentReply k seq st fin r kr) := by
  unfold Dev.urgentReply
  extract_lets w bs all d₁ t d₂
  have h₁ : LogsOnly d d₁ := LogsOnly.foldl _ (fun _ _ => logsOnly_wr ..) _ _
  refine (h₁.trans ?_).trans (logsOnly_raise d₂ 16)
  unfold d₂
  split
  · exact .refl _
  · split
    · exact logsOnly_orBits ..
    · exact (logsOnly_hostWrite ..).trans (logsOnly_wr ..)

/-- A reply changes registers, host memory and interrupts alone (R500, R504). -/
theorem logsOnly_putReply (d : Dev) (src seq st : Nat) (fin : Bool) (head r : Nat) (kr : Option (List Nat)) :
    LogsOnly d (d.putReply src seq st fin head r kr) := by
  unfold Dev.putReply
  split
  · exact logsOnly_queueReply ..
  · exact logsOnly_urgentReply ..

theorem logsOnly_freeSource (d : Dev) (src : Nat) : LogsOnly d (d.freeSource src) := by
  unfold Dev.freeSource
  split
  · exact logsOnly_wr ..
  · exact logsOnly_setFld ..

@[simp] theorem jobs_final (d : Dev) (k st r : Nat) : (d.final k st r).jobs = d.jobs := by
  unfold Dev.final
  split
  · exact ((logsOnly_putReply ..).trans (logsOnly_freeSource ..)).jobs
  · rfl

@[simp] theorem jobs_answerFences (d : Dev) : d.answerFences.jobs = d.jobs := by
  unfold Dev.answerFences
  exact jobs_foldl _ (fun _ _ => jobs_final ..) _ _

@[simp] theorem jobs_ringFullTc (d : Dev) (r free : Nat) : (d.ringFullTc r free).jobs = d.jobs := by
  unfold Dev.ringFullTc
  split <;> split <;> simp

@[simp] theorem jobs_setRing (d : Dev) (r free full credit : Nat) (held : Bool) :
    (d.setRing r free full credit held).jobs = d.jobs := by
  unfold Dev.setRing
  extract_lets d₁ cfg d₂ d₃
  have h₁ : d₁.jobs = d.jobs := rfl
  have h₂ : d₃.jobs = d₁.jobs := by
    unfold d₃
    split
    · split <;> simp [d₂]
    · rfl
  split
  · split <;> simp [h₁, h₂]
  · exact h₂.trans h₁

@[simp] theorem jobs_clearBarriers (d : Dev) (id : Nat) : (d.clearBarriers id).jobs = d.jobs := by
  unfold Dev.clearBarriers
  refine jobs_foldl _ (fun _ _ => ?_) _ _
  rfl

@[simp] theorem jobs_clearRings (d : Dev) (id : Nat) : (d.clearRings id).jobs = d.jobs := by
  unfold Dev.clearRings
  exact jobs_foldl _ (fun _ _ => by simp) _ _

@[simp] theorem jobs_setFlagsAt (d : Dev) (p x mark : Nat) (fs : List Nat) : (d.setFlagsAt p x mark fs).jobs = d.jobs := by
  unfold Dev.setFlagsAt
  refine jobs_foldl _ (fun _ _ => ?_) _ _
  rfl

@[simp] theorem jobs_setSnapFlag (d : Dev) (u id : Nat) : (d.setSnapFlag u id).jobs = d.jobs := by
  unfold Dev.setSnapFlag
  exact jobs_foldl _ (fun _ _ => jobs_setFlagsAt ..) _ _

@[simp] theorem jobs_rangeStop (d : Dev) (p : Nat) : (d.rangeStop p).jobs = d.jobs := by
  simp [Dev.rangeStop, apply_ite Dev.jobs]

@[simp] theorem jobs_triggerTile (d : Dev) (p : Nat) : (d.triggerTile p).jobs = d.jobs := by simp [Dev.triggerTile]

@[simp] theorem jobs_setPhys (d : Dev) (p n : Nat) : (d.setPhys p n).jobs = d.jobs := rfl

@[simp] theorem jobs_loadVerifier (d : Dev) (j : Job) (u i p v : Nat) : (d.loadVerifier j u i p v).jobs = d.jobs := by
  simp only [Dev.loadVerifier, apply_ite Dev.jobs, jobs_setPhys, jobs_onTile, ite_self]

@[simp] theorem jobs_prepareWinnower (d : Dev) (u : Nat) (j : Job) (n : Nat) : (d.prepareWinnower u j n).jobs = d.jobs := by
  unfold Dev.prepareWinnower
  simp only [apply_ite Dev.jobs, jobs_bump, jobs_setFld, jobs_setPhys, jobs_foldl _ (fun d _ => jobs_loadVerifier d ..), ite_self]

/-! ## Operations that change before-images alone -/

theorem sameRuns_wr (d : Dev) (off v : Nat) : SameRuns d (d.wr off v) := .of_jobs rfl

theorem sameRuns_captureChunk (d : Dev) (u : Nat) (j : Job) (c : Nat) (h : sget? d.jobs u = some j) :
    SameRuns d (d.captureChunk u j c) := by
  funext v
  by_cases hv : v = u
  · subst hv
    simp only [runAt, Dev.captureChunk, Dev.showBefore, dev_wr_jobs, sget?_sput_same, h, Option.map_some]
    split <;> rfl
  · simp only [runAt, Dev.captureChunk, Dev.showBefore, dev_wr_jobs, sget?_sput_other _ _ _ _ hv]

theorem sameRuns_capture (d : Dev) (a n : Nat) : SameRuns d (d.capture a n) := by
  unfold Dev.capture
  refine SameRuns.foldl _ (fun d e => SameRuns.foldl _ (fun d c => ?_) _ d) _ d
  split
  · next j hj =>
    split
    · exact sameRuns_captureChunk d e.1 j c hj
    · exact .refl d
  · exact .refl d

theorem sameRuns_jobWrite (d : Dev) (a : Nat) (bs : List Byte) : SameRuns d (d.jobWrite a bs) :=
  (sameRuns_capture d a bs.length).trans (.of_jobs rfl)

theorem sameRuns_ledgerAdd (d : Dev) (e : Ledger) : SameRuns d (d.ledgerAdd e) := by
  unfold Dev.ledgerAdd
  extract_lets n e' d₁
  split
  · exact .of_jobs (jobs_orBits ..)
  · have h : SameRuns d d₁ := sameRuns_jobWrite ..
    clear_value d₁
    exact h.trans (.of_jobs rfl)

theorem sameRuns_keepCarry (d : Dev) (c : Carry) : SameRuns d (d.keepCarry c) := by
  unfold Dev.keepCarry
  split
  · exact .of_jobs rfl
  · exact ((sameRuns_ledgerAdd ..).trans (.of_jobs (jobs_orBits ..))).trans (logsOnly_binderLog ..).sameRuns

theorem sameRuns_setAside (d : Dev) (x : Bucket) : SameRuns d (d.setAside x) := by
  unfold Dev.setAside
  split
  · exact sameRuns_keepCarry ..
  · exact .refl d

@[simp] theorem jobs_setConn (d : Dev) (job rank cls : Nat) (c : Conn) : (d.setConn job rank cls c).jobs = d.jobs := rfl

@[simp] theorem jobs_useCredit (d : Dev) (port : Option Nat) (cls flits : Nat) : (d.useCredit port cls flits).jobs = d.jobs := by
  cases port <;> rfl

@[simp] theorem jobs_wainPut (d : Dev) (job rank cls : Nat) (m : Msg) : (d.wainPut job rank cls m).jobs = d.jobs := by
  simp only [Dev.wainPut, Dev.c0Late, dev_send_jobs, apply_ite Dev.jobs, jobs_orBits, ite_self, jobs_setConn, jobs_useCredit]

@[simp] theorem jobs_message (d : Dev) (job rank cls tile : Nat) (m : Msg) : (d.message job rank cls tile m).jobs = d.jobs := by
  simp only [Dev.message, apply_ite Dev.jobs, jobs_wainPut, (logsOnly_binderLog ..).jobs, jobs_orBits, ite_self]

@[simp] theorem jobs_putBucket (d : Dev) (x : Bucket) : (d.putBucket x).jobs = d.jobs := by
  simp [Dev.putBucket, apply_ite Dev.jobs]

theorem sameRuns_bucketReady (d : Dev) (x : Bucket) : SameRuns d (d.bucketReady x) := by
  unfold Dev.bucketReady
  extract_lets job r d₁ x' y d₂
  have h : SameRuns d d₂ := .of_jobs ((jobs_putBucket ..).trans (by unfold d₁ r; split <;> rfl))
  split
  · exact h
  · split
    · exact h.trans (sameRuns_setAside ..)
    · exact h.trans (.of_jobs (jobs_message ..))

theorem sameRuns_collStart (d : Dev) (p : Nat) (f : Xfer) : SameRuns d (d.collStart p f) := by
  unfold Dev.collStart
  extract_lets t e g step q x x' d₁
  have h : SameRuns d d₁ := .of_jobs rfl
  split
  · exact h.trans (sameRuns_bucketReady ..)
  · exact h.trans (.of_jobs (jobs_putBucket ..))

/-- A transfer that starts leaves every job where it stands in its run (R246, R272, R312). -/
theorem sameRuns_startIfReady (d : Dev) (p : Nat) (f : Xfer) : SameRuns d (d.startIfReady p f) := by
  unfold Dev.startIfReady Dev.xferStart
  split
  · extract_lets t q r job
    split
    · split
      · exact .of_jobs rfl
      · exact .of_jobs (jobs_message ..)
    · split
      · exact .of_jobs (jobs_message ..)
      · exact .refl d
    · exact sameRuns_collStart ..
    · exact .refl d
  · exact .refl d

theorem sameRuns_startHeld (d : Dev) (id : Nat) : SameRuns d (d.startHeld id) := by
  unfold Dev.startHeld
  refine SameRuns.foldl _ (fun d p => SameRuns.foldl _ (fun d x => ?_) _ d) _ d
  exact (SameRuns.of_jobs (jobs_onTile ..)).trans (sameRuns_startIfReady ..)

@[simp] theorem jobs_showFences (d : Dev) : d.showFences.jobs = d.jobs := rfl

theorem sameRuns_liftFences (d : Dev) (id : Nat) : SameRuns d (d.liftFences id) := by
  exact SameRuns.trans (.of_jobs (jobs_showFences ..)) (sameRuns_startHeld ..)

/-- A release leaves the job in its slot running the step, with its cursor, its command and the commands still held (R35). -/
theorem runAt_release (d : Dev) (u : Nat) (j : Job) (n cursor : Nat) (cmd : Option Nat) (rep : Bool) :
    runAt (d.release u j n cursor cmd rep) u = some (true, n, cursor, cmd, j.held) := by
  unfold Dev.release
  extract_lets id due d₁ d₂ d₃ d₄ d₅
  have h₁ : runAt d₁ u = some (true, n, cursor, cmd, j.held) := by simp [runAt, d₁, runPart]
  have h₂ : SameRuns d₁ d₂ := .of_jobs (jobs_foldl _ (fun _ _ => jobs_onTile ..) _ (d₁.clearInner id))
  have h₃ : SameRuns d₂ d₃ :=
    (SameRuns.of_jobs ((jobs_clearRings ..).trans (jobs_clearBarriers ..))).trans
      ((sameRuns_liftFences ..).trans (.of_jobs (jobs_answerFences _)))
  have h₄ : SameRuns d₃ d₄ := .of_jobs (jobs_prepareWinnower ..)
  have h₅ : SameRuns d₄ d₅ := .of_jobs (by simp [d₅, apply_ite Dev.jobs])
  have h₆ := SameRuns.foldl (fun (d : Dev) p => d.triggerTile p) (fun _ _ => .of_jobs (jobs_triggerTile ..)) (d₅.jobTiles id) d₅
  rw [((((h₂.trans h₃).trans h₄).trans h₅).trans h₆ : _ = _), h₁]

/-! ## A job changed by its identifier -/

theorem jobById_ne_zero {d : Dev} {id : Nat} {j : Job} (h : d.jobById id = some j) : id ≠ 0 := by
  rintro rfl
  simp [Dev.jobById] at h

theorem jobById_id {d : Dev} {id : Nat} {j : Job} (h : d.jobById id = some j) : j.id = id := by
  unfold Dev.jobById at h
  split at h
  · simp at h
  · obtain ⟨e, he, rfl⟩ := Option.map_eq_some_iff.1 h
    simpa using List.find?_some he

/-- The first slot of an identifier in a device whose job of that identifier has been changed. -/
theorem find?_onJob (d : Dev) (id : Nat) (f : Job → Job) (hf : ∀ j, (f j).id = j.id) (h0 : id ≠ 0) :
    (d.onJob id f).jobs.find? (fun e => e.2.id == id) = (d.jobs.find? (fun e => e.2.id == id)).map (fun e => (e.1, f e.2)) := by
  have hp : ((fun e : Nat × Job => e.2.id == id) ∘ fun e => if e.2.id = id ∧ id ≠ 0 then (e.1, f e.2) else e) =
      fun e => e.2.id == id := by
    funext e
    by_cases he : e.2.id = id <;> simp [he, hf, h0]
  simp only [Dev.onJob, List.find?_map, hp]
  refine Option.map_congr fun e he => ?_
  have he : e.2.id = id := by simpa using List.find?_some he
  simp [he, h0]

theorem jobSlot_onJob (d : Dev) (id : Nat) (f : Job → Job) (hf : ∀ j, (f j).id = j.id) :
    (d.onJob id f).jobSlot id = d.jobSlot id := by
  unfold Dev.jobSlot
  split
  · rfl
  · next h0 => simp [find?_onJob d id f hf h0, Function.comp_def]

theorem jobById_onJob (d : Dev) (id : Nat) (f : Job → Job) (hf : ∀ j, (f j).id = j.id) :
    (d.onJob id f).jobById id = (d.jobById id).map f := by
  unfold Dev.jobById
  split
  · rfl
  · next h0 => simp [find?_onJob d id f hf h0, Function.comp_def]

/-! ## A command accepted -/

@[simp] theorem rd_hostWrite (d : Dev) (a : Nat) (bs : List Byte) (off : Nat) : (d.hostWrite a bs).rd off = d.rd off := rfl
@[simp] theorem rd_raise (d : Dev) (v off : Nat) : (d.raise v).rd off = d.rd off := rfl

theorem rd_foldl_wr_other {α : Type} (g v : α → Nat) (off : Nat) (l : List α) (hg : ∀ x ∈ l, off ≠ g x) (d : Dev) :
    (l.foldl (fun (d : Dev) x => d.wr (g x) (v x)) d).rd off = d.rd off := by
  induction l generalizing d with
  | nil => rfl
  | cons x l ih =>
    rw [List.foldl_cons, ih fun y hy => hg y (List.mem_cons_of_mem _ hy), dev_rd_wr_other _ _ _ _ (hg x List.mem_cons_self)]

theorem rd_orBits_other (d : Dev) (off m off' : Nat) (h : off' ≠ off) : (d.orBits off m).rd off' = d.rd off' := by
  unfold Dev.orBits
  split
  · rfl
  · exact dev_rd_wr_other _ _ _ _ h

theorem rd_queueReply (d : Dev) (q seq st : Nat) (fin : Bool) (head r : Nat) (kr : Option (List Nat)) (off : Nat) (hq : q < 16)
    (ho : 0x20000 ≤ off) : (d.queueReply q seq st fin head r kr).rd off = d.rd off :=
  dev_rd_wr_other _ _ _ _ (by simp only [dRQ_TAIL]; omega)

theorem rd_urgentReply (d : Dev) (k seq st : Nat) (fin : Bool) (r : Nat) (kr : Option (List Nat)) (off : Nat) (hk : k < 4)
    (ho : 0x20000 ≤ off) : (d.urgentReply k seq st fin r kr).rd off = d.rd off := by
  unfold Dev.urgentReply
  extract_lets w bs all d₁ t d₂
  have h₁ : d₁.rd off = d.rd off :=
    rd_foldl_wr_other _ _ off (List.range 8) (fun i hi => by have := List.mem_range.1 hi; simp only [dURG_REPLY]; omega) d
  rw [rd_raise, ← h₁]
  unfold d₂
  split
  · rfl
  · split
    · exact rd_orBits_other _ _ _ _ (by simp only [dURG_STATUS]; omega)
    · exact dev_rd_wr_other _ _ _ _ (by simp only [dURG_RQ_TAIL]; omega)

/-- A reply to one of the twenty sources writes no register beyond the host block (R500, R504). -/
theorem rd_putReply (d : Dev) (src seq st : Nat) (fin : Bool) (head r : Nat) (kr : Option (List Nat)) (off : Nat) (hs : src < 20)
    (ho : 0x20000 ≤ off) : (d.putReply src seq st fin head r kr).rd off = d.rd off := by
  unfold Dev.putReply
  split
  · next hq => exact rd_queueReply _ _ _ _ _ _ _ _ _ hq ho
  · exact rd_urgentReply _ _ _ _ _ _ _ _ (by omega) ho

/-- The job slots, the tiles and the registers beyond the host block are as they were: what replies to the twenty sources leave. -/
def RepliesOnly (d d' : Dev) : Prop :=
  d'.jobs = d.jobs ∧ d'.tiles = d.tiles ∧ ∀ off, 0x20000 ≤ off → d'.rd off = d.rd off

theorem cmd_begin {d : Dev} {k : Nat} {c : Cmd} (h : sget? d.cmds k = some c) :
    sget? (d.begin k).cmds k = some { c with started := true } := by simp [Dev.begin, h]

theorem repliesOnly_begin (d : Dev) (k : Nat) : RepliesOnly d (d.begin k) := by
  unfold Dev.begin
  split <;> exact ⟨rfl, rfl, fun _ _ => rfl⟩

/-- An interim reply leaves its command, noted as having had it (R500). -/
theorem cmd_interim {d : Dev} {k : Nat} {c : Cmd} (h : sget? d.cmds k = some c) :
    ∃ b, sget? (d.interim k).cmds k = some { c with interim := b } := by
  simp only [Dev.interim, h]
  split
  · exact ⟨c.interim, h⟩
  · exact ⟨true, sget?_sput_same ..⟩

theorem repliesOnly_interim {d : Dev} {k : Nat} {c : Cmd} (h : sget? d.cmds k = some c) (hs : c.src < 20) :
    RepliesOnly d (d.interim k) := by
  simp only [Dev.interim, h]
  split
  · exact ⟨rfl, rfl, fun _ _ => rfl⟩
  · have hl := logsOnly_putReply d c.src c.seq 0x01 false c.head 0 (d.replyKey c)
    exact ⟨hl.jobs, hl.tiles, fun off ho => rd_putReply d c.src c.seq 0x01 false c.head 0 (d.replyKey c) off hs ho⟩

/-- A command accepted has started, and says what it said. -/
theorem cmd_accept {d : Dev} {k : Nat} {c : Cmd} (h : sget? d.cmds k = some c) :
    ∃ b, sget? (d.accept k).cmds k = some { c with started := true, interim := b } := cmd_interim (cmd_begin h)

theorem repliesOnly_accept {d : Dev} {k : Nat} {c : Cmd} (h : sget? d.cmds k = some c) (hs : c.src < 20) :
    RepliesOnly d (d.accept k) := by
  obtain ⟨hj, ht, hr⟩ := repliesOnly_begin d k
  obtain ⟨hj', ht', hr'⟩ := repliesOnly_interim (cmd_begin h) hs
  exact ⟨hj'.trans hj, ht'.trans ht, fun off ho => (hr' off ho).trans (hr off ho)⟩

/-! ## The release of a held step -/

/-- Replies leave the repair table, so that a release that may come still may (R35, R384). -/
theorem mayRelease_repliesOnly {d d' : Dev} (h : RepliesOnly d d') (j : Job) : d'.mayRelease j = d.mayRelease j := by
  obtain ⟨-, ht, hr⟩ := h
  have hp : d'.physOf = d.physOf := by
    funext l
    simp only [Dev.physOf, Dev.fld, hr (dREPAIR_MAP + 4 * l) (by simp only [dREPAIR_MAP]; omega)]
  simp only [Dev.mayRelease, Dev.lacksTile, Dev.jobTiles, Dev.tile, ht, hp]

theorem tryRelease_of_not_mayRelease {d : Dev} {id : Nat} {j : Job} (hj : d.jobById id = some j) (hm : d.mayRelease j = false) :
    d.tryRelease id = d := by
  unfold Dev.tryRelease
  split
  · next u j' _ hj' =>
    obtain rfl : j = j' := Option.some.inj (hj.symm.trans hj')
    simp [hm]
  · rfl

theorem tryRelease_held {d : Dev} {id u k : Nat} {j : Job} {rest : List Nat} {c : Cmd} (hu : d.jobSlot id = some u)
    (hj : d.jobById id = some j) (hm : d.mayRelease j = true) (ha : j.abandoned = false) (hh : j.held = k :: rest)
    (hc : sget? d.cmds k = some c) :
    d.tryRelease id = d.release u { j with held := rest } (c.body 0 4) (c.body 4 8) (some k) false := by
  simp [Dev.tryRelease, hu, hj, hm, ha, hh, hc]

/-- The oldest held step is released: the job in the slot runs it, with its cursor, and answers its command at the boundary. -/
theorem tryRelease_runs {d : Dev} {id u k : Nat} {j : Job} {rest : List Nat} {c : Cmd} (hu : d.jobSlot id = some u)
    (hj : d.jobById id = some j) (hm : d.mayRelease j = true) (ha : j.abandoned = false) (hh : j.held = k :: rest)
    (hc : sget? d.cmds k = some c) :
    ∃ j', sget? (d.tryRelease id).jobs u = some j' ∧ j'.running = true ∧ j'.step = c.body 0 4 ∧ j'.cursor = c.body 4 8 ∧
      j'.cmd = some k ∧ j'.held = rest := by
  have h := runAt_release d u { j with held := rest } (c.body 0 4) (c.body 4 8) (some k) false
  rw [← tryRelease_held hu hj hm ha hh hc] at h
  obtain ⟨j', hj', hr⟩ := Option.map_eq_some_iff.1 h
  simp only [runPart, Prod.mk.injEq] at hr
  exact ⟨j', hj', hr⟩

/-! ## STEP and GENERATE taken -/

/-- A job that holds one more step command. -/
def holdStep (k : Nat) (c : Cmd) (j : Job) : Job :=
  { j with held := j.held ++ [k], lastStep := if c.op = 0x0102 then some (c.body 0 4) else j.lastStep }

/-- A step command taken and held. -/
def heldDev (d : Dev) (k : Nat) (c : Cmd) : Dev := (d.accept k).onJob c.job (holdStep k c)

section
variable {d : Dev} {k : Nat} {c : Cmd} {j : Job}

theorem stepTaken_noJob (h : d.jobById c.job = none) : d.stepTaken k c = d.final k 0x11 0 := by simp [Dev.stepTaken, h]

theorem stepTaken_last (h : d.jobById c.job = some j)
    (hl : (j.ending.isSome || (c.op == 0x0102 && j.lastStep == some 0xFFFFFFFF)) = true) : d.stepTaken k c = d.final k 0x11 0 := by
  simp only [Dev.stepTaken, h, hl, if_true]

theorem stepTaken_lacksTile (h : d.jobById c.job = some j)
    (hl : (j.ending.isSome || (c.op == 0x0102 && j.lastStep == some 0xFFFFFFFF)) = false) (ht : d.lacksTile j = true) :
    d.stepTaken k c = d.final k 0x34 0 := by
  simp [Dev.stepTaken, h, hl, ht]

theorem stepTaken_held (h : d.jobById c.job = some j)
    (hl : (j.ending.isSome || (c.op == 0x0102 && j.lastStep == some 0xFFFFFFFF)) = false) (ht : d.lacksTile j = false) :
    d.stepTaken k c = (heldDev d k c).tryRelease c.job := by
  simp only [Dev.stepTaken, h, hl, ht, heldDev]
  rfl

theorem jobById_heldDev (hr : RepliesOnly d (d.accept k)) (h : d.jobById c.job = some j) :
    (heldDev d k c).jobById c.job = some (holdStep k c j) := by
  rw [heldDev, jobById_onJob _ _ (holdStep k c) fun _ => rfl, Dev.jobById, hr.1, ← Dev.jobById, h, Option.map_some]

theorem jobSlot_heldDev (hr : RepliesOnly d (d.accept k)) : (heldDev d k c).jobSlot c.job = d.jobSlot c.job := by
  rw [heldDev, jobSlot_onJob _ _ (holdStep k c) fun _ => rfl, Dev.jobSlot, hr.1, ← Dev.jobSlot]

theorem mayRelease_heldDev (hr : RepliesOnly d (d.accept k)) : (heldDev d k c).mayRelease (holdStep k c j) = d.mayRelease j :=
  mayRelease_repliesOnly hr j

end

section
variable {d : Dev} {k : Nat} {c c' : Cmd} {j : Job} (hc : sget? d.cmds k = some c') (hs : c'.src < 20)
  (hj : d.jobById c.job = some j) (hl : (j.ending.isSome || (c.op == 0x0102 && j.lastStep == some 0xFFFFFFFF)) = false)
  (ht : d.lacksTile j = false)
include hc hs hj hl ht

/-- A step whose release may not come yet is held: its command stands and the job's run is as it was (R35). -/
theorem stepTaken_waits (hm : d.mayRelease j = false) :
    (d.stepTaken k c).stands k ∧ (d.stepTaken k c).jobById c.job = some (holdStep k c j) := by
  have hr := repliesOnly_accept hc hs
  rw [stepTaken_held hj hl ht,
    tryRelease_of_not_mayRelease (jobById_heldDev hr hj) ((mayRelease_heldDev hr).trans hm)]
  obtain ⟨b, hb⟩ := cmd_accept hc
  exact ⟨⟨_, hb, rfl⟩, jobById_heldDev hr hj⟩

/-- A step whose release may come at once is released (R35). -/
theorem stepTaken_runs {u : Nat} (hu : d.jobSlot c.job = some u) (hm : d.mayRelease j = true) (ha : j.abandoned = false)
    (hh : j.held = []) :
    ∃ j', sget? (d.stepTaken k c).jobs u = some j' ∧ j'.running = true ∧ j'.step = c'.body 0 4 ∧ j'.cursor = c'.body 4 8 ∧
      j'.cmd = some k ∧ j'.held = [] := by
  have hr := repliesOnly_accept hc hs
  obtain ⟨b, hb⟩ := cmd_accept hc
  rw [stepTaken_held hj hl ht]
  have h := tryRelease_runs ((jobSlot_heldDev hr).trans hu) (jobById_heldDev hr hj) ((mayRelease_heldDev hr).trans hm) ha
    (show (holdStep k c j).held = [k] by simp [holdStep, hh]) hb
  exact h

end

/-! ## The commands STEP and GENERATE -/

/-- The two step commands run by one row's rule. -/
theorem exec_stepCommand (s : State) (k : Nat) :
    ∀ x ∈ [(0x0102, Instr.step k), (0x0103, Instr.generate k)], exec x.2 s = runStep x.1 k s := by
  simp only [List.mem_cons, List.not_mem_nil, or_false]
  rintro x (rfl | rfl) <;> rfl

/-- A step command that has not started is taken. -/
theorem runStep_taken {s : State} {k op : Nat} {c : Cmd} (h : s.mayStart k op c) :
    runStep op k s = .next (s.onDev ((s.dev.begin k).stepTaken k c)) := by
  obtain ⟨hc, ho, -, hs, hw⟩ := h
  simp only [runStep, hc, Dev.stepHeld, hs, Bool.false_and, Bool.false_eq_true, and_false, if_false]
  exact runCmd_eq op k s _ c hc ho hs hw

/-- A step command held whose release may come is released. -/
theorem runStep_held {s : State} {k op : Nat} {c : Cmd} (hc : sget? s.dev.cmds k = some c) (ho : c.op = op)
    (hh : s.dev.stepHeld k c = true) : runStep op k s = .next (s.onDev (s.dev.tryRelease c.job)) := by
  simp only [runStep, hc, ho, hh, and_self, if_true]
  rfl

/-- A held step command whose release may come is the oldest that its job holds. -/
theorem stepHeld_iff {d : Dev} {k : Nat} {c : Cmd} {j : Job} (hj : d.jobById c.job = some j) :
    d.stepHeld k c = true ↔ c.started = true ∧ j.held.head? = some k ∧ d.mayRelease j = true ∧ j.abandoned = false := by
  simp [Dev.stepHeld, hj, and_assoc]

/-- Settles O53: a step command is refused, or held, or released with everything a release fixes of its job. -/
theorem stepsReleased : Obligations.StepsReleased := by
  unfold Obligations.StepsReleased
  rintro s k c ⟨op, i⟩ hx
  rw [exec_stepCommand s k _ hx]
  refine ⟨fun hmay => ?_, fun u j hc ho ⟨_, hu, hj, _⟩ hheld => ?_⟩
  · obtain ⟨hc, ho, hsrc, -, -⟩ := id hmay
    have hc' := cmd_begin hc
    subst ho
    refine ⟨_, runStep_taken hmay, stepTaken_noJob, fun j hj => ⟨stepTaken_last hj, stepTaken_lacksTile hj, ?_, ?_⟩⟩
    · intro hl ht hm
      obtain ⟨hstands, hjob⟩ := stepTaken_waits hc' hsrc hj hl ht hm
      exact ⟨hstands, _, hjob, rfl, rfl, rfl⟩
    · rintro u ⟨_, hu, hj', _⟩ hl hm ha hh
      have ht : (s.dev.begin k).lacksTile j = false := by
        simp only [Dev.mayRelease, Bool.and_eq_true, Bool.not_eq_true'] at hm
        exact hm.1.2
      exact stepTaken_runs hc' hsrc hj hl ht hu hm ha hh
  · obtain ⟨-, hhead, hm, ha⟩ := (stepHeld_iff hj).1 hheld
    obtain ⟨rest, hh⟩ := List.head?_eq_some_iff.1 hhead
    obtain ⟨j', hrun⟩ := tryRelease_runs hu hj hm ha hh hc
    exact ⟨_, j', runStep_held hc ho hheld, by rw [hh]; exact hrun⟩

/-! ## The end of a run

A state bounds no command's source: a final reply to a source beyond the sixteen queues and four urgent slots is written as if to an
urgent slot further on, among other blocks' registers. The boundary answers the run's command after UPD_STATUS is cleared, so the
command of such a source leaves there what its reply says. -/

/-- A STEP command of sequence number 7 whose urgent slot's reply would lie at UPD_STATUS. -/
def strayCmd : Cmd := ⟨16 + (dUPD_STATUS - dURG_REPLY) / 0x20, 0, leBytes 4 0x0102 ++ leBytes 4 7, [], true, false⟩

/-- A job whose run, with that command, has been sealed. -/
def strayJob : Job := { (JobDesc.ofItems []).job 1 0 false [] 0 with tiles := 1, running := true, sealed := true, cmd := some 0 }

/-- The job in slot 0, its tile's table at its end. -/
def strayState : State :=
  ⟨[], { Dev.reset with tiles := [(0, { Tile.reset.setState stDONE with job := 1 })], jobs := [(0, strayJob)], cmds := [(0, strayCmd)] }⟩

theorem strayState_atBoundary : strayState.dev.atBoundary strayJob = true := by decide +kernel

/-- The boundary leaves the reply's first word, the sequence number, in UPD_STATUS. -/
theorem strayState_updStatus :
    ∃ t, exec (.stepBoundary 0 [] [] []) strayState = .next t ∧ t.dev.rd dUPD_STATUS = 7 := ⟨_, rfl, by decide +kernel⟩

/-- Refutes O31: its first clause says that a boundary leaves UPD_STATUS clear, in every state; the reply to a command of a source that
the module does not have (R504) overwrites it. -/
theorem not_runsEnd : ¬ Obligations.RunsEnd := by
  unfold Obligations.RunsEnd
  intro h
  obtain ⟨hBoundary, -, -⟩ := h strayState 0 strayJob (by decide) rfl rfl
  obtain ⟨s', hs', -, -, -, hClear, -⟩ := hBoundary [] [] [] strayState_atBoundary rfl rfl rfl
  obtain ⟨t, ht, hSeven⟩ := strayState_updStatus
  obtain rfl : s' = t := Host.Outcome.next.inj (hs'.symm.trans ht)
  exact absurd (hClear.symm.trans hSeven) (by decide)

end Sys2Proof.Laws
end

section
/-! SUPPORT. What a register store that nothing has written reads, the registers and tiles of the device at cold reset, and the statement
about reset (R30, R56, R181). -/

namespace Sys2Proof.Laws

open Sys2Proof.Machine

/-! ## Registers nothing has written -/

/-- A register nothing has written reads the reset value of its row. -/
theorem regGet_unwritten {tab : List RegDesc} {rs : Regs} {off : Nat} (h : sget? rs off = none) :
    regGet tab rs off = (resetOf tab off).toNat := by
  simp [regGet, h]

theorem tile_rd_reset (off : Nat) : Tile.reset.rd off = (resetOf tileRegs off).toNat := regGet_unwritten rfl
theorem dev_rd_reset (off : Nat) : Dev.reset.rd off = (resetOf devRegs off).toNat := regGet_unwritten rfl

/-! ## Tiles at cold reset -/

/-- No tile has been changed: each one is as a cold reset leaves it. -/
@[simp] theorem tile_reset (p : Nat) : Dev.reset.tile p = Tile.reset := rfl

/-- PROFILE, FN_FAST, FTZ and RND are clear (R56). -/
theorem tile_reset_numCtrl : Tile.reset.rd tNUM_CTRL = 0 := by
  rw [tile_rd_reset]
  decide +kernel

/-- LOFT_OWN_NOW shows XT, 7, for each of the eight banks (R181). -/
theorem tile_reset_loftOwnNow : Tile.reset.rd tLOFT_OWN_NOW = 0x77777777 := by
  rw [tile_rd_reset]
  decide +kernel

/-- Every four-bit field of 0x77777777 holds XT's number. -/
theorem bits_allXT : ∀ b < 8, bits 0x77777777 (4 * b + 3) (4 * b) = mXT := by decide

theorem tile_reset_owner {b : Nat} (hb : b < 8) : Tile.reset.owner b = mXT := by
  rw [Tile.owner, Tile.fld, tile_reset_loftOwnNow, bits_allXT b hb]

/-! ## The device at cold reset -/

/-- No lock bit is set. -/
theorem dev_reset_tcLock : Dev.reset.rd dTC_LOCK = 0 := by
  rw [dev_rd_reset]
  decide +kernel

/-- No row of the start-up table has completed, and READY is clear (R30). -/
theorem dev_reset_glbStart : Dev.reset.rd dGLB_START = 0 := by
  rw [dev_rd_reset]
  decide +kernel

theorem dev_reset_notReady : Dev.reset.ready = false := by
  rw [Dev.ready, Dev.fld, dev_reset_glbStart]
  rfl

theorem dev_reset_hkPstate : Dev.reset.rd dHK_PSTATE = 0 := by
  rw [dev_rd_reset]
  decide +kernel

theorem dev_reset_pstate : Dev.reset.pstate = 0 := by
  rw [Dev.pstate, Dev.fld, dev_reset_hkPstate]
  rfl

/-- Settles O60: the records are empty at cold reset, and each register reads its row's reset value. -/
theorem resetValues : Obligations.ResetValues := by
  unfold Obligations.ResetValues
  have hMem : State.reset.memOk := ⟨rfl, rfl⟩
  have hNum (p : Nat) : (Dev.reset.tile p).rd tNUM_CTRL = 0 := by rw [tile_reset, tile_reset_numCtrl]
  have hOwner (p b : Nat) (hb : b < 8) : (Dev.reset.tile p).owner b = mXT := by rw [tile_reset, tile_reset_owner hb]
  exact ⟨hMem, rfl, rfl, rfl, dev_reset_tcLock, dev_reset_notReady, hNum, hOwner, dev_reset_pstate⟩

end Sys2Proof.Laws
end

section
/-! SUPPORT. The issue of a table entry whose wait is over, whose predicate holds and whose command passes its checks: the effect of
its row, and the statement about the rows of a table (R189, R192, R206, R220). -/

namespace Sys2Proof.Laws

open Sys2Proof.Machine

/-- Looking at the next entry reports the decode of its words at most. -/
theorem logsOnly_looked (d : Dev) (p : Nat) : LogsOnly d (d.looked p) := by
  unfold Dev.looked
  split
  · exact LogsOnly.refl d
  · exact logsOnly_entryReports ..

@[simp] theorem tile_looked (d : Dev) (p q : Nat) : (d.looked p).tile q = d.tile q := (logsOnly_looked d p).tile q

section

variable {d : Dev} {p x : Nat} {chk : Dev → Issue → Option Bad} {eff : Dev → Issue → Dev}

/-- An entry whose wait is over goes to its issue, from WAIT as from RUN (R188, R189). -/
theorem sequence_waitOver (h : d.waitOver p x) :
    d.sequence chk eff p x = (((d.looked p).issueAt chk eff p x).rangeStop p).roundStop p := by
  unfold Dev.sequence Dev.looked
  by_cases hw : (d.tile p).state = stWAIT
  case pos => simp only [if_pos hw]
  case neg =>
    obtain ⟨hEcc, hFields, hMet⟩ := h.resolve_left hw
    have hFields' : flagFieldsBad (d.entryReports p (d.tile p).bank (d.tile p).next) (d.tile p) (d.tile p).nextEntry = none := by
      rwa [Dev.looked, if_neg hw] at hFields
    simp only [if_neg hw, Dev.atCounted, hEcc, hFields', hMet, Bool.false_eq_true, if_false, if_true]

/-- With its predicate true and its checks passed, the issued entry's command has its effect (R192, R220). -/
theorem issueAt_effect (hp : d.predHolds p x = true) (hc : chk (d.atCommand p x) (d.issueOf p x) = none) :
    (d.looked p).issueAt chk eff p x =
      eff ((d.atCommand p x).onTile p (fun t => t.note (d.tile p).nextPos 0)) (d.issueOf p x) := by
  simp only [Dev.predHolds, Dev.atCommand, Dev.issueOf, Dev.afterIssue, tile_looked] at hp hc ⊢
  simp only [Dev.issueAt, tile_looked, hp, hc, Bool.not_true, Bool.false_eq_true, if_false]

/-- The row's command, on an entry that executes, answers the device after its effect. -/
theorem issueCommand_executes {s : State} {op : Nat} (h : s.dev.executes op chk p x) :
    issueCommand op chk eff p s = .next (s.onDev (s.dev.afterEffect eff p x)) := by
  obtain ⟨hTile, hMay, hWait, hPred, hChk⟩ := h
  have hSeq : s.dev.sequence chk eff p x = s.dev.afterEffect eff p x := by
    rw [sequence_waitOver hWait, issueAt_effect hPred hChk, Dev.afterEffect]
  exact (issueCommand_next op chk eff p s _).2 ⟨hTile, x, hMay, by rw [hSeq, State.onDev]⟩

/-- An instruction that means its row's command has the row's effect where the entry executes. -/
theorem exec_eq_afterEffect {s : State} {op : Nat} {i : Instr} (hi : exec i s = issueCommand op chk eff p s) (h : s.dev.executes op chk p x) :
    exec i s = .next (s.onDev (s.dev.afterEffect eff p x)) :=
  hi.trans (issueCommand_executes h)

end

/-- Settles O6: each row's instruction is `issueCommand` with the row's opcode, check and effect. -/
theorem tableRowsExecute : Obligations.TableRowsExecute := by
  unfold Obligations.TableRowsExecute
  intro s p x
  and_intros <;> exact exec_eq_afterEffect rfl

end Sys2Proof.Laws
end

section
/-! SUPPORT. What acts on a tile from outside its table: marches, the enabling and the reset of a tile, its work messages, and the
statement about them (R153, R156, R175 to R182, R200, R469). -/

namespace Sys2Proof.Laws

open Sys2Proof.Machine

/-! ## Stores cut down by key -/

section

variable {α : Type}

/-- A store cut down to the keys that meet `q` reads as before under them, and the default elsewhere. -/
theorem sget_filter_key (d : α) (m : Sparse α) (q : Nat → Bool) (k : Nat) :
    sget d (m.filter (fun e => q e.1)) k = if q k then sget d m k else d := by
  induction m with
  | nil => simp [sget]
  | cons e r ih =>
    obtain ⟨j, v⟩ := e
    by_cases hj : j = k
    case pos => subst hj; by_cases hq : q j <;> simp [hq, sget, ih]
    case neg => by_cases hq : q j <;> simp [hq, hj, sget, ih]

theorem sget?_filter_key_out {m : Sparse α} {q : Nat → Bool} {k : Nat} (h : q k = false) :
    sget? (m.filter (fun e => q e.1)) k = none := by
  induction m with
  | nil => rfl
  | cons e r ih =>
    obtain ⟨j, v⟩ := e
    by_cases hj : j = k
    case pos => subst hj; simpa [h] using ih
    case neg => by_cases hq : q j <;> simp [hq, hj, sget?, ih]

end

/-! ## Time -/

/-- The clock advanced changes the clock and registers (the throttled time's) alone. -/
theorem advance_eq (d : Dev) (n : Nat) : ∃ c r, d.advance n = { d with clock := c, regs := r } ∧ c.now = d.clock.now + n := by
  unfold Dev.advance
  split
  · next h => exact ⟨_, _, rfl, by simp [h]⟩
  · dsimp only
    split <;> exact ⟨_, _, rfl, rfl⟩

@[simp] theorem tiles_advanceTo (d : Dev) (g : Nat) : (d.advanceTo g).tiles = d.tiles := by
  obtain ⟨c, r, h, -⟩ := advance_eq d (g - d.clock.now)
  rw [Dev.advanceTo, h]

@[simp] theorem tile_advanceTo (d : Dev) (g p : Nat) : (d.advanceTo g).tile p = d.tile p := by
  rw [Dev.tile, Dev.tile, tiles_advanceTo]

@[simp] theorem outbox_advanceTo (d : Dev) (g : Nat) : (d.advanceTo g).outbox = d.outbox := by
  obtain ⟨c, r, h, -⟩ := advance_eq d (g - d.clock.now)
  rw [Dev.advanceTo, h]

@[simp] theorem grnMem_advanceTo (d : Dev) (g : Nat) : (d.advanceTo g).grnMem = d.grnMem := by
  obtain ⟨c, r, h, -⟩ := advance_eq d (g - d.clock.now)
  rw [Dev.advanceTo, h]

theorem le_now_advanceTo (d : Dev) (g : Nat) : g ≤ (d.advanceTo g).clock.now := by
  obtain ⟨c, r, h, hc⟩ := advance_eq d (g - d.clock.now)
  rw [Dev.advanceTo, h]
  dsimp only
  omega

/-- Leaving Idle moves no clock and touches no tile (R521). -/
theorem leaveIdle_eq (d : Dev) : ∃ r w, d.leaveIdle = { d with regs := r, power := w } := by
  unfold Dev.leaveIdle
  split <;> exact ⟨_, _, rfl⟩

@[simp] theorem tile_leaveIdle (d : Dev) (p : Nat) : d.leaveIdle.tile p = d.tile p := by
  obtain ⟨r, w, h⟩ := leaveIdle_eq d
  rw [h, Dev.tile, Dev.tile]

@[simp] theorem clock_leaveIdle (d : Dev) : d.leaveIdle.clock = d.clock := by
  obtain ⟨r, w, h⟩ := leaveIdle_eq d
  rw [h]

@[simp] theorem tile_send (d : Dev) (m : Out) (p : Nat) : (d.send m).tile p = d.tile p := rfl

/-! ## Bits set in a tile's register -/

theorem tile_orBits_eq (t : Tile) (off m : Nat) : ∃ r, t.orBits off m = { t with regs := r } := by
  unfold Tile.orBits
  split <;> exact ⟨_, rfl⟩

@[simp] theorem loft_orBits (t : Tile) (off m : Nat) : (t.orBits off m).loft = t.loft := by
  obtain ⟨r, h⟩ := tile_orBits_eq t off m
  rw [h]

@[simp] theorem march_orBits (t : Tile) (off m : Nat) : (t.orBits off m).march = t.march := by
  obtain ⟨r, h⟩ := tile_orBits_eq t off m
  rw [h]

theorem tile_rd_orBits_other (t : Tile) {off off' m : Nat} (h : off' ≠ off) : (t.orBits off m).rd off' = t.rd off' := by
  unfold Tile.orBits
  split
  · rfl
  · exact tile_rd_wr_other _ _ _ _ h

/-- A bit that the mask sets reads 1. -/
theorem bit_rd_orBits (t : Tile) (off : Nat) {m i : Nat} (hi : i < 32) (hm : m.testBit i = true) :
    bit ((t.orBits off m).rd off) i = true := by
  have hm0 : m ≠ 0 := by
    rintro rfl
    simp at hm
  rw [Tile.orBits, if_neg hm0, tile_rd_wr_same, bit, Nat.testBit_mod_two_pow, Nat.testBit_or, hm]
  simp [hi]

/-! ## The start of a march (R178) -/

/-- Banks are owned as before when another register is written. -/
theorem owns_wr {t : Tile} {off v m bs : Nat} (h : tLOFT_OWN_NOW ≠ off) : (t.wr off v).owns m bs = t.owns m bs := by
  simp only [Tile.owns, Tile.owner, Tile.fld, tile_rd_wr_other _ _ _ _ h]

theorem exec_marchStart {s : State} {p w : Nat} (hp : p < 272) :
    exec (.marchStart p w) s = .next { s with dev := s.dev.leaveIdle.marchStart p w } :=
  if_pos hp

/-- A march that may run is in progress afterwards. -/
theorem marchStart_runs {d : Dev} {p w : Nat} (hm : (d.tile p).march = none) (ho : (d.tile p).owns mXT (bits w 15 8) = true) :
    d.marchStart p w = d.setTile p { ((d.tile p).wr tMARCH_CTRL (w &&& 0xFF06)).setBusy true with
      march := some ⟨bits w 15 8, bit w 1, bit w 2, d.clock.now + marchTc (bit w 1)⟩ } := by
  simp [Dev.marchStart, hm, ho, owns_wr (t := d.tile p) (off := tMARCH_CTRL) (by decide)]

/-- Any other start leaves MARCH_CTRL and MARCH_REFUSED behind. -/
theorem marchStart_refused {d : Dev} {p w : Nat}
    (h : (d.tile p).march.isSome = true ∨ (d.tile p).owns mXT (bits w 15 8) = false) :
    d.marchStart p w = d.setTile p (((d.tile p).wr tMARCH_CTRL (w &&& 0xFF06)).orBits tLOFT_STATUS lsMARCH_REFUSED) := by
  have hc : ((d.tile p).march.isSome || !(d.tile p).owns mXT (bits w 15 8)) = true := by simpa using h
  simp [Dev.marchStart, hc, owns_wr (t := d.tile p) (off := tMARCH_CTRL) (by decide)]

/-! ## The end of a march (R175, R176, R179) -/

/-- What repairs and write-backs at the end of a march keep: the clock, every other tile, the march and MARCH_STATUS. -/
structure MarchSteady (p : Nat) (d d' : Dev) : Prop where
  clock : d'.clock = d.clock
  others : ∀ q, q ≠ p → d'.tile q = d.tile q
  march : (d'.tile p).march = (d.tile p).march
  status : (d'.tile p).rd tMARCH_STATUS = (d.tile p).rd tMARCH_STATUS

theorem MarchSteady.refl (p : Nat) (d : Dev) : MarchSteady p d d := ⟨rfl, fun _ _ => rfl, rfl, rfl⟩

theorem MarchSteady.trans {p : Nat} {a b c : Dev} (h : MarchSteady p a b) (k : MarchSteady p b c) : MarchSteady p a c :=
  ⟨k.clock.trans h.clock, fun q hq => (k.others q hq).trans (h.others q hq), k.march.trans h.march, k.status.trans h.status⟩

theorem LogsOnly.marchSteady {d d' : Dev} (h : LogsOnly d d') (p : Nat) : MarchSteady p d d' :=
  ⟨h.clock, fun q _ => h.tile q, by rw [h.tile], by rw [h.tile]⟩

theorem marchSteady_onTile {d : Dev} {p : Nat} {f : Tile → Tile} (hm : (f (d.tile p)).march = (d.tile p).march)
    (hs : (f (d.tile p)).rd tMARCH_STATUS = (d.tile p).rd tMARCH_STATUS) : MarchSteady p d (d.onTile p f) :=
  ⟨rfl, fun q hq => tile_onTile_other d p q f hq, by rw [tile_onTile_same, hm], by rw [tile_onTile_same, hs]⟩

theorem logsOnly_repairRecord (d : Dev) (p b status row : Nat) : LogsOnly d (d.repairRecord p b status row) :=
  logsOnly_errRecord ..

/-- A faulty row is repaired, or found without a spare, with neither the march nor the Loft touched (R179, R180). -/
theorem marchRepair_keeps (p : Nat) (acc : Dev × List Nat) (r : Nat) :
    MarchSteady p acc.1 (Dev.marchRepair p acc r).1 ∧ ((Dev.marchRepair p acc r).1.tile p).loft = (acc.1.tile p).loft := by
  unfold Dev.marchRepair
  extract_lets b row
  split
  · exact ⟨.refl _ _, rfl⟩
  · split
    · next i hi =>
      have hreg : tMARCH_STATUS ≠ tLOFT_REPAIR + 64 * b + 4 * i := by unfold tMARCH_STATUS tLOFT_REPAIR; omega
      exact ⟨(marchSteady_onTile rfl (tile_rd_wr_other _ _ _ _ hreg)).trans ((logsOnly_repairRecord ..).marchSteady p),
        by rw [(logsOnly_repairRecord ..).tile, tile_onTile_same, tile_wr_loft]⟩
    · exact ⟨(marchSteady_onTile (march_orBits ..) (tile_rd_orBits_other _ (by decide))).trans
          ((logsOnly_repairRecord ..).marchSteady p),
        by rw [(logsOnly_repairRecord ..).tile, tile_onTile_same]; exact loft_orBits ..⟩

/-- The faulty rows at the end of a march: repaired with REPAIR, else recorded. -/
def marchRows (d : Dev) (p : Nat) (m : March) (rows : List Nat) : Dev × List Nat :=
  if m.repair then rows.foldl (Dev.marchRepair p) (d, [])
  else (rows.foldl (fun (d : Dev) r => d.repairRecord p (r / 2048 % 8) 0 (r % 2048)) d, [])

theorem marchRows_keeps (d : Dev) (p : Nat) (m : March) (rows : List Nat) :
    MarchSteady p d (marchRows d p m rows).1 ∧ ((marchRows d p m rows).1.tile p).loft = (d.tile p).loft := by
  unfold marchRows
  split
  · refine List.foldlRecOn (motive := fun acc : Dev × List Nat => MarchSteady p d acc.1 ∧ (acc.1.tile p).loft = (d.tile p).loft)
      rows _ ⟨.refl p d, rfl⟩ ?_
    rintro acc ⟨hSteady, hLoft⟩ r -
    obtain ⟨hStep, hLoftStep⟩ := marchRepair_keeps p acc r
    exact ⟨hSteady.trans hStep, hLoftStep.trans hLoft⟩
  · have h := LogsOnly.foldl (fun (d : Dev) r => d.repairRecord p (r / 2048 % 8) 0 (r % 2048))
      (fun _ _ => logsOnly_repairRecord ..) rows d
    exact ⟨h.marchSteady p, by rw [h.tile]⟩

theorem marchSteady_loftWrite (d : Dev) (p a : Nat) (bs : List Byte) : MarchSteady p d (d.loftWrite p a bs) := by
  unfold Dev.loftWrite
  exact marchSteady_onTile rfl rfl

/-- A word written back at the end of a preserving march is the tile's Loft or its flipped bits (R176, R371). -/
theorem marchSteady_marchWord (d : Dev) (p : Nat) (repaired : List Nat) (w : Nat) :
    MarchSteady p d (d.marchWord p repaired w) := by
  unfold Dev.marchWord
  extract_lets f o t d₁
  have hLog : MarchSteady p d d₁ := (logsOnly_codeReport ..).marchSteady p
  refine hLog.trans ?_
  clear_value d₁ o
  split
  · split
    · exact marchSteady_loftWrite ..
    · exact marchSteady_onTile rfl rfl
  · exact marchSteady_onTile rfl rfl

/-- A tile whose march has ended: none in progress, BUSY clear, the faulty rows counted, MARCH_FAIL where there are some. -/
def marchShown (rows : List Nat) (t : Tile) : Tile :=
  let t := { t.setBusy false with march := none }
  let t := t.setFld tMARCH_STATUS 15 8 (min 255 rows.length)
  if rows = [] then t else t.orBits tLOFT_STATUS lsMARCH_FAIL

theorem march_marchShown (rows : List Nat) (t : Tile) : (marchShown rows t).march = none := by
  unfold marchShown
  split
  · rfl
  · exact march_orBits ..

theorem loft_marchShown (rows : List Nat) (t : Tile) : (marchShown rows t).loft = t.loft := by
  unfold marchShown
  split
  · rfl
  · exact loft_orBits ..

/-- MARCH_STATUS as the end of a march leaves it. -/
theorem rd_marchShown (rows : List Nat) (t : Tile) :
    (marchShown rows t).rd tMARCH_STATUS =
      ((t.setBusy false).setFld tMARCH_STATUS 15 8 (min 255 rows.length)).rd tMARCH_STATUS := by
  unfold marchShown
  split
  · rfl
  · exact tile_rd_orBits_other _ (by decide)

theorem busy_marchShown (rows : List Nat) (t : Tile) : (marchShown rows t).fld tMARCH_STATUS 0 0 = 0 := by
  rw [Tile.fld, rd_marchShown, ← Tile.fld, tile_fld_setFld_other _ _ _ _ _ _ _ (by decide) (by decide) (by decide), Tile.setBusy,
    tile_fld_setFld_same _ _ _ _ _ (by decide) (by decide)]
  rfl

theorem faulty_marchShown (rows : List Nat) (t : Tile) : (marchShown rows t).fld tMARCH_STATUS 15 8 = min 255 rows.length := by
  rw [Tile.fld, rd_marchShown, ← Tile.fld, tile_fld_setFld_same _ _ _ _ _ (by decide) (by decide)]
  exact Nat.mod_eq_of_lt (Nat.lt_of_le_of_lt (Nat.min_le_left ..) (by decide))

/-- The device once the end of a march shows, and the faulty rows are dealt with. -/
def marchEnded (d : Dev) (p : Nat) (m : March) (rows : List Nat) : Dev := (d.advanceTo m.ends).onTile p (marchShown rows)

theorem marchDone_destructive {d : Dev} {p : Nat} {m : March} {rows : List Nat} (h : m.preserving = false) :
    d.marchDone p m rows = (marchRows (marchEnded d p m rows) p m rows).1.onTile p (fun t => t.marchZero m.banks) := by
  simp only [Dev.marchDone, h, Bool.false_eq_true, if_false]
  rfl

/-- After its end shows, a march changes nothing that its registers say, no other tile and no clock. -/
theorem marchSteady_marchDone (d : Dev) (p : Nat) (m : March) (rows : List Nat) :
    MarchSteady p (marchEnded d p m rows) (d.marchDone p m rows) := by
  have hRows := (marchRows_keeps (marchEnded d p m rows) p m rows).1
  by_cases h : m.preserving = false
  case pos =>
    rw [marchDone_destructive h]
    exact hRows.trans (marchSteady_onTile rfl rfl)
  case neg =>
    refine hRows.trans ?_
    simp only [Dev.marchDone, h, if_true]
    exact List.foldlRecOn (motive := MarchSteady p _) _ _ (.refl p _) fun _ hd w _ => hd.trans (marchSteady_marchWord _ p _ w)

theorem rdByte_marchZero (t : Tile) (banks a : Nat) :
    rdByte (t.marchZero banks).loft a = if banks.testBit (bankOf a) then 0 else rdByte t.loft a := by
  refine (sget_filter_key (0 : Byte) t.loft (fun a => !banks.testBit (bankOf a)) a).trans ?_
  cases banks.testBit (bankOf a) <;> rfl

/-- A byte after a destructive march: zero in the banks under test, as before elsewhere (R175). -/
theorem rdByte_marchDone {d : Dev} {p : Nat} {m : March} {rows : List Nat} (h : m.preserving = false) (a : Nat) :
    rdByte ((d.marchDone p m rows).tile p).loft a =
      if m.banks.testBit (bankOf a) then 0 else rdByte (d.tile p).loft a := by
  have hLoft : ((marchRows (marchEnded d p m rows) p m rows).1.tile p).loft = (d.tile p).loft := by
    rw [(marchRows_keeps ..).2, marchEnded, tile_onTile_same, loft_marchShown, tile_advanceTo]
  rw [marchDone_destructive h, tile_onTile_same, rdByte_marchZero, hLoft]

theorem exec_marchDone {s : State} {p : Nat} {m : March} {rows : List Nat} (hp : p < 272) (hm : (s.dev.tile p).march = some m)
    (hr : m.rowsOk rows = true) : exec (.marchDone p rows) s = .next { s with dev := s.dev.marchDone p m rows } := by
  show execMarchDone p rows s = _
  simp only [execMarchDone, hp, hm, hr, if_true]

/-! ## Enabling a tile (R181) -/

@[simp] theorem loft_giveBank (t : Tile) (b m x : Nat) : (t.giveBank b m x).loft = t.loft := by
  unfold Tile.giveBank
  split <;> rfl

@[simp] theorem desc_giveBank (t : Tile) (b m x : Nat) : (t.giveBank b m x).desc = t.desc := by
  unfold Tile.giveBank
  split <;> rfl

theorem rd_giveBank_other (t : Tile) (b m x : Nat) {off : Nat} (h : off ≠ tLOFT_OWN_NOW) : (t.giveBank b m x).rd off = t.rd off := by
  unfold Tile.giveBank
  split
  · rfl
  · exact tile_rd_setFld_other _ _ _ _ _ _ h

/-- A bank given belongs to the master it was given to. -/
theorem owner_giveBank_same (t : Tile) (b m x : Nat) (hb : b < 8) (hm : m < 16) : (t.giveBank b m x).owner b = m := by
  unfold Tile.giveBank
  split
  · assumption
  · have hw : 4 * b + 3 + 1 - 4 * b = 4 := by omega
    have hOwn := tile_fld_setFld_same t tLOFT_OWN_NOW (4 * b + 3) (4 * b) m (by omega) (by omega)
    rw [hw] at hOwn
    exact hOwn.trans (Nat.mod_eq_of_lt hm)

theorem owner_giveBank_other (t : Tile) (b c m x : Nat) (hb : b < 8) (h : c ≠ b) : (t.giveBank b m x).owner c = t.owner c := by
  unfold Tile.giveBank
  split
  · rfl
  · exact tile_fld_setFld_other t tLOFT_OWN_NOW _ _ m _ _ (by omega) (by omega) (by omega)

/-- A bank given to the owner that LOFT_OWN holds for it. -/
def giveOwn (x : Nat) (t : Tile) (b : Nat) : Tile := t.giveBank b (t.fld tLOFT_OWN (4 * b + 3) (4 * b)) x

theorem fld_giveOwn (x : Nat) (t : Tile) (b hi lo : Nat) : (giveOwn x t b).fld tLOFT_OWN hi lo = t.fld tLOFT_OWN hi lo := by
  rw [Tile.fld, giveOwn, rd_giveBank_other _ _ _ _ (by decide), ← Tile.fld]

theorem fld_own_lt (t : Tile) (b : Nat) : t.fld tLOFT_OWN (4 * b + 3) (4 * b) < 16 := by
  have hw : 4 * b + 3 + 1 - 4 * b = 4 := by omega
  have hlt := bits_lt (t.rd tLOFT_OWN) (4 * b + 3) (4 * b)
  rwa [hw] at hlt

/-- Each of the banks listed takes LOFT_OWN's owner, and the others keep theirs. -/
theorem owner_foldl_giveOwn (x : Nat) (bs : List Nat) (hbs : ∀ b ∈ bs, b < 8) (t : Tile) (c : Nat) :
    (bs.foldl (giveOwn x) t).owner c = if c ∈ bs then t.fld tLOFT_OWN (4 * c + 3) (4 * c) else t.owner c := by
  induction bs generalizing t with
  | nil => simp
  | cons b bs ih =>
    obtain ⟨hb, hbs⟩ := List.forall_mem_cons.1 hbs
    rw [List.foldl_cons, ih hbs, fld_giveOwn]
    by_cases hc : c = b
    case pos =>
      subst hc
      rw [giveOwn, owner_giveBank_same _ _ _ _ hb (fld_own_lt t c)]
      simp
    case neg => rw [giveOwn, owner_giveBank_other _ _ _ _ _ hb hc]; simp [hc]

theorem ownersFromOwn_eq (t : Tile) (x : Nat) : t.ownersFromOwn x = (List.range 8).foldl (giveOwn x) t := rfl

theorem owner_ownersFromOwn (t : Tile) (x : Nat) {b : Nat} (hb : b < 8) :
    (t.ownersFromOwn x).owner b = t.fld tLOFT_OWN (4 * b + 3) (4 * b) := by
  rw [ownersFromOwn_eq, owner_foldl_giveOwn x _ (fun _ => List.mem_range.1), if_pos (List.mem_range.2 hb)]

@[simp] theorem loft_ownersFromOwn (t : Tile) (x : Nat) : (t.ownersFromOwn x).loft = t.loft :=
  List.foldlRecOn (motive := fun u => u.loft = t.loft) _ _ rfl fun u hu _ _ => (loft_giveBank u ..).trans hu

@[simp] theorem desc_ownersFromOwn (t : Tile) (x : Nat) : (t.ownersFromOwn x).desc = t.desc :=
  List.foldlRecOn (motive := fun u => u.desc = t.desc) _ _ rfl fun u hu _ _ => (desc_giveBank u ..).trans hu

/-- ENABLE set on a disabled tile. -/
theorem tileEnable_disabled {d : Dev} {p : Nat} (h : (d.tile p).enabled = false) :
    d.tileEnable p =
      d.setTile p (((d.tile p).ownersFromOwn ((d.tile p).toLocal d.clock.now)).setFld tTILE_CTRL 0 0 1) := by
  simp only [Dev.tileEnable, h, Bool.false_eq_true, if_false]

theorem exec_tileEnable {s : State} {p : Nat} (hp : p < 272) (hf : p ∉ s.dev.fuses.fusedOff) :
    exec (.tileEnable p) s = .next { s with dev := s.dev.tileEnable p } :=
  if_pos ⟨hp, hf⟩

/-! ## Work messages (R156, R469) -/

@[simp] theorem regs_sendWork (p : Nat) (d : Dev) (c : Nat) : (Dev.sendWork p d c).regs = d.regs := rfl

theorem tile_sendWork_other (p : Nat) (d : Dev) (c : Nat) {q : Nat} (h : q ≠ p) : (Dev.sendWork p d c).tile q = d.tile q :=
  tile_setTile_other _ _ _ _ h

/-- The tile after the message of a class: the class has no unsent work, and its second copy is due. -/
theorem tile_sendWork (p : Nat) (d : Dev) (c : Nat) :
    (Dev.sendWork p d c).tile p = Tile.wr { d.tile p with
      unsent := sdel (d.tile p).unsent c, workSeq := ((d.tile p).workSeq + 1) % 2 ^ 64,
      second := (d.tile p).second ++ [(d.clock.now + 256, (d.tile p).workMsg c)] }
      tWORK_SEQ (((d.tile p).workSeq + 1) % 2 ^ 64 % 2 ^ 32) :=
  tile_setTile_same ..

theorem outbox_sendWork (p : Nat) (d : Dev) (c : Nat) :
    (Dev.sendWork p d c).outbox = d.outbox ++ [.work false ((d.tile p).workMsg c)] := rfl

section

variable (p : Nat) (cs : List Nat) (d : Dev)

theorem unsent_foldl_sendWork :
    ((cs.foldl (Dev.sendWork p) d).tile p).unsent = (d.tile p).unsent.filter (fun e => !cs.contains e.1) := by
  induction cs generalizing d with
  | nil => exact (List.filter_eq_self.2 fun _ _ => rfl).symm
  | cons c cs ih =>
    rw [List.foldl_cons, ih, tile_sendWork, tile_wr_unsent, sdel, List.filter_filter]
    refine List.filter_congr fun e _ => Bool.eq_iff_iff.2 ?_
    simp [and_comm]

theorem length_outbox_foldl_sendWork : (cs.foldl (Dev.sendWork p) d).outbox.length = d.outbox.length + cs.length := by
  induction cs generalizing d with
  | nil => rfl
  | cons c cs ih =>
    rw [List.foldl_cons, ih, outbox_sendWork]
    simp only [List.length_append, List.length_cons, List.length_nil]
    omega

theorem length_second_foldl_sendWork :
    ((cs.foldl (Dev.sendWork p) d).tile p).second.length = (d.tile p).second.length + cs.length := by
  induction cs generalizing d with
  | nil => rfl
  | cons c cs ih =>
    rw [List.foldl_cons, ih, tile_sendWork, tile_wr_second]
    simp only [List.length_append, List.length_cons, List.length_nil]
    omega

end

/-- No class has unsent work once every class has been sent. -/
theorem unsent_sendWorks (d : Dev) (p : Nat) : ((d.sendWorks p).tile p).unsent = [] := by
  rw [Dev.sendWorks, unsent_foldl_sendWork, List.filter_eq_nil_iff]
  intro e he
  have hSent : e.1 ∈ (d.tile p).unsent.map (·.1) := List.mem_map_of_mem he
  rw [List.contains_iff_mem.2 hSent]
  decide

/-- One message for each class. -/
theorem length_outbox_sendWorks (d : Dev) (p : Nat) :
    (d.sendWorks p).outbox.length = d.outbox.length + (d.tile p).unsent.length := by
  rw [Dev.sendWorks, length_outbox_foldl_sendWork, List.length_map]

theorem length_second_sendWorks (d : Dev) (p : Nat) :
    ((d.sendWorks p).tile p).second.length = (d.tile p).second.length + (d.tile p).unsent.length := by
  rw [Dev.sendWorks, length_second_foldl_sendWork, List.length_map]

theorem regs_sendWorks (d : Dev) (p : Nat) : (d.sendWorks p).regs = d.regs :=
  List.foldlRecOn (motive := fun e => e.regs = d.regs) _ _ rfl fun e he c _ => (regs_sendWork p e c).trans he

theorem tile_sendWorks_other (d : Dev) (p : Nat) {q : Nat} (h : q ≠ p) : (d.sendWorks p).tile q = d.tile q :=
  List.foldlRecOn (motive := fun e => e.tile q = d.tile q) _ _ rfl fun e he c _ => (tile_sendWork_other p e c h).trans he

theorem exec_workMsgSend {s : State} {p : Nat} (hp : p < 272) :
    exec (.workMsgSend p) s = .next { s with dev := s.dev.sendWorks p } :=
  if_pos hp

theorem exec_workMsgSecondCopy {s : State} {p g : Nat} {m : WorkMsg} {r : List (Nat × WorkMsg)} (hp : p < 272)
    (h : (s.dev.tile p).second = (g, m) :: r) :
    exec (.workMsgSecondCopy p) s = .next { s with dev := s.dev.secondCopy p g m } := by
  show execWorkMsgSecondCopy p s = _
  simp only [execWorkMsgSecondCopy, hp, h, if_true]

/-! ## The reset of a tile (R153, R181, R200) -/

/-- What sending and abandoning before a tile's reset keep: its Loft, its descriptors, its Threshing keys, and the Granary. -/
structure KeepsStored (p : Nat) (d d' : Dev) : Prop where
  loft : (d'.tile p).loft = (d.tile p).loft
  desc : (d'.tile p).desc = (d.tile p).desc
  keys : (d'.tile p).keys = (d.tile p).keys
  grnMem : d'.grnMem = d.grnMem

theorem KeepsStored.refl (p : Nat) (d : Dev) : KeepsStored p d d := ⟨rfl, rfl, rfl, rfl⟩

theorem KeepsStored.trans {p : Nat} {a b c : Dev} (h : KeepsStored p a b) (k : KeepsStored p b c) : KeepsStored p a c :=
  ⟨k.loft.trans h.loft, k.desc.trans h.desc, k.keys.trans h.keys, k.grnMem.trans h.grnMem⟩

theorem KeepsStored.foldl {α : Type} {p : Nat} {f : Dev → α → Dev} (hf : ∀ d x, KeepsStored p d (f d x)) (l : List α) (d : Dev) :
    KeepsStored p d (l.foldl f d) :=
  List.foldlRecOn (motive := KeepsStored p d) l f (.refl p d) fun e he x _ => he.trans (hf e x)

theorem keepsStored_onTile {d : Dev} {p : Nat} {f : Tile → Tile} (hl : (f (d.tile p)).loft = (d.tile p).loft)
    (hd : (f (d.tile p)).desc = (d.tile p).desc) (hk : (f (d.tile p)).keys = (d.tile p).keys) :
    KeepsStored p d (d.onTile p f) :=
  ⟨by rw [tile_onTile_same, hl], by rw [tile_onTile_same, hd], by rw [tile_onTile_same, hk], rfl⟩

theorem keepsStored_sendWork (p : Nat) (d : Dev) (c : Nat) : KeepsStored p d (Dev.sendWork p d c) :=
  ⟨by rw [tile_sendWork]; rfl, by rw [tile_sendWork]; rfl, by rw [tile_sendWork]; rfl, rfl⟩

theorem keepsStored_sendWorks (d : Dev) (p : Nat) : KeepsStored p d (d.sendWorks p) := .foldl (keepsStored_sendWork p) _ d

theorem keepsStored_sendAt (p : Nat) (d : Dev) (g : Nat) (m : Out) : KeepsStored p d ((d.advanceTo g).send m) :=
  ⟨by simp, by simp, by simp, by simp⟩

theorem keepsStored_flushSecond (d : Dev) (p : Nat) : KeepsStored p d (d.flushSecond p) := by
  unfold Dev.flushSecond
  extract_lets ms d₁
  have hSent : KeepsStored p d d₁ := .foldl (fun e m => keepsStored_sendAt p e m.1 _) ms d
  split
  · exact hSent
  · exact hSent.trans (keepsStored_onTile rfl rfl rfl)

/-- A function that changes the waits of each stored tile alone does so to the tile read. -/
theorem sget_map_loftWait {g : Nat × Tile → Nat × Tile} (hg : ∀ e, ∃ ws, g e = (e.1, { e.2 with loftWait := ws }))
    (m : Sparse Tile) (k : Nat) : ∃ ws, sget Tile.reset (m.map g) k = { sget Tile.reset m k with loftWait := ws } := by
  induction m with
  | nil => exact ⟨_, rfl⟩
  | cons e r ih =>
    obtain ⟨ws, he⟩ := hg e
    rw [List.map_cons, he]
    by_cases hk : e.1 = k
    case pos => exact ⟨ws, by simp [sget, hk]⟩
    case neg => simpa [sget, hk] using ih

theorem tile_dropCross (d : Dev) (p q : Nat) : ∃ ws, (d.dropCross p).tile q = { d.tile q with loftWait := ws } :=
  sget_map_loftWait (fun _ => ⟨_, rfl⟩) d.tiles q

theorem keepsStored_dropCross (d : Dev) (p : Nat) : KeepsStored p d (d.dropCross p) := by
  obtain ⟨ws, h⟩ := tile_dropCross d p p
  exact ⟨by rw [h], by rw [h], by rw [h], rfl⟩

theorem keepsStored_abandonDma (d : Dev) (p : Nat) : KeepsStored p d (d.abandonDma p) := by
  unfold Dev.abandonDma
  extract_lets dma xs d₁ d₂
  have hRecords : KeepsStored p d d₁ := .foldl (f := fun d x => d.xferRecord p x 0x40) (fun _ _ => ⟨rfl, rfl, rfl, rfl⟩) xs d
  have hTile : KeepsStored p d d₂ := hRecords.trans (keepsStored_onTile rfl rfl rfl)
  split
  · exact hTile
  · exact hTile.trans (keepsStored_dropCross d₂ p)

/-- What a tile's reset does before the tile's own state changes. -/
theorem keepsStored_beforeReset (d : Dev) (p : Nat) : KeepsStored p d (((d.sendWorks p).flushSecond p).abandonDma p) :=
  ((keepsStored_sendWorks d p).trans (keepsStored_flushSecond _ p)).trans (keepsStored_abandonDma _ p)

/-- A register that a tile reset does not keep reads its reset value. -/
theorem rd_afterReset (t : Tile) {off : Nat} (h : keptReg off = false) : t.afterReset.rd off = Tile.reset.rd off := by
  rw [tile_rd_reset]
  exact regGet_unwritten (sget?_filter_key_out h)

/-- SEQ_STATUS is clear at reset: IDLE, no bank READY (R200). -/
theorem tile_reset_seqStatus : Tile.reset.rd tSEQ_STATUS = 0 := by
  rw [tile_rd_reset]
  decide +kernel

theorem fld_seqStatus_afterReset (t : Tile) (hi lo : Nat) : t.afterReset.fld tSEQ_STATUS hi lo = 0 := by
  rw [Tile.fld, rd_afterReset t (by decide), tile_reset_seqStatus]
  simp [bits]

theorem owner_afterReset (t : Tile) {b : Nat} (hb : b < 8) : t.afterReset.owner b = mXT := by
  rw [Tile.owner, Tile.fld, rd_afterReset t (by decide), ← Tile.fld, ← Tile.owner, tile_reset_owner hb]

theorem exec_tileReset {s : State} {p : Nat} (hp : p < 272) (hf : p ∉ s.dev.fuses.fusedOff) :
    exec (.tileReset p) s = .next { s with dev := s.dev.tileReset p } :=
  if_pos ⟨hp, hf⟩

/-! ## The statement -/

section

variable {s : State} {p : Nat} (hp : p < 272)

include hp

/-- A march started on banks that XT owns, with none in progress, runs. -/
theorem marchStart_ok (w : Nat) (hm : (s.dev.tile p).march = none) (ho : (s.dev.tile p).owns mXT (bits w 15 8) = true) :
    ∃ s', exec (.marchStart p w) s = .next s' ∧
      (s'.dev.tile p).march =
        some ⟨bits w 15 8, bit w 1, bit w 2, s.dev.clock.now + (if bit w 1 then 11440 else 42640)⟩ ∧
      (s'.dev.tile p).fld tMARCH_STATUS 0 0 = 1 ∧ (s'.dev.tile p).loft = (s.dev.tile p).loft ∧
      ∀ q, q ≠ p → s'.dev.tile q = s.dev.tile q := by
  have hRuns := marchStart_runs (d := s.dev.leaveIdle) (p := p) (w := w) (by rwa [tile_leaveIdle]) (by rwa [tile_leaveIdle])
  rw [tile_leaveIdle, clock_leaveIdle] at hRuns
  refine ⟨_, exec_marchStart hp, ?_⟩
  dsimp only
  rw [hRuns, tile_setTile_same]
  refine ⟨rfl, tile_fld_setFld_same _ _ _ _ _ (by decide) (by decide), rfl, fun q hq => ?_⟩
  rw [tile_setTile_other _ _ _ _ hq, tile_leaveIdle]

/-- Any other start sets MARCH_REFUSED. -/
theorem marchStart_bad (w : Nat)
    (h : (s.dev.tile p).march.isSome = true ∨ (s.dev.tile p).owns mXT (bits w 15 8) = false) :
    ∃ s', exec (.marchStart p w) s = .next s' ∧ bit ((s'.dev.tile p).rd tLOFT_STATUS) 6 = true ∧
      (s'.dev.tile p).march = (s.dev.tile p).march ∧ (s'.dev.tile p).loft = (s.dev.tile p).loft ∧
      ∀ q, q ≠ p → s'.dev.tile q = s.dev.tile q := by
  have hRefused := marchStart_refused (d := s.dev.leaveIdle) (p := p) (w := w) (by rwa [tile_leaveIdle])
  rw [tile_leaveIdle] at hRefused
  refine ⟨_, exec_marchStart hp, ?_⟩
  dsimp only
  rw [hRefused, tile_setTile_same]
  refine ⟨bit_rd_orBits _ _ (by decide) (by decide), march_orBits .., loft_orBits .., fun q hq => ?_⟩
  rw [tile_setTile_other _ _ _ _ hq, tile_leaveIdle]

theorem marchDone_ok (m : March) (rows : List Nat) (hm : (s.dev.tile p).march = some m) (hr : m.rowsOk rows = true) :
    ∃ s', exec (.marchDone p rows) s = .next s' ∧
      (s'.dev.tile p).march = none ∧ (s'.dev.tile p).fld tMARCH_STATUS 0 0 = 0 ∧
      (s'.dev.tile p).fld tMARCH_STATUS 15 8 = min 255 rows.length ∧ m.ends ≤ s'.dev.clock.now ∧
      (m.preserving = false → ∀ a, rdByte (s'.dev.tile p).loft a =
        if m.banks.testBit (bankOf a) then 0 else rdByte (s.dev.tile p).loft a) ∧
      ∀ q, q ≠ p → s'.dev.tile q = s.dev.tile q := by
  obtain ⟨hClock, hOthers, hMarch, hStatus⟩ := marchSteady_marchDone s.dev p m rows
  rw [marchEnded, tile_onTile_same] at hMarch hStatus
  refine ⟨_, exec_marchDone hp hm hr, hMarch.trans (march_marchShown ..), ?busy, ?faulty, ?time, rdByte_marchDone, ?others⟩
  case busy => rw [Tile.fld, hStatus, ← Tile.fld, busy_marchShown]
  case faulty => rw [Tile.fld, hStatus, ← Tile.fld, faulty_marchShown]
  case time =>
    dsimp only
    rw [hClock]
    exact le_now_advanceTo ..
  case others =>
    intro q hq
    exact (hOthers q hq).trans ((tile_onTile_other _ _ _ _ hq).trans (tile_advanceTo ..))

theorem tileEnable_ok (hf : p ∉ s.dev.fuses.fusedOff) (h : (s.dev.tile p).enabled = false) :
    ∃ s', exec (.tileEnable p) s = .next s' ∧ (s'.dev.tile p).enabled = true ∧
      (∀ b < 8, (s'.dev.tile p).owner b = (s.dev.tile p).fld tLOFT_OWN (4 * b + 3) (4 * b)) ∧
      (s'.dev.tile p).loft = (s.dev.tile p).loft ∧ (s'.dev.tile p).desc = (s.dev.tile p).desc ∧ s'.dev.regs = s.dev.regs ∧
      ∀ q, q ≠ p → s'.dev.tile q = s.dev.tile q := by
  refine ⟨_, exec_tileEnable hp hf, ?_⟩
  dsimp only
  rw [tileEnable_disabled h, tile_setTile_same]
  refine ⟨?enabled, fun b hb => ?owner, loft_ownersFromOwn .., desc_ownersFromOwn .., rfl,
    fun q hq => tile_setTile_other _ _ _ _ hq⟩
  case enabled => rw [Tile.enabled, tile_fld_setFld_same _ _ _ _ _ (by decide) (by decide)]; rfl
  case owner =>
    rw [Tile.owner, Tile.fld, tile_rd_setFld_other _ _ _ _ _ _ (by decide), ← Tile.fld, ← Tile.owner]
    exact owner_ownersFromOwn _ _ hb

theorem tileReset_ok (hf : p ∉ s.dev.fuses.fusedOff) :
    ∃ s', exec (.tileReset p) s = .next s' ∧ (s'.dev.tile p).loft = (s.dev.tile p).loft ∧
      (s'.dev.tile p).desc = (s.dev.tile p).desc ∧ (s'.dev.tile p).keys = (s.dev.tile p).keys ∧ (s'.dev.tile p).eng = [] ∧
      (s'.dev.tile p).unsent = [] ∧ (s'.dev.tile p).state = stIDLE ∧ (s'.dev.tile p).ready 0 = false ∧
      (s'.dev.tile p).ready 1 = false ∧ (∀ b < 8, (s'.dev.tile p).owner b = 7) ∧ s'.dev.grnMem = s.dev.grnMem := by
  obtain ⟨hLoft, hDesc, hKeys, hGrn⟩ := keepsStored_beforeReset s.dev p
  refine ⟨_, exec_tileReset hp hf, ?_⟩
  dsimp only [Dev.tileReset]
  rw [tile_onTile_same]
  refine ⟨hLoft, hDesc, hKeys, rfl, rfl, fld_seqStatus_afterReset .., ?_, ?_, fun b hb => owner_afterReset _ hb, hGrn⟩
  · rw [Tile.ready, fld_seqStatus_afterReset]; rfl
  · rw [Tile.ready, fld_seqStatus_afterReset]; rfl

theorem workMsgSend_ok :
    ∃ s', exec (.workMsgSend p) s = .next s' ∧ (s'.dev.tile p).unsent = [] ∧
      s'.dev.outbox.length = s.dev.outbox.length + (s.dev.tile p).unsent.length ∧
      (s'.dev.tile p).second.length = (s.dev.tile p).second.length + (s.dev.tile p).unsent.length ∧
      (s'.dev.tile p).loft = (s.dev.tile p).loft ∧ s'.dev.regs = s.dev.regs ∧ ∀ q, q ≠ p → s'.dev.tile q = s.dev.tile q :=
  ⟨_, exec_workMsgSend hp, unsent_sendWorks .., length_outbox_sendWorks .., length_second_sendWorks ..,
    (keepsStored_sendWorks ..).loft, regs_sendWorks .., fun _ hq => tile_sendWorks_other _ _ hq⟩

theorem workMsgSecondCopy_ok (g : Nat) (m : WorkMsg) (r : List (Nat × WorkMsg)) (h : (s.dev.tile p).second = (g, m) :: r) :
    ∃ s', exec (.workMsgSecondCopy p) s = .next s' ∧ (s'.dev.tile p).second = r ∧
      s'.dev.outbox = s.dev.outbox ++ [.work true m] ∧ (s'.dev.tile p).loft = (s.dev.tile p).loft ∧
      ∀ q, q ≠ p → s'.dev.tile q = s.dev.tile q := by
  refine ⟨_, exec_workMsgSecondCopy hp h, ?_⟩
  dsimp only [Dev.secondCopy]
  rw [tile_send, tile_onTile_same, tile_advanceTo]
  refine ⟨by rw [h]; rfl, congrArg (· ++ _) (outbox_advanceTo ..), rfl, fun q hq => ?_⟩
  rw [tile_send, tile_onTile_other _ _ _ _ hq, tile_advanceTo]

end

/-- Settles O14, clause by clause: marches, enable and reset, work messages. -/
theorem tileUpkeep : Obligations.TileUpkeep := by
  unfold Obligations.TileUpkeep
  intro s p hp
  exact ⟨marchStart_ok hp, marchStart_bad hp, marchDone_ok hp, fun hf => ⟨tileEnable_ok hp hf, tileReset_ok hp hf⟩,
    workMsgSend_ok hp, workMsgSecondCopy_ok hp⟩

end Sys2Proof.Laws
end

section
/-! SUPPORT. Atomics at a Loft bank: what the bytes of an integer sum and of a swapped word read, what a refusal leaves, and the statement
about atomics (R170 to R172). -/

namespace Sys2Proof.Laws

open Sys2Proof.Machine

/-! ## Bytes and their values -/

@[simp] theorem length_leBytes (n v : Nat) : (leBytes n v).length = n := by
  induction n generalizing v with
  | zero => rfl
  | succ n ih => rw [leBytes, List.length_cons, ih]

/-- The `n` little-endian bytes of a value hold it modulo 2^8n (R9). -/
theorem leNat_leBytes (n v : Nat) : leNat (leBytes n v) = v % 2 ^ (8 * n) := by
  induction n generalizing v with
  | zero => simp [leBytes, leNat, Nat.mod_one]
  | succ n ih =>
    rw [leBytes, leNat, ih, BitVec.toNat_ofNat, Nat.mul_add, Nat.pow_add, Nat.mul_comm (2 ^ (8 * n)), Nat.mod_mul]

/-- Bytes written are the bytes read. -/
theorem rdBytes_wrBytes_same (m : List Host.Cell) (a : Nat) (bs : List Byte) : rdBytes (wrBytes m a bs) a bs.length = bs := by
  refine List.ext_getElem (by simp [rdBytes]) fun i hi hi' => ?_
  simp only [rdBytes, List.getElem_map, List.getElem_range, rdByte_wrBytes_same _ _ _ _ hi']

/-- A value written in `n` bytes is read back modulo 2^8n. -/
theorem leNat_rdBytes_wrBytes (m : List Host.Cell) (a n v : Nat) :
    leNat (rdBytes (wrBytes m a (leBytes n v)) a n) = v % 2 ^ (8 * n) := by
  have h := rdBytes_wrBytes_same m a (leBytes n v)
  rw [length_leBytes] at h
  rw [h, leNat_leBytes]

/-- A write of `n` bytes leaves every byte outside them alone. -/
theorem sameOutside_wrBytes (m : List Host.Cell) (a n v : Nat) : Memory.sameOutside m (wrBytes m a (leBytes n v)) a n := by
  intro b hb
  rcases hb with hBelow | hBeyond
  · exact rdByte_wrBytes_below _ _ _ _ hBelow
  · exact rdByte_wrBytes_beyond _ _ _ _ (by rwa [length_leBytes])

/-! ## Loft writes -/

theorem loft_loftWrite (d : Dev) (p a : Nat) (bs : List Byte) :
    ((d.loftWrite p a bs).tile p).loft = wrBytes (d.tile p).loft a bs := by
  rw [Dev.loftWrite, tile_onTile_same]

theorem tile_loftWrite_other (d : Dev) (p a : Nat) (bs : List Byte) {q : Nat} (h : q ≠ p) :
    (d.loftWrite p a bs).tile q = d.tile q :=
  tile_onTile_other _ _ _ _ h

/-! ## The sums of ADD_I32 and ADD_I64 (R171, R172) -/

/-- The bytes of an integer sum; a wrap changes LOFT_STATUS besides. -/
theorem loft_atomAddInt (d : Dev) (p a n v : Nat) :
    ((d.atomAddInt p a n v).tile p).loft =
      wrBytes (d.tile p).loft a (leBytes n ((leNat (d.loftRead p a n) + v) % 2 ^ (8 * n))) := by
  unfold Dev.atomAddInt
  extract_lets w old sum d₁
  have hLoft : (d₁.tile p).loft = _ := loft_loftWrite ..
  split
  · rw [tile_onTile_same, loft_orBits, hLoft]
  · exact hLoft

theorem tile_atomAddInt_other (d : Dev) (p a n v : Nat) {q : Nat} (h : q ≠ p) : (d.atomAddInt p a n v).tile q = d.tile q := by
  unfold Dev.atomAddInt
  extract_lets w old sum d₁
  have hTile : d₁.tile q = d.tile q := tile_loftWrite_other _ _ _ _ h
  split
  · rw [tile_onTile_other _ _ _ _ h, hTile]
  · exact hTile

theorem grnMem_atomAddInt (d : Dev) (p a n v : Nat) : (d.atomAddInt p a n v).grnMem = d.grnMem := by
  unfold Dev.atomAddInt
  extract_lets w old sum d₁
  split <;> rfl

/-- The integer read at the target of a sum afterwards. -/
theorem leNat_loft_atomAddInt (d : Dev) (p a n v : Nat) :
    leNat (rdBytes ((d.atomAddInt p a n v).tile p).loft a n) = (leNat (rdBytes (d.tile p).loft a n) + v) % 2 ^ (8 * n) := by
  rw [loft_atomAddInt, leNat_rdBytes_wrBytes, Nat.mod_mod, Dev.loftRead]

/-! ## Refusals -/

theorem loft_foldl_wr {α : Type} (off v : α → Nat) (l : List α) (t : Tile) :
    (l.foldl (fun (t : Tile) x => t.wr (off x) (v x)) t).loft = t.loft :=
  List.foldlRecOn (motive := fun u : Tile => u.loft = t.loft) l _ rfl fun _ hu _ _ => hu

@[simp] theorem loft_bump (t : Tile) (off n : Nat) : (t.bump off n).loft = t.loft := by
  unfold Tile.bump
  split <;> rfl

@[simp] theorem loft_log (t : Tile) (stamp x mark status reason detail : Nat) :
    (t.log stamp x mark status reason detail).loft = t.loft := by
  unfold Tile.log
  extract_lets t₁ n bs t₂
  have hLoft : t₁.loft = t.loft := loft_orBits ..
  split
  · rw [loft_bump, hLoft]
  · exact (loft_foldl_wr (tLOG + 32 * n + 4 * ·) (fun w => leNat ((bs.drop (4 * w)).take 4)) _ t₁).trans hLoft

@[simp] theorem loft_stopAt (t : Tile) (pos status : Nat) : (t.stopAt pos status).loft = t.loft := by
  unfold Tile.stopAt
  split <;> rfl

/-- A refusal writes a tile's registers and no byte of its Loft (R194, R221 to R223). -/
theorem loft_refuse (d : Dev) (q : Issue) (b : Bad) : ((d.refuse q b).tile q.p).loft = (d.tile q.p).loft := by
  unfold Dev.refuse
  extract_lets st d₁
  have hTile : d₁.tile q.p = d.tile q.p := by unfold d₁; split <;> rfl
  rw [tile_onTile_same, ← hTile]
  simp only [apply_ite Tile.loft, loft_stopAt, loft_orBits, loft_log, ite_self]

theorem tile_refuse_other (d : Dev) (q : Issue) (b : Bad) {k : Nat} (h : k ≠ q.p) : (d.refuse q b).tile k = d.tile k := by
  unfold Dev.refuse
  extract_lets st d₁
  rw [tile_onTile_other _ _ _ _ h]
  unfold d₁
  split <;> rfl

/-! ## The statement -/

/-- The command of an atomic that its bank's owner sends, that R171 refuses, or that the Binder sends to a ring bank. -/
theorem exec_loftAtomic {s : State} {p m op a v : Nat} (hp : p < 272)
    (h : atomOk m op a = false ∨ (s.dev.tile p).owner (bankOf a) = m ∨ ((s.dev.tile p).isRing (bankOf a) && m == mBN) = true) :
    exec (.loftAtomic p m op a v) s = .next { s with dev := s.dev.loftAtomic p m op a v } := by
  have hc : (!atomOk m op a || (s.dev.tile p).owner (bankOf a) == m || ((s.dev.tile p).isRing (bankOf a) && m == mBN)) = true := by
    simpa only [Bool.or_eq_true, Bool.not_eq_true', beq_iff_eq, or_assoc] using h
  show execLoftAtomic p m op a v s = _
  simp only [execLoftAtomic, hp, hc, if_true]

section

variable {d : Dev} {p m op a v : Nat}

theorem loftAtomic_applied (hOk : atomOk m op a = true) (hRing : ((d.tile p).isRing (bankOf a) && m == mBN) = false) :
    d.loftAtomic p m op a v = d.atomApply p op a v := by
  simp only [Dev.loftAtomic, hOk, hRing, Bool.not_true, Bool.false_eq_true, if_false]

/-- An atomic that R171 refuses, or that the Binder sends to a ring bank, changes no byte and no other tile. -/
theorem loftAtomic_refused (h : atomOk m op a = false ∨ ((d.tile p).isRing (bankOf a) && m == mBN) = true) :
    ((d.loftAtomic p m op a v).tile p).loft = (d.tile p).loft ∧ ∀ q, q ≠ p → (d.loftAtomic p m op a v).tile q = d.tile q := by
  unfold Dev.loftAtomic
  extract_lets t x
  split
  · exact ⟨loft_refuse .., fun q hq => tile_refuse_other _ _ _ hq⟩
  · next hOk =>
    have hRing := h.resolve_left (by simpa using hOk)
    have hLogs : LogsOnly d (d.ringAccess p (bankOf a)) := logsOnly_binderLog ..
    rw [if_pos hRing]
    exact ⟨congrArg Tile.loft (hLogs.tile p), fun q _ => hLogs.tile q⟩

end

section

variable {s : State} {p m a v : Nat} (hp : p < 272)

include hp

/-- ADD_I32 and ADD_I64 add modulo 2^32 and 2^64. -/
theorem loftAtomic_add (op n : Nat) (hOp : (op = 0 ∧ n = 4) ∨ (op = 1 ∧ n = 8)) (hOk : atomOk m op a = true)
    (hOwner : (s.dev.tile p).owner (bankOf a) = m) (hRing : ((s.dev.tile p).isRing (bankOf a) && m == mBN) = false) :
    ∃ s', exec (.loftAtomic p m op a v) s = .next s' ∧
      leNat (rdBytes (s'.dev.tile p).loft a n) = (leNat (rdBytes (s.dev.tile p).loft a n) + v) % 2 ^ (8 * n) ∧
      Memory.sameOutside (s.dev.tile p).loft (s'.dev.tile p).loft a n ∧ (∀ q, q ≠ p → s'.dev.tile q = s.dev.tile q) ∧
      s'.dev.grnMem = s.dev.grnMem := by
  have hSum : s.dev.loftAtomic p m op a v = s.dev.atomAddInt p a n (v % 2 ^ (8 * n)) := by
    rw [loftAtomic_applied hOk hRing]
    rcases hOp with ⟨rfl, rfl⟩ | ⟨rfl, rfl⟩ <;> simp [Dev.atomApply]
  refine ⟨_, exec_loftAtomic hp (.inr (.inl hOwner)), ?_⟩
  dsimp only
  rw [hSum]
  refine ⟨?_, ?_, fun q hq => tile_atomAddInt_other _ _ _ _ _ hq, grnMem_atomAddInt ..⟩
  · rw [leNat_loft_atomAddInt, Nat.add_mod_mod]
  · rw [loft_atomAddInt]
    exact sameOutside_wrBytes _ _ _ _

/-- SWAP writes its word and sends the old one back. -/
theorem loftAtomic_swap (hOk : atomOk m 4 a = true) (hOwner : (s.dev.tile p).owner (bankOf a) = m)
    (hRing : ((s.dev.tile p).isRing (bankOf a) && m == mBN) = false) :
    ∃ s', exec (.loftAtomic p m 4 a v) s = .next s' ∧ leNat (rdBytes (s'.dev.tile p).loft a 16) = v % 2 ^ 128 ∧
      s'.dev.outbox = s.dev.outbox ++ [.swapped p a (leNat (rdBytes (s.dev.tile p).loft a 16))] ∧
      Memory.sameOutside (s.dev.tile p).loft (s'.dev.tile p).loft a 16 ∧ ∀ q, q ≠ p → s'.dev.tile q = s.dev.tile q := by
  have hSwap : s.dev.loftAtomic p m 4 a v =
      (s.dev.loftWrite p a (leBytes 16 (v % 2 ^ 128))).send (.swapped p a (leNat (s.dev.loftRead p a 16))) :=
    loftAtomic_applied hOk hRing
  refine ⟨_, exec_loftAtomic hp (.inr (.inl hOwner)), ?_⟩
  dsimp only
  rw [hSwap, tile_send, loft_loftWrite]
  refine ⟨?_, rfl, sameOutside_wrBytes _ _ _ _, fun q hq => tile_loftWrite_other _ _ _ _ hq⟩
  rw [leNat_rdBytes_wrBytes, Nat.mod_mod]

end

/-- Settles O13: the sums and the swap are writes of their target's bytes, and a refused atomic writes registers alone. -/
theorem loftAtomics : Obligations.LoftAtomics := by
  unfold Obligations.LoftAtomics
  intro s p m a v hp
  refine ⟨fun op n hOp hOk hOwner hRing => loftAtomic_add hp op n hOp hOk hOwner hRing, loftAtomic_swap hp, fun op h => ?_⟩
  exact ⟨_, exec_loftAtomic hp (h.imp_right .inr), loftAtomic_refused h⟩

end Sys2Proof.Laws
end

section
/-! SUPPORT. Which Lofts an operation on the device can change: a relation that each shared operation keeps, those of the Granary, of
atomics, of the network and of the Binder (R89, R171 to R174, R288, R289, R312, R321 to R326, R404). -/

namespace Sys2Proof.Laws

open Sys2Proof.Machine

theorem LogsOnly.xferRecs {d d' : Dev} (h : LogsOnly d d') : d'.xferRecs = d.xferRecs := by
  obtain ⟨r, i, x, m, rfl⟩ := h
  rfl

/-- From `d₀` to `d` no Loft has changed but those of tiles in `w`, and no completion record has come or gone. -/
structure LoftsKept (w : Nat → Prop) (d₀ d : Dev) : Prop where
  loft : ∀ q, ¬ w q → (d.tile q).loft = (d₀.tile q).loft
  recs : d.xferRecs = d₀.xferRecs

namespace LoftsKept

variable {w : Nat → Prop} {d₀ d : Dev} {p : Nat}

theorem refl (w : Nat → Prop) (d : Dev) : LoftsKept w d d := ⟨fun _ _ => rfl, rfl⟩

theorem trans {a b c : Dev} (h : LoftsKept w a b) (k : LoftsKept w b c) : LoftsKept w a c :=
  ⟨fun q hq => (k.loft q hq).trans (h.loft q hq), k.recs.trans h.recs⟩

/-- What touches neither tiles nor completion records. -/
theorem congr (h : LoftsKept w d₀ d) {d' : Dev} (ht : d'.tiles = d.tiles) (hr : d'.xferRecs = d.xferRecs) : LoftsKept w d₀ d' :=
  ⟨fun q hq => by rw [Dev.tile, ht]; exact h.loft q hq, hr.trans h.recs⟩

theorem logs (h : LoftsKept w d₀ d) {d' : Dev} (k : LogsOnly d d') : LoftsKept w d₀ d' := h.congr k.tiles k.xferRecs

theorem setTile (h : LoftsKept w d₀ d) (hp : w p) (t : Tile) : LoftsKept w d₀ (d.setTile p t) :=
  ⟨fun q hq => by rw [tile_setTile_other _ _ _ _ (by rintro rfl; exact hq hp)]; exact h.loft q hq, h.recs⟩

theorem onTile (h : LoftsKept w d₀ d) (hp : w p) (f : Tile → Tile) : LoftsKept w d₀ (d.onTile p f) := h.setTile hp _

/-- A change of a tile that leaves its Loft. -/
theorem onTile_sameLoft (h : LoftsKept w d₀ d) {f : Tile → Tile} (hf : (f (d.tile p)).loft = (d.tile p).loft) :
    LoftsKept w d₀ (d.onTile p f) := by
  refine ⟨fun q hq => ?_, h.recs⟩
  by_cases hqp : q = p
  case pos => rw [hqp, tile_onTile_same, hf, ← hqp]; exact h.loft q hq
  case neg => rw [tile_onTile_other _ _ _ _ hqp]; exact h.loft q hq

theorem ite {c : Prop} [Decidable c] {a b : Dev} (ha : LoftsKept w d₀ a) (hb : LoftsKept w d₀ b) :
    LoftsKept w d₀ (if c then a else b) := by
  split
  · exact ha
  · exact hb

theorem ite_fst {α : Type} {c : Prop} [Decidable c] {a b : Dev × α} (ha : LoftsKept w d₀ a.1) (hb : LoftsKept w d₀ b.1) :
    LoftsKept w d₀ (if c then a else b).1 := by
  split
  · exact ha
  · exact hb

theorem ite_effect {c : Prop} [Decidable c] {a b : Dev → Issue → Dev} {q : Issue} (ha : LoftsKept w d₀ (a d q))
    (hb : LoftsKept w d₀ (b d q)) : LoftsKept w d₀ ((if c then a else b) d q) := by
  split
  · exact ha
  · exact hb

/-- A fold over anything that carries a device keeps what each of its steps keeps. -/
theorem foldl_on {σ α : Type} (dev : σ → Dev) {s : σ} (h : LoftsKept w d₀ (dev s)) (f : σ → α → σ)
    (hf : ∀ s x, LoftsKept w d₀ (dev s) → LoftsKept w d₀ (dev (f s x))) (l : List α) : LoftsKept w d₀ (dev (l.foldl f s)) :=
  List.foldlRecOn (motive := fun s => LoftsKept w d₀ (dev s)) l f h fun s hs x _ => hf s x hs

theorem foldl {α : Type} (h : LoftsKept w d₀ d) (f : Dev → α → Dev)
    (hf : ∀ d x, LoftsKept w d₀ d → LoftsKept w d₀ (f d x)) (l : List α) : LoftsKept w d₀ (l.foldl f d) :=
  foldl_on id h f hf l

/-! ## Registers and memories -/

theorem wr (h : LoftsKept w d₀ d) (off v : Nat) : LoftsKept w d₀ (d.wr off v) := h.congr rfl rfl
theorem setFld (h : LoftsKept w d₀ d) (off hi lo v : Nat) : LoftsKept w d₀ (d.setFld off hi lo v) := h.congr rfl rfl
theorem orBits (h : LoftsKept w d₀ d) (off m : Nat) : LoftsKept w d₀ (d.orBits off m) := h.logs (logsOnly_orBits ..)
theorem bump (h : LoftsKept w d₀ d) (off n : Nat) : LoftsKept w d₀ (d.bump off n) := h.logs (logsOnly_bump ..)

theorem abandon (h : LoftsKept w d₀ d) (job : Nat) : LoftsKept w d₀ (d.abandon job) := h.congr rfl rfl

theorem grnWrite (h : LoftsKept w d₀ d) (a : Nat) (bs : List Byte) : LoftsKept w d₀ (d.grnWrite a bs) := h.congr rfl rfl

theorem capture (h : LoftsKept w d₀ d) (a n : Nat) : LoftsKept w d₀ (d.capture a n) := by
  unfold Dev.capture
  refine h.foldl _ (fun d e hd => hd.foldl _ (fun d c hd => ?_) _) _
  split
  · exact .ite (hd.congr rfl rfl) hd
  · exact hd

theorem jobWrite (h : LoftsKept w d₀ d) (a : Nat) (bs : List Byte) : LoftsKept w d₀ (d.jobWrite a bs) :=
  (h.capture a bs.length).grnWrite a bs

theorem loftWrite (h : LoftsKept w d₀ d) (hp : w p) (a : Nat) (bs : List Byte) : LoftsKept w d₀ (d.loftWrite p a bs) :=
  h.onTile hp _

theorem refuse (h : LoftsKept w d₀ d) {q : Issue} (hp : w q.p) (b : Bad) : LoftsKept w d₀ (d.refuse q b) := by
  unfold Dev.refuse
  exact (LoftsKept.ite (h.abandon _) h).onTile hp _

theorem setFlagsAt (h : LoftsKept w d₀ d) (hp : w p) (x mark : Nat) (fs : List Nat) : LoftsKept w d₀ (d.setFlagsAt p x mark fs) :=
  h.foldl _ (fun _ _ hd => hd.onTile hp _) fs

/-! ## Escapes and atomics (R89, R171 to R174) -/

theorem takeSlot (h : LoftsKept w d₀ d) (hp : w p) {v : Val} {r : Dev × Nat} (hr : d.takeSlot p v = some r) :
    LoftsKept w d₀ r.1 := by
  simp only [Dev.takeSlot] at hr
  split at hr
  · cases hr
  · cases hr
    dsimp only
    exact (h.jobWrite _ _).onTile hp _

theorem stookFor (h : LoftsKept w d₀ d) (hp : w p) (v : Val) : LoftsKept w d₀ (d.stookFor p v).1 := by
  unfold Dev.stookFor
  split
  · exact h
  · split
    · next hr => exact h.takeSlot hp hr
    · dsimp only
      exact h.onTile hp _

theorem atomAddInt (h : LoftsKept w d₀ d) (hp : w p) (a n v : Nat) : LoftsKept w d₀ (d.atomAddInt p a n v) := by
  unfold Dev.atomAddInt
  extract_lets x old sum d₁
  have h₁ : LoftsKept w d₀ d₁ := h.loftWrite hp _ _
  exact .ite (h₁.onTile hp _) h₁

theorem atomAddStook (h : LoftsKept w d₀ d) (hp : w p) (a : Nat) (v : Val) : LoftsKept w d₀ (d.atomAddStook p a v) := by
  unfold Dev.atomAddStook
  extract_lets t x old r d₁
  have h₁ : LoftsKept w d₀ d₁ := h.onTile hp _
  split
  · exact h₁.jobWrite _ _
  · split
    · exact h₁.loftWrite hp _ _
    · split
      · next hr => exact (h₁.takeSlot hp hr).loftWrite hp _ _
      · exact (h₁.onTile hp _).loftWrite hp _ _

theorem atomAddBushel (h : LoftsKept w d₀ d) (hp : w p) (a : Nat) (v : Val) : LoftsKept w d₀ (d.atomAddBushel p a v) :=
  (h.onTile hp _).loftWrite hp _ _

/-! ## The network (R288, R289) -/

theorem useCredit (h : LoftsKept w d₀ d) (port : Option Nat) (cls flits : Nat) : LoftsKept w d₀ (d.useCredit port cls flits) := by
  cases port
  · exact h
  · exact h.congr rfl rfl

theorem wainPut (h : LoftsKept w d₀ d) (job rank cls : Nat) (m : Msg) : LoftsKept w d₀ (d.wainPut job rank cls m) := by
  unfold Dev.wainPut
  extract_lets c d₁ d₂
  have h₂ : LoftsKept w d₀ d₂ := (h.useCredit _ _ _).congr rfl rfl
  exact (LoftsKept.ite (h₂.orBits _ _) h₂).congr rfl rfl

theorem message (h : LoftsKept w d₀ d) (job rank cls tile : Nat) (m : Msg) : LoftsKept w d₀ (d.message job rank cls tile m) := by
  unfold Dev.message
  exact .ite (h.congr rfl rfl) (.ite ((h.orBits _ _).logs (logsOnly_binderLog ..)) (.ite h (h.wainPut ..)))

theorem innerMsg (h : LoftsKept w d₀ d) (job : Nat) (m : Msg) : LoftsKept w d₀ (d.innerMsg job m) := h.congr rfl rfl

theorem windowRefused (h : LoftsKept w d₀ d) (job rank cls : Nat) : LoftsKept w d₀ (d.windowRefused job rank cls) :=
  (h.logs (logsOnly_binderLog ..)).message ..

/-! ## Buckets (R312, R321 to R326) -/

theorem putBucket (h : LoftsKept w d₀ d) (x : Bucket) : LoftsKept w d₀ (d.putBucket x) :=
  .ite (h.congr rfl rfl) (h.congr rfl rfl)

theorem ledgerAdd (h : LoftsKept w d₀ d) (e : Ledger) : LoftsKept w d₀ (d.ledgerAdd e) := by
  unfold Dev.ledgerAdd
  extract_lets n e' d₁
  have h₁ : LoftsKept w d₀ d₁ := h.jobWrite _ _
  clear_value d₁
  exact .ite (h.orBits _ _) (h₁.congr rfl rfl)

theorem keepCarry (h : LoftsKept w d₀ d) (c : Carry) : LoftsKept w d₀ (d.keepCarry c) := by
  unfold Dev.keepCarry
  exact .ite (h.congr rfl rfl) (((h.ledgerAdd _).orBits _ _).logs (logsOnly_binderLog ..))

theorem setAside (h : LoftsKept w d₀ d) (x : Bucket) : LoftsKept w d₀ (d.setAside x) := by
  unfold Dev.setAside
  exact .ite (h.keepCarry _) h

theorem bucketReady (h : LoftsKept w d₀ d) (x : Bucket) : LoftsKept w d₀ (d.bucketReady x) := by
  unfold Dev.bucketReady
  extract_lets job r d₁ x' y d₂
  have h₁ : LoftsKept w d₀ d₁ := by
    unfold d₁ r
    split
    · exact h.congr rfl rfl
    · exact h
  have h₂ : LoftsKept w d₀ d₂ := h₁.putBucket _
  exact .ite h₂ (.ite (h₂.setAside _) (h₂.message ..))

theorem collStart (h : LoftsKept w d₀ d) (hp : w p) (f : Xfer) : LoftsKept w d₀ (d.collStart p f) := by
  unfold Dev.collStart
  exact .ite ((h.onTile hp _).bucketReady _) ((h.onTile hp _).putBucket _)

/-- A transfer that starts sends messages or joins its bucket (R246, R272, R312). -/
theorem startIfReady (h : LoftsKept w d₀ d) (hp : w p) (f : Xfer) : LoftsKept w d₀ (d.startIfReady p f) := by
  unfold Dev.startIfReady Dev.xferStart
  refine .ite ?_ h
  split
  · exact .ite (h.innerMsg _ _) (h.message ..)
  · exact .ite (h.message ..) h
  · exact h.collStart hp f
  · exact h

end LoftsKept

end Sys2Proof.Laws
end

section
/-! SUPPORT. What reading the source of a transfer keeps: every Loft, the completion records, and the map of logical tiles, for every error
that the reading reports (R23, R91, R260, R273, R371, R389 to R394). -/

namespace Sys2Proof.Laws

open Sys2Proof.Machine

/-! ## The map of logical tiles (R23) -/

/-- A register that is no entry of the repair map. -/
abbrev OffMap (off : Nat) : Prop := off < dREPAIR_MAP ∨ dREPAIR_MAP + 0x400 ≤ off

/-- A controller's registers lie beyond the map. -/
theorem offMap_grnOff {off k : Nat} (h : dREPAIR_MAP + 0x400 ≤ off) : OffMap (grnOff off k) := by
  unfold grnOff
  omega

/-- From `d₀` to `d` no Loft has changed, no completion record has come or gone, and no entry of the repair map has changed. -/
structure ReadKept (d₀ d : Dev) : Prop extends LoftsKept (fun _ => False) d₀ d where
  rd : ∀ off, ¬ OffMap off → d.rd off = d₀.rd off

namespace ReadKept

variable {d₀ d : Dev}

theorem lofts (h : ReadKept d₀ d) (w : Nat → Prop) : LoftsKept w d₀ d := ⟨fun q _ => h.loft q id, h.recs⟩

/-- A logical tile stays where it is mapped. -/
theorem physOf (h : ReadKept d₀ d) (l : Nat) : d.physOf l = d₀.physOf l := by
  unfold Dev.physOf Dev.fld
  by_cases hl : l < 256
  case pos => rw [h.rd (dREPAIR_MAP + 4 * l) (by omega)]
  case neg => simp only [hl, false_and, if_false]

theorem refl (d : Dev) : ReadKept d d := ⟨.refl _ d, fun _ _ => rfl⟩

/-- What touches neither tiles, completion records nor registers. -/
theorem congr (h : ReadKept d₀ d) {d' : Dev} (ht : d'.tiles = d.tiles) (hr : d'.xferRecs = d.xferRecs) (hg : d'.regs = d.regs) :
    ReadKept d₀ d' :=
  ⟨h.toLoftsKept.congr ht hr, fun off ho => by rw [Dev.rd, hg]; exact h.rd off ho⟩

theorem wr (h : ReadKept d₀ d) {off : Nat} (ho : OffMap off) (v : Nat) : ReadKept d₀ (d.wr off v) :=
  ⟨h.toLoftsKept.wr off v, fun off' ho' => by rw [dev_rd_wr_other _ _ _ _ (by rintro rfl; exact ho' ho)]; exact h.rd off' ho'⟩

theorem onTile_sameLoft (h : ReadKept d₀ d) {p : Nat} {f : Tile → Tile} (hf : (f (d.tile p)).loft = (d.tile p).loft) :
    ReadKept d₀ (d.onTile p f) :=
  ⟨h.toLoftsKept.onTile_sameLoft hf, h.rd⟩

theorem ite {c : Prop} [Decidable c] {a b : Dev} (ha : ReadKept d₀ a) (hb : ReadKept d₀ b) : ReadKept d₀ (if c then a else b) := by
  split
  · exact ha
  · exact hb

/-- A fold over anything that carries a device keeps what each of its steps keeps. -/
theorem foldl_on {σ α : Type} (dev : σ → Dev) {s : σ} (h : ReadKept d₀ (dev s)) (f : σ → α → σ) (l : List α)
    (hf : ∀ s, ∀ x ∈ l, ReadKept d₀ (dev s) → ReadKept d₀ (dev (f s x))) : ReadKept d₀ (dev (l.foldl f s)) :=
  List.foldlRecOn (motive := fun s => ReadKept d₀ (dev s)) l f h fun s hs x hx => hf s x hx hs

theorem setFld (h : ReadKept d₀ d) {off : Nat} (ho : OffMap off) (hi lo v : Nat) : ReadKept d₀ (d.setFld off hi lo v) := h.wr ho _

theorem orBits (h : ReadKept d₀ d) {off : Nat} (ho : OffMap off) (m : Nat) : ReadKept d₀ (d.orBits off m) := .ite h (h.wr ho _)

theorem bump (h : ReadKept d₀ d) {off : Nat} (ho : OffMap off) (n : Nat) : ReadKept d₀ (d.bump off n) := .ite h (h.wr ho _)

theorem abandon (h : ReadKept d₀ d) (job : Nat) : ReadKept d₀ (d.abandon job) := h.congr rfl rfl rfl

/-! ## Error records (R389 to R394) -/

theorem errRing (h : ReadKept d₀ d) (seq : Nat) (bs : List Byte) : ReadKept d₀ (d.errRing seq bs) :=
  foldl_on id h _ _ fun _ x _ hd => hd.wr (.inr (by simp only [dREPAIR_MAP, dERR_REC]; omega)) _

theorem daybookAppend (h : ReadKept d₀ d) (bs : List Byte) : ReadKept d₀ (d.daybookAppend bs) := by
  unfold Dev.daybookAppend
  extract_lets n i d₁
  have h₁ : ReadKept d₀ d₁ := h.congr rfl rfl rfl
  exact h₁.setFld (by decide) ..

theorem firstFailure (h : ReadKept d₀ d) (type : Nat) (bs : List Byte) (n : Nat) : ReadKept d₀ (d.firstFailure type bs n) := by
  unfold Dev.firstFailure
  extract_lets e olds db i d₁
  have h₁ : ReadKept d₀ d₁ := h.congr rfl rfl rfl
  exact .ite (h.congr rfl rfl rfl) (.ite (h₁.setFld (by decide) ..) h)

theorem eventQueue (h : ReadKept d₀ d) (type : Nat) (bs : List Byte) : ReadKept d₀ (d.eventQueue type bs) := by
  unfold Dev.eventQueue
  extract_lets n head tail base t d₁ d₂
  have h₂ : ReadKept d₀ d₂ := h.congr rfl rfl rfl
  exact .ite (.ite (h.bump (by decide) _) ((h₂.setFld (by decide) ..).congr rfl rfl rfl)) h

theorem errWrite (h : ReadKept d₀ d) (merged : Nat) (r : ErrIn) : ReadKept d₀ (d.errWrite merged r) := by
  unfold Dev.errWrite
  extract_lets seq s bs d₁ d₂ n d₃ d₄ d₅
  have h₂ : ReadKept d₀ d₂ := (h.errRing seq bs).bump (by decide) _
  have h₃ : ReadKept d₀ d₃ := h₂.daybookAppend bs
  exact ((h₃.firstFailure ..).orBits (by decide) _).eventQueue ..

theorem errRecord (h : ReadKept d₀ d) (r : ErrIn) : ReadKept d₀ (d.errRecord r) := by
  have hMerged : ∀ d c, ReadKept d₀ d → ReadKept d₀ { d with integ := { d.integ with ceLast := c } } := fun _ _ hd => hd.congr rfl rfl rfl
  unfold Dev.errRecord
  extract_lets d₁
  have h₁ : ReadKept d₀ d₁ := h.orBits (by decide) _
  clear_value d₁
  split
  · split
    · split
      · exact hMerged _ _ h₁
      · exact (hMerged _ _ h₁).errWrite ..
    · exact (hMerged _ _ h₁).errWrite ..
  · exact h.errWrite ..

theorem codeReport (h : ReadKept d₀ d) (o : SheafOutcome) (flips : Nat) (r : ErrIn) : ReadKept d₀ (d.codeReport o flips r) := by
  unfold Dev.codeReport
  extract_lets y
  split
  · exact h
  · exact h.errRecord _
  · exact h.errRecord _

/-! ## Words read with flipped bits, and pages that fail their tag (R260, R265, R273, R371) -/

/-- Words read with flipped bits are reported and counted, in whichever tile they lie. -/
theorem loftReport (h : ReadKept d₀ d) (p op x : Nat) : ReadKept d₀ (d.loftReport p op x) := by
  unfold Dev.loftReport
  extract_lets t f o d₁
  have h₁ : ReadKept d₀ d₁ := h.codeReport ..
  clear_value d₁ o
  split
  · exact h₁
  · exact h₁.onTile_sameLoft rfl
  · exact (h₁.onTile_sameLoft rfl).abandon _

theorem orderStack (h : ReadKept d₀ d) (k : Nat) : ReadKept d₀ (d.orderStack k).1 := by
  unfold Dev.orderStack
  split
  · exact h
  · split
    · exact h.congr rfl rfl rfl
    · exact ((h.orBits (offMap_grnOff (by decide)) _).errRecord _).congr rfl rfl rfl

theorem orderPage (h : ReadKept d₀ d) (k g : Nat) : ReadKept d₀ (d.orderPage k g).1 := by
  unfold Dev.orderPage
  extract_lets x n d₁
  have h₁ : ReadKept d₀ d₁ := (h.orBits (offMap_grnOff (by decide)) _).errRecord _
  clear_value d₁
  split
  · exact h
  · split
    · exact h
    · split
      · exact h₁.orderStack k
      · exact h.congr rfl rfl rfl

theorem grnReport (h : ReadKept d₀ d) (a op p : Nat) : ReadKept d₀ (d.grnReport a op p).1 := by
  unfold Dev.grnReport
  extract_lets x f o m t r g d₁ d₂ k n d₃ d₄ d₅
  have h₁ : ReadKept d₀ d₁ := (h.codeReport ..).orBits (offMap_grnOff (by decide)) _
  have h₃ : ReadKept d₀ d₃ := (h₁.bump (offMap_grnOff (by decide)) _).congr rfl rfl rfl
  have h₅ : ReadKept d₀ d₅ :=
    ((h.codeReport ..).orBits (offMap_grnOff (by decide)) _).bump (offMap_grnOff (by decide)) _
  clear_value d₁ d₃ d₅ o
  split
  · exact h
  · exact .ite (h₃.orderPage ..) h₃
  · exact h₅.orderPage ..

theorem tcLog (h : ReadKept d₀ d) (event status tenant job detail : Nat) : ReadKept d₀ (d.tcLog event status tenant job detail) := by
  unfold Dev.tcLog
  extract_lets hd bs d₁ d₂ tr d₃
  have hHead : hd < 2 ^ 8 := Nat.mod_lt _ (by decide)
  have h₁ : ReadKept d₀ d₁ := by
    refine foldl_on id h _ _ fun _ x hx hd => hd.wr (.inl ?_) _
    have hWord := List.mem_range.1 hx
    simp only [dREPAIR_MAP, dTC_LOG]
    omega
  clear_value d₁
  have h₃ : ReadKept d₀ d₃ := (h₁.setFld (off := dTC_LOG_HEAD) (by decide) ..).congr rfl rfl rfl
  clear_value d₃
  exact .ite (h₃.errRecord _) h₃

theorem hostTagFail (h : ReadKept d₀ d) (x i : Nat) : ReadKept d₀ (d.hostTagFail x i) := by
  unfold Dev.hostTagFail
  exact ((h.orBits (by decide) _).bump (by decide) _).tcLog ..

theorem hwRead (h : ReadKept d₀ d) (x a n : Nat) : ReadKept d₀ (d.hwRead x a n).1 := by
  unfold Dev.hwRead
  refine foldl_on (fun r : Dev × List Byte × Nat => r.1) h _ _ fun r x _ hr => ?_
  split
  · exact hr
  · split
    · exact hr
    · exact hr.hostTagFail ..

/-! ## The source of a DMA transfer (R91, R548) -/

theorem haulLoft (h : ReadKept d₀ d) (g : Nat) (q : Desc) (values : Bool) : ReadKept d₀ (d.haulLoft g q values).1 :=
  foldl_on id h _ _ fun _ _ _ hd => hd.loftReport ..

theorem haulGrn (h : ReadKept d₀ d) (p : Nat) (q : Desc) : ReadKept d₀ (d.haulGrn p q).1 := by
  have hReports : ReadKept d₀ _ :=
    foldl_on id h (fun d x => (d.grnReport (16 * x) 0xE6 p).1) (flippedWords d.grnErr q) fun _ _ _ hd => hd.grnReport ..
  exact .ite hReports (hReports.abandon _)

theorem haulHost (h : ReadKept d₀ d) (p : Nat) (q : Desc) : ReadKept d₀ (d.haulHost p q).1 := by
  unfold Dev.haulHost
  extract_lets s
  split
  · exact h
  · exact h.hwRead ..

end ReadKept

/-- A transfer that reads its source keeps what reading keeps, but that a source refused for want of a window leaves messages and logs. -/
theorem dmaRead_cases (d : Dev) (p : Nat) (f : Xfer) (status : Nat) (data : List Nat) :
    ReadKept d (d.dmaRead p f status data).1 ∨
      (d.dmaRead p f status data).2.status = 0x10 ∧ ∀ w, LoftsKept w d (d.dmaRead p f status data).1 := by
  have h : ReadKept d d := .refl d
  generalize hr : d.dmaRead p f status data = r
  unfold Dev.dmaRead at hr
  extract_lets t a b at hr
  split at hr
  · left
    split at hr
    · subst hr
      exact h.haulLoft ..
    · subst hr
      exact h
  · split at hr
    · subst hr
      exact .inl (h.haulGrn ..)
    · split at hr
      · split at hr
        · split at hr
          · subst hr
            exact .inl (h.haulGrn ..)
          · subst hr
            exact .inr ⟨rfl, fun _ => (LoftsKept.refl _ d).windowRefused ..⟩
        · subst hr
          exact .inl h
      · subst hr
        exact .inl (h.haulHost ..)

end Sys2Proof.Laws
end

section
/-! SUPPORT. The work of every engine command writes no Loft but its own tile's (R92, R97, R102 to R111, R124 to R134, R137 to R151, R164,
R210 to R216). -/

namespace Sys2Proof.Laws

open Sys2Proof.Machine

namespace LoftsKept

variable {w : Nat → Prop} {d₀ d : Dev} {p : Nat}

/-! ## Engines taking up commands (R164, R370, R371) -/

theorem loftReport (h : LoftsKept w d₀ d) (p op x : Nat) : LoftsKept w d₀ (d.loftReport p op x) :=
  h.trans (((ReadKept.refl d).loftReport ..).lofts w)

theorem loftReports (h : LoftsKept w d₀ d) (us : List Use) (q : Issue) : LoftsKept w d₀ (d.loftReports us q) := by
  unfold Dev.loftReports
  exact .ite h (h.foldl _ (fun _ _ hd => hd.loftReport ..) _)

theorem engineStart (h : LoftsKept w d₀ d) {q : Issue} (hp : w q.p) (g : Eng) (us : List Use) {body : Dev → Issue → Dev}
    (hb : ∀ d q, w q.p → LoftsKept w d₀ d → LoftsKept w d₀ (body d q)) : LoftsKept w d₀ (d.engineStart g us body q) := by
  unfold Dev.engineStart
  extract_lets t
  split
  · exact h.setTile hp _
  · exact hb _ ⟨q.p, _, _, _⟩ hp ((h.setTile hp _).loftReports _ _)

/-! ## Array commands (R92, R144) -/

theorem putPk (h : LoftsKept w d₀ d) (hp : w p) (k : Pk) : LoftsKept w d₀ (d.putPk p k) :=
  (h.foldl _ (fun _ _ hd => hd.jobWrite _ _) _).onTile hp _

theorem freeLoft (h : LoftsKept w d₀ d) (hp : w p) (a : Nat) : LoftsKept w d₀ (d.freeLoft p a) := by
  unfold Dev.freeLoft
  extract_lets n d₁
  have h₁ : LoftsKept w d₀ d₁ := h.congr rfl rfl
  exact h₁.onTile hp _

theorem raceCheck (h : LoftsKept w d₀ d) (hp : w p) (hs : List Promo) : LoftsKept w d₀ (d.raceCheck p hs) := by
  unfold Dev.raceCheck
  split
  · exact h
  · exact (h.onTile hp _).foldl _ (fun _ a hd => hd.freeLoft hp a) _

variable {q : Issue}

theorem mmaBody (h : LoftsKept w d₀ d) (hp : w q.p) : LoftsKept w d₀ (Machine.mmaBody d q) :=
  ((h.setTile hp _).putPk hp _).raceCheck hp _

theorem pocketLoadBody (h : LoftsKept w d₀ d) (hp : w q.p) : LoftsKept w d₀ (Machine.pocketLoadBody d q) :=
  ((h.setTile hp _).putPk hp _).raceCheck hp _

/-! ## Output-stage commands (R97, R102 to R111, R124 to R134) -/

theorem putElem (h : LoftsKept w d₀ d) (hp : w p) (o : Desc) (r c v : Nat) : LoftsKept w d₀ (d.putElem p o r c v) := by
  unfold Dev.putElem
  exact h.onTile hp _

theorem putScale (h : LoftsKept w d₀ d) (hp : w p) (o : Desc) (r c : Nat) (s : Int) : LoftsKept w d₀ (d.putScale p o r c s) :=
  h.onTile hp _

section

variable {s : OutRun}

theorem feed (h : LoftsKept w d₀ s.d) (hp : w p) (en : Bool) (a tid i u : Nat) (v : Val) :
    LoftsKept w d₀ (s.feed p en a tid i u v).d := by
  unfold OutRun.feed
  split
  · dsimp only
    exact h.onTile hp _
  · exact h

theorem exactElem (h : LoftsKept w d₀ s.d) (hp : w p) (o : Desc) (atom r c : Nat) (v : Val) :
    LoftsKept w d₀ (s.exactElem p o atom r c v).d := by
  unfold OutRun.exactElem
  extract_lets b s₁ a
  have h₁ : LoftsKept w d₀ s₁.d := h
  clear_value s₁
  split
  · exact h₁.atomAddStook hp _ _
  · split
    · exact h₁.atomAddBushel hp _ _
    · split
      · exact h₁.loftWrite hp _ _
      · split
        · exact h₁.loftWrite hp _ _
        · split
          · next hr => exact (h₁.takeSlot hp hr).loftWrite hp _ _
          · exact h₁

theorem storeElem (h : LoftsKept w d₀ s.d) (hp : w q.p) (r n : Nat) (v : Val) : LoftsKept w d₀ (s.storeElem q r n v).d := by
  unfold OutRun.storeElem
  extract_lets e t o wv sp i s₁ b s₂ rm sc cv d₁ d₂ s₃
  have h₁ : LoftsKept w d₀ s₁.d := h
  clear_value s₁
  split
  · have h₂ : LoftsKept w d₀ s₂.d := h₁.exactElem hp ..
    split
    · exact h₂
    · exact h₂.feed hp ..
  · have hd₁ : LoftsKept w d₀ d₁ := .ite (h₁.atomAddInt hp ..) (h₁.putElem hp ..)
    have hd₂ : LoftsKept w d₀ d₂ := .ite (hd₁.onTile hp _) hd₁
    exact feed (s := s₃) hd₂ hp ..

theorem read (h : LoftsKept w d₀ s.d) (p : Nat) (clr : Bool) (j y : Nat) : LoftsKept w d₀ (s.read p clr j y).1.d := h

theorem outSweep {elem : OutRun → Nat → Nat → Nat → Val → OutRun} (h : LoftsKept w d₀ s.d) (n : Nat) (clr : Bool)
    (he : ∀ s r c y v, LoftsKept w d₀ s.d → LoftsKept w d₀ (elem s r c y v).d) :
    LoftsKept w d₀ (Machine.outSweep q n clr elem s).d := by
  unfold Machine.outSweep
  refine foldl_on OutRun.d h _ (fun s rc hs => ?_) _
  split
  · exact hs
  · exact he _ _ _ _ _ (hs.read ..)

theorem finish (h : LoftsKept w d₀ s.d) (hp : w q.p) (cmd : EngCmd) : LoftsKept w d₀ (s.finish q cmd) := by
  unfold OutRun.finish
  exact .ite (((h.putPk hp _).onTile hp _).refuse hp _) ((h.putPk hp _).onTile hp _)

theorem closeBlock (h : LoftsKept w d₀ s.d) (hp : w q.p) (o : Desc) (nc r b : Nat) :
    LoftsKept w d₀ (Machine.closeBlock q o nc s r b).d := by
  unfold Machine.closeBlock
  extract_lets e t sc cols pad zero d₁ rewrite d₂ code
  have h₁ : LoftsKept w d₀ d₁ := h.foldl _ (fun _ _ hd => hd.putElem hp ..) _
  have h₂ : LoftsKept w d₀ d₂ := .ite ((h₁.putScale hp ..).onTile hp _) h₁
  exact .ite (h₂.onTile hp _) h₂

theorem scoreElem (h : LoftsKept w d₀ s.d) (hp : w q.p) (r n : Nat) (v : Val) : LoftsKept w d₀ (s.scoreElem q r n v).d := by
  unfold OutRun.scoreElem
  extract_lets e t x s₁ mx at_ m s₂ o sp
  have h₁ : LoftsKept w d₀ s₁.d := h
  have h₂ : LoftsKept w d₀ s₂.d := by
    unfold s₂
    split
    · exact h₁
    · exact h₁.putElem hp ..
  split
  · exact h₂.putElem hp ..
  · exact h₂

theorem scoreOpen (h : LoftsKept w d₀ s.d) (hp : w q.p) : LoftsKept w d₀ (s.scoreOpen q).d :=
  foldl_on OutRun.d h _ (fun _ _ hs => hs.putElem hp ..) _

end

theorem storeBody (h : LoftsKept w d₀ d) (hp : w q.p) : LoftsKept w d₀ (Machine.storeBody d q) := by
  unfold Machine.storeBody
  extract_lets t e g o n s₁ sh s₂ nb s₃
  have h₁ : LoftsKept w d₀ s₁.d := outSweep (s := OutRun.start d q) h _ _ fun _ _ _ _ _ hs => hs.storeElem hp ..
  have h₂ : LoftsKept w d₀ s₂.d := by
    unfold s₂
    split
    · exact foldl_on OutRun.d h₁ _ (fun _ _ hs => foldl_on OutRun.d hs _ (fun _ _ hs => hs.closeBlock hp ..) _) _
    · exact h₁
  have h₃ : LoftsKept w d₀ s₃.d := by
    unfold s₃
    dsimp only
    exact h₂.onTile hp _
  exact h₃.finish hp _

theorem scoutWrite (h : LoftsKept w d₀ d) (hp : w q.p) (o : Desc) (vals : List ((Nat × Nat) × Val)) (nc r b : Nat) :
    LoftsKept w d₀ (Machine.scoutWrite q o vals nc d r b) := by
  unfold Machine.scoutWrite
  exact (h.putScale hp ..).onTile hp _

theorem scoutBody (h : LoftsKept w d₀ d) (hp : w q.p) : LoftsKept w d₀ (Machine.scoutBody d q) := by
  unfold Machine.scoutBody
  extract_lets t e g o n s₁ k₀ vals sh d₁ nb s₂
  have h₁ : LoftsKept w d₀ s₁.d := outSweep (s := OutRun.start d q) h _ _ fun _ _ _ _ _ hs => hs
  have hd₁ : LoftsKept w d₀ d₁ := h₁.foldl _ (fun _ _ hd => hd.foldl _ (fun _ _ hd => hd.scoutWrite hp ..) _) _
  have h₂ : LoftsKept w d₀ s₂.d := by
    unfold s₂
    dsimp only
    exact hd₁.onTile hp _
  exact h₂.finish hp _

theorem scoreBody (h : LoftsKept w d₀ d) (hp : w q.p) : LoftsKept w d₀ (Machine.scoreBody d q) := by
  unfold Machine.scoreBody
  extract_lets t e g o s₁ nb s₂
  have h₁ : LoftsKept w d₀ s₁.d :=
    outSweep (scoreOpen (s := OutRun.start d q) h hp) _ _ fun _ _ _ _ _ hs => hs.scoreElem hp ..
  have h₂ : LoftsKept w d₀ s₂.d := by
    unfold s₂
    dsimp only
    exact h₁.onTile hp _
  exact h₂.finish hp _

/-! ## Vector commands (R147 to R151, R214 to R216) -/

theorem vecDone (h : LoftsKept w d₀ d) (hp : w q.p) (us : List Use) (flags : List Nat) (n occ done cls work : Nat) :
    LoftsKept w d₀ (d.vecDone q us flags n occ done cls work) := h.onTile hp _

section

variable {s : VRun}

theorem write (h : LoftsKept w d₀ s.d) (hp : w q.p) (o : VOpd) (k y c : Nat) : LoftsKept w d₀ (s.write q o k y c).d := by
  unfold VRun.write
  extract_lets t ds rc c' sc d₁ d₂
  have h₁ : LoftsKept w d₀ d₁ := .ite (h.atomAddInt hp ..) (h.putElem hp ..)
  have h₂ : LoftsKept w d₀ d₂ := .ite (h₁.onTile hp _) h₁
  split
  · dsimp only
    exact h.onTile hp _
  · exact h₂

theorem vecSweep {elem : VRun → Nat → Nat → VRun} (h : LoftsKept w d₀ s.d) (hp : w q.p) (len e iv : Nat)
    (he : ∀ s k y, LoftsKept w d₀ s.d → LoftsKept w d₀ (elem s k y).d) :
    LoftsKept w d₀ (Machine.vecSweep q len e iv elem s).d := by
  unfold Machine.vecSweep
  refine foldl_on VRun.d h _ (fun s r hs => ?_) _
  refine foldl_on VRun.d (s := { s with d := s.d.onTile q.p _ }) (hs.onTile hp _) _ (fun s i hs => ?_) _
  split
  · exact hs
  · exact he _ _ _ hs

theorem vecFinish (h : LoftsKept w d₀ s.d) (hp : w q.p) {done : Dev → Dev}
    (hd : ∀ d, LoftsKept w d₀ d → LoftsKept w d₀ (done d)) : LoftsKept w d₀ (s.finish q done) := by
  unfold VRun.finish
  exact .ite ((h.onTile hp _).refuse hp _) (hd _ (h.onTile hp _))

theorem writeExact (h : LoftsKept w d₀ s.d) (hp : w q.p) (o : VOpd) (k y : Nat) (v : Val) :
    LoftsKept w d₀ (s.writeExact q o k y v).d := by
  unfold VRun.writeExact
  extract_lets e t ds rc a b d₁ x r
  have h₁ : LoftsKept w d₀ d₁ := h.onTile hp _
  have hx : ∀ y, x = some y → LoftsKept w d₀ y.1 := by
    intro y hy
    unfold x at hy
    split at hy
    · cases hy
      exact h₁
    · exact h₁.takeSlot hp hy
  have hr : ∀ d', r = some d' → LoftsKept w d₀ d' := by
    intro d' hd'
    unfold r at hd'
    clear_value x d₁
    split at hd'
    · cases hd'
      exact h₁.atomAddStook hp _ _
    · split at hd'
      · cases hd'
        exact h₁.atomAddBushel hp _ _
      · split at hd'
        · cases hd'
          exact h₁.loftWrite hp _ _
        · split at hd'
          · next d₂ word =>
            have h₂ : LoftsKept w d₀ d₂ := hx _ rfl
            split at hd'
            · cases hd'
              exact (h₂.loftWrite hp _ _).onTile hp _
            · cases hd'
              exact h₂.loftWrite hp _ _
          · cases hd'
  clear_value r
  split
  · next d' => exact .ite ((hr d' rfl).onTile hp _) (hr d' rfl)
  · dsimp only
    exact h₁.onTile hp _

end

theorem vopBody (h : LoftsKept w d₀ d) (hp : w q.p) : LoftsKept w d₀ (Machine.vopBody d q) := by
  unfold Machine.vopBody
  extract_lets e t f dst tm lat imm s₁ n work
  have h₁ : LoftsKept w d₀ s₁.d := by
    refine vecSweep (s := ⟨d, 0, 0, false⟩) h hp _ _ _ fun s k y hs => ?_
    extract_lets t a r
    exact write (s := { s with ns := s.ns ||| r.2 }) hs hp ..
  exact h₁.vecFinish hp fun _ hd => hd.vecDone hp ..

theorem vfuncBody (h : LoftsKept w d₀ d) (hp : w q.p) : LoftsKept w d₀ (Machine.vfuncBody d q) := by
  unfold Machine.vfuncBody
  extract_lets e t f fast g dst double tm lat imm a b pe n slow s₁ extra
  have h₁ : LoftsKept w d₀ s₁.d := by
    refine vecSweep (s := ⟨d, 0, 0, false⟩) h hp _ _ _ fun s k y hs => ?_
    extract_lets t r
    exact write (s := { s with ns := s.ns ||| r.2 }) hs hp ..
  exact h₁.vecFinish hp fun _ hd => (hd.onTile hp _).vecDone hp ..

theorem vecBlock (h : LoftsKept w d₀ d) (hp : w q.p) (o : Desc) (len r b : Nat) :
    LoftsKept w d₀ (Machine.vecBlock q o len d r b) := by
  unfold Machine.vecBlock
  extract_lets e t cols wrote any sc zero d₁ d₂
  have h₁ : LoftsKept w d₀ d₁ := .ite (h.foldl _ (fun _ _ hd => hd.putElem hp ..) _) h
  have h₂ : LoftsKept w d₀ d₂ := .ite ((h₁.putScale hp ..).onTile hp _) h₁
  exact .ite (h₂.onTile hp _) h₂

theorem vcvtBody (h : LoftsKept w d₀ d) (hp : w q.p) : LoftsKept w d₀ (Machine.vcvtBody d q) := by
  unfold Machine.vcvtBody
  extract_lets e dst tm lat imm pe s₁ o s₂ n cls
  have h₁ : LoftsKept w d₀ s₁.d := by
    refine vecSweep (s := ⟨d, 0, 0, false⟩) h hp _ _ _ fun s k y hs => ?_
    extract_lets t c x rm ds sc r d₁
    have hd₁ : LoftsKept w d₀ d₁ := .ite (hs.onTile hp _) hs
    split
    · exact writeExact (s := { s with ns := s.ns ||| x.2 ||| flagIf x.1.isSnan nsINVALID }) hs hp ..
    · exact write (s := { s with d := d₁, ns := _, satI8 := _ }) hd₁ hp ..
  have h₂ : LoftsKept w d₀ s₂.d := by
    unfold s₂
    split
    · exact h₁.foldl _ (fun _ _ hd => hd.foldl _ (fun _ _ hd => hd.vecBlock hp ..) _) _
    · exact h₁
  exact h₂.vecFinish hp fun _ hd => hd.vecDone hp ..

theorem vdrawBody (h : LoftsKept w d₀ d) (hp : w q.p) : LoftsKept w d₀ (Machine.vdrawBody d q) := by
  unfold Machine.vdrawBody
  exact vecFinish (vecSweep (s := ⟨d, 0, 0, false⟩) h hp _ _ _ fun _ _ _ hs => hs.write hp ..) hp fun _ hd => hd.vecDone hp ..

theorem vsortBody (h : LoftsKept w d₀ d) (hp : w q.p) : LoftsKept w d₀ (Machine.vsortBody d q) := by
  unfold Machine.vsortBody
  exact (((h.onTile hp _).foldl _ (fun _ _ hd => hd.onTile hp _) _).onTile hp _).vecDone hp ..

theorem vdotBody (h : LoftsKept w d₀ d) (hp : w q.p) : LoftsKept w d₀ (Machine.vdotBody d q) :=
  (((h.onTile hp _).setTile hp _).putPk hp _).vecDone hp ..

theorem vred64Body (h : LoftsKept w d₀ d) (hp : w q.p) : LoftsKept w d₀ (Machine.vred64Body d q) := by
  unfold Machine.vred64Body
  extract_lets e imm d₁ t f kk occ lat s₁
  have hd₁ : LoftsKept w d₀ d₁ := h.onTile hp _
  have h₁ : LoftsKept w d₀ s₁.d := by
    refine foldl_on VRun.d (s := ⟨d₁, 0, 0, false⟩) hd₁ _ (fun s i hs => foldl_on VRun.d hs _ (fun s j hs => ?_) _) _
    extract_lets ts o init r
    exact write (s := { s with ns := s.ns ||| r.2 }) hs hp ..
  exact h₁.vecFinish hp fun _ hd => hd.vecDone hp ..

theorem vtestBody (h : LoftsKept w d₀ d) (hp : w q.p) : LoftsKept w d₀ (Machine.vtestBody d q) :=
  ((h.onTile hp _).onTile hp _).vecDone hp ..

theorem vpoutBody (h : LoftsKept w d₀ d) (hp : w q.p) : LoftsKept w d₀ (Machine.vpoutBody d q) := by
  unfold Machine.vpoutBody
  extract_lets e dst lat j r d₁ s₁ c s₂
  have hr : LoftsKept w d₀ r.1.d := by
    unfold r
    dsimp only [OutRun.read, OutRun.start]
    exact h.onTile hp _
  have hd₁ : LoftsKept w d₀ d₁ := (hr.putPk hp _).onTile hp _
  have h₁ : LoftsKept w d₀ s₁.d := hd₁
  have h₂ : LoftsKept w d₀ s₂.d := by
    unfold s₂
    split
    · exact h₁.writeExact hp ..
    · exact write (s := { s₁ with ns := c.flags }) h₁ hp ..
  exact h₂.vecFinish hp fun _ hd => hd.vecDone hp ..

/-- A command that ran late writes no Loft but its own tile's, whatever its opcode. -/
theorem engineEffect (h : LoftsKept w d₀ d) (hp : w q.p) (op : Nat) : LoftsKept w d₀ (Machine.engineEffect op d q) := by
  unfold Machine.engineEffect
  refine .ite_effect (h.engineStart hp _ _ fun _ _ hp hd => hd.mmaBody hp) ?_
  refine .ite_effect (h.engineStart hp _ _ fun _ _ hp hd => hd.pocketLoadBody hp) ?_
  refine .ite_effect (h.engineStart hp _ _ fun _ _ hp hd => hd.storeBody hp) ?_
  refine .ite_effect (h.engineStart hp _ _ fun _ _ hp hd => hd.scoutBody hp) ?_
  refine .ite_effect (h.engineStart hp _ _ fun _ _ hp hd => hd.scoreBody hp) ?_
  refine .ite_effect (h.engineStart hp _ _ fun _ _ hp hd => hd.vopBody hp) ?_
  refine .ite_effect (h.engineStart hp _ _ fun _ _ hp hd => hd.vfuncBody hp) ?_
  refine .ite_effect (h.engineStart hp _ _ fun _ _ hp hd => hd.vcvtBody hp) ?_
  refine .ite_effect (h.engineStart hp _ _ fun _ _ hp hd => hd.vdrawBody hp) ?_
  refine .ite_effect (h.engineStart hp _ _ fun _ _ hp hd => hd.vsortBody hp) ?_
  refine .ite_effect (h.engineStart hp _ _ fun _ _ hp hd => hd.vdotBody hp) ?_
  refine .ite_effect (h.engineStart hp _ _ fun _ _ hp hd => hd.vred64Body hp) ?_
  refine .ite_effect (h.engineStart hp _ _ fun _ _ hp hd => hd.vtestBody hp) ?_
  refine .ite_effect (h.engineStart hp _ _ fun _ _ hp hd => hd.vpoutBody hp) ?_
  exact h

end LoftsKept

end Sys2Proof.Laws
end

section
/-! SUPPORT. Transfers: the end of one and the record it leaves, where a DMA transfer writes, the result of a collective, and the statement
about their completion (R165, R167, R202, R203, R217, R218, R260, R272, R310 to R316). -/

namespace Sys2Proof.Laws

open Sys2Proof.Machine

/-! ## Waits that end and transfers that end (R165 to R167) -/

namespace LoftsKept

variable {w : Nat → Prop} {d₀ d : Dev} {p : Nat}

/-- A command whose banks have come runs on its own tile. -/
theorem grant (h : LoftsKept w d₀ d) (hp : w p) (x : LoftWait) : LoftsKept w d₀ (d.grant p x) := by
  unfold Dev.grant
  extract_lets t n t' d₁ now d₂ d₃
  split
  · exact h.setTile hp _
  · have h₁ : LoftsKept w d₀ d₁ := h.setTile hp _
    have h₃ : LoftsKept w d₀ d₃ := engineEffect (q := ⟨p, _, _, _⟩) (h₁.onTile hp _) hp _
    split
    · exact h₁
    · exact h₃.onTile hp _

theorem runHeld (h : LoftsKept w d₀ d) (hp : w p) : LoftsKept w d₀ (d.runHeld p) :=
  h.foldl _ (fun _ _ hd => .ite (hd.grant hp _) hd) _

theorem endXfer (h : LoftsKept w d₀ d) (hp : w p) (x : Nat) (f : Xfer) : LoftsKept w d₀ (d.endXfer p x f) := by
  unfold Dev.endXfer
  exact ((h.setTile hp _).runHeld hp).foldl _ (fun _ _ hd => hd.startIfReady hp _) _

theorem flagLater (h : LoftsKept w d₀ d) (hp : w p) (x mark : Nat) (fs : List Nat) : LoftsKept w d₀ (d.flagLater p x mark fs) := by
  unfold Dev.flagLater
  extract_lets t
  split
  · exact .ite (h.setTile hp _) (h.setFlagsAt hp ..)
  · exact h.setFlagsAt hp ..

/-! ## Where a DMA transfer writes (R171, R202, R203, R217, R260, R452) -/

theorem putWire (h : LoftsKept w d₀ d) (hp : w p) (q : Desc) (e : Nat × Nat) : LoftsKept w d₀ (Dev.putWire p q d e) := by
  unfold Dev.putWire
  extract_lets r c res
  have hRes : LoftsKept w d₀ res.1 := by
    unfold res
    split
    · exact h.stookFor hp _
    · exact h
  exact hRes.onTile hp _

theorem landLoft (h : LoftsKept w d₀ d) (hp : w p) (q : Desc) (atom : Nat) (e : Nat × Nat) :
    LoftsKept w d₀ (Dev.landLoft p q atom d e) := by
  unfold Dev.landLoft
  exact .ite (h.putWire hp ..) (.ite (h.atomAddInt hp ..) (.ite ((h.onTile hp _).atomAddStook hp _ _) (h.atomAddBushel hp _ _)))

theorem landInLoft (h : LoftsKept w d₀ d) (hp : w p) (src q : Desc) (atom : Nat) (x : Haul) :
    LoftsKept w d₀ (d.landInLoft p src q atom x) := by
  unfold Dev.landInLoft
  extract_lets d₁ d₂
  have h₁ : LoftsKept w d₀ d₁ :=
    .ite (h.foldl _ (fun _ _ hd => hd.atomAddInt hp ..) _) (h.foldl _ (fun _ _ hd => hd.landLoft hp ..) _)
  have h₂ : LoftsKept w d₀ d₂ := .ite (h₁.loftWrite hp _ _) h₁
  exact h₂.onTile hp _

theorem landInGrn (h : LoftsKept w d₀ d) (src q : Desc) (x : Haul) : LoftsKept w d₀ (d.landInGrn src q x) := by
  unfold Dev.landInGrn
  extract_lets d₁ d₂
  have h₁ : LoftsKept w d₀ d₁ := by
    refine h.foldl _ (fun _ _ hd => ?_) _
    exact hd.congr rfl rfl
  have h₂ : LoftsKept w d₀ d₂ := .ite (h₁.grnWrite _ _) h₁
  refine h₂.foldl _ (fun _ _ hd => ?_) _
  exact hd.congr rfl rfl

theorem hwPutPage (h : LoftsKept w d₀ d) (x i : Nat) (bs : List Byte) : LoftsKept w d₀ (d.hwPutPage x i bs) := h.congr rfl rfl

theorem hwWrite (h : LoftsKept w d₀ d) (x a : Nat) (bs : List Byte) : LoftsKept w d₀ (d.hwWrite x a bs).1 := by
  unfold Dev.hwWrite
  refine foldl_on (fun r : (Dev × Nat) × List Byte => r.1.1) h _ (fun r x hr => ?_) _
  split
  · exact hr
  · extract_lets now
    split
    · exact hr.hwPutPage ..
    · split
      · exact hr.hwPutPage ..
      · exact hr.trans (((ReadKept.refl _).hostTagFail ..).lofts _)

theorem landInHost (h : LoftsKept w d₀ d) (p : Nat) (q : Desc) (x : Haul) : LoftsKept w d₀ (d.landInHost p q x).1 := by
  unfold Dev.landInHost
  extract_lets s m rows parts
  split
  · exact h
  · refine foldl_on (fun r : Dev × Nat => r.1) h _ (fun r x hr => ?_) _
    split
    · exact hr
    · exact hr.hwWrite ..

/-- A transfer writes no Loft but its tile's and that of the tile its destination names. -/
theorem dmaWrite (h : LoftsKept w d₀ d) (hp : w p) {f : Xfer} (hw : ∀ g, d.physOf (Desc.ofNat f.dst.toNat).owner = some g → w g)
    (x : Haul) (status : Nat) : LoftsKept w d₀ (d.dmaWrite p f x status).1 := by
  unfold Dev.dmaWrite
  extract_lets t a b
  split
  · split
    · next g hg =>
      refine h.landInLoft ?_ ..
      split at hg
      · cases hg
        exact hp
      · exact hw g hg
    · exact h
  · split
    · exact h.landInGrn ..
    · split
      · split
        · split
          · exact h.landInGrn ..
          · exact h.windowRefused ..
        · exact h
      · exact h.landInHost ..

/-! ## The result of a collective (R311 to R316) -/

theorem putSum (h : LoftsKept w d₀ d) (hp : w p) (q : Desc) (acc : Bool) (k : Nat) (v : Val) :
    LoftsKept w d₀ (d.putSum p q acc k v) := by
  unfold Dev.putSum
  extract_lets t r c x old s d₁ put y
  have h₁ : LoftsKept w d₀ d₁ := h.onTile hp _
  split
  · exact h₁.onTile hp _
  · split
    · exact h₁.jobWrite _ _
    · exact (h₁.stookFor hp _).onTile hp _

theorem putGather (h : LoftsKept w d₀ d) (hp : w p) (src : Nat) (q : Desc) (k x : Nat) :
    LoftsKept w d₀ (d.putGather p src q k x) := by
  unfold Dev.putGather
  extract_lets code scale r c d₁ v
  have h₁ : LoftsKept w d₀ d₁ := h.putWire hp ..
  exact .ite (.ite (h₁.loftWrite hp _ _) h₁) (.ite (h.putWire hp ..) (h.putWire hp ..))

theorem putResult (h : LoftsKept w d₀ d) (hp : w p) (f : Xfer) (x : Bucket) (mine : Bool) (others : List (Nat × Nat)) (k : Nat) :
    LoftsKept w d₀ (Dev.putResult p f x mine others d k) := by
  unfold Dev.putResult
  extract_lets q e i here there v t
  split
  · exact h.putSum hp ..
  · split
    · split
      · exact h.putWire hp ..
      · exact h
    · split
      · exact h.putGather hp ..
      · exact h

end LoftsKept

/-! ## The record of a completion (R165) -/

/-- From `d₀` to `d` a transfer has completed with the record `r`, and no Loft has changed but those of tiles in `w`. -/
structure Completes (w : Nat → Prop) (r : XferRec) (d₀ d : Dev) : Prop where
  loft : ∀ q, ¬ w q → (d.tile q).loft = (d₀.tile q).loft
  record : r ∈ d.xferRecs

theorem Completes.showOpen {w : Nat → Prop} {r : XferRec} {d₀ d : Dev} (h : Completes w r d₀ d) (g : Nat) :
    Completes w r d₀ (d.showOpen g) := ⟨h.loft, h.record⟩

theorem LoftsKept.finishXfer {w : Nat → Prop} {d₀ d : Dev} {p : Nat} (h : LoftsKept w d₀ d) (hp : w p) (x : Nat) (f : Xfer)
    (status : Nat) : Completes w ⟨p, f.index, f.flag, status⟩ d₀ (d.finishXfer p x f status) := by
  have hFinish : LoftsKept w (d.xferRecord p f status) (d.finishXfer p x f status) :=
    ((LoftsKept.refl w _).endXfer hp x f).flagLater hp ..
  exact ⟨fun q hq => (hFinish.loft q hq).trans (h.loft q hq), by rw [hFinish.recs]; exact List.mem_append_right _ List.mem_cons_self⟩

/-! ## The statement -/

/-- The tiles whose Lofts a DMA transfer may change: its own, and the one its destination names. -/
def dmaTiles (d : Dev) (p : Nat) (f : Xfer) (q : Nat) : Prop := q = p ∨ d.physOf (Desc.ofNat f.dst.toNat).owner = some q

/-- A DMA transfer completes with the status its issue fixed, or with one that its reading and writing give (R165). -/
theorem completes_dmaComplete (d : Dev) (p : Nat) (f : Xfer) (status : Nat) (data : List Nat) :
    ∃ r, Completes (dmaTiles d p f) ⟨p, f.index, f.flag, r⟩ d (d.dmaComplete p f status data) ∧ ∀ k, f.status = some k → r = k := by
  have hp : dmaTiles d p f p := .inl rfl
  unfold Dev.dmaComplete
  extract_lets t r v st
  split
  · next k hk => exact ⟨k, (LoftsKept.refl _ d).finishXfer hp .., fun k' hk' => Option.some.inj (hk.symm.trans hk')⟩
  · next hNone =>
    have hWrite : LoftsKept (dmaTiles d p f) d v.1 := by
      unfold v
      rcases dmaRead_cases d p f status data with hRead | ⟨hRefused, hKept⟩
      · exact .ite_fst (hRead.lofts _) ((hRead.lofts _).dmaWrite hp (fun g hg => .inr (hRead.physOf _ ▸ hg)) ..)
      · rw [if_pos hRefused]
        exact hKept _
    exact ⟨st, hWrite.finishXfer hp .., fun k hk => by cases hNone.symm.trans hk⟩

/-- A collective completes with ST_OK (R310). -/
theorem completes_collComplete (d : Dev) (p : Nat) (f : Xfer) (x : Bucket) (others : List (Nat × Nat)) :
    Completes (· = p) ⟨p, f.index, f.flag, 0⟩ d (d.collComplete p f x others) := by
  have hp : p = p := rfl
  unfold Dev.collComplete
  extract_lets g me mine n q d₁ d₂
  have h₁ : LoftsKept (· = p) d d₁ := (LoftsKept.refl (· = p) d).foldl _ (fun _ _ hd => hd.putResult hp ..) _
  have h₂ : LoftsKept (· = p) d d₂ := h₁.loftWrite hp _ _
  exact (h₂.finishXfer hp ..).showOpen g

/-- The DMA transfer under a flag completes once it has its banks, no fence holds it, no access of it waits and its write may land. -/
theorem exec_dmaComplete {s : State} {p flag st : Nat} {data : List Nat} {f : Xfer} (hp : p < 272)
    (hf : (s.dev.tile p).xfers.find? (fun x => x.running && x.flag == some flag && (x.kind == .dmaIn || x.kind == .dmaOut)) = some f)
    (hBanks : f.waits = 0) (hHeld : f.held = false)
    (hCross : s.dev.tiles.any (fun e => e.2.loftWait.any (fun w => w.cross == some (p, flag))) = false)
    (hLand : s.dev.dmaMayLand p f = true) :
    exec (.dmaComplete p flag st data) s = .next { s with dev := s.dev.dmaComplete p f st data } := by
  show execDmaComplete p flag st data s = _
  simp only [execDmaComplete, hp, hf, hBanks, hHeld, hCross, hLand, and_self, if_true]

/-- The collective under a flag completes once it has its banks, no fence holds it and its bucket is decided: the set is known and this device
is ready where it is included, or the operation is no sum and every local member is ready (R310). -/
theorem exec_collectiveComplete {s : State} {p flag : Nat} {others : List (Nat × Nat)} {f : Xfer} {x : Bucket} (hp : p < 272)
    (hf : (s.dev.tile p).collOf flag = some f)
    (hx : s.dev.findBucket (f.aux % 64) (f.aux / 64) ((s.dev.tile p).rd tTHR_STEP) = some x) (hBanks : f.waits = 0)
    (hHeld : f.held = false)
    (hSet : ∀ rs, x.included = some rs → x.ready = true ∨ s.dev.selfRank (s.dev.tile p).job ∉ rs)
    (hNoSet : x.included = none → isSum x.op = false ∧ x.ready = true) :
    exec (.collectiveComplete p flag others) s = .next { s with dev := s.dev.collComplete p f x others } := by
  show execCollectiveComplete p flag others s = _
  simp only [execCollectiveComplete, hp, hf, hx, hBanks, hHeld, true_and, if_true]
  refine if_pos ?_
  cases hi : x.included with
  | some rs => simpa using hSet rs hi
  | none => simpa using hNoSet hi

/-- Settles O17: a completion appends its record, and what comes before and after it writes no other Loft. -/
theorem transfersComplete : Obligations.TransfersComplete := by
  unfold Obligations.TransfersComplete
  intro s p flag hp
  refine ⟨fun st data f hf hBanks hHeld hCross hLand => ?_, fun others f x hf hx hBanks hHeld hDecided => ?_⟩
  · have hFlag : f.flag = some flag := by
      have hFound := List.find?_some hf
      simp only [Bool.and_eq_true, beq_iff_eq] at hFound
      exact hFound.1.2
    obtain ⟨r, ⟨hLoft, hRec⟩, hStatus⟩ := completes_dmaComplete s.dev p f st data
    refine ⟨_, exec_dmaComplete hp hf hBanks hHeld hCross hLand, ⟨r, hFlag ▸ hRec, hStatus⟩, fun q hq hOther => ?_⟩
    exact hLoft q (not_or.2 ⟨hq, hOther⟩)
  · have hFlag : f.flag = some flag := by
      have hFound := List.find?_some hf
      simp only [Bool.and_eq_true, beq_iff_eq] at hFound
      exact hFound.2
    obtain ⟨hLoft, hRec⟩ := completes_collComplete s.dev p f x others
    have hSet (rs : List Nat) (hi : x.included = some rs) : x.ready = true ∨ s.dev.selfRank (s.dev.tile p).job ∉ rs := by
      simpa only [hi] using hDecided
    have hNoSet (hi : x.included = none) : isSum x.op = false ∧ x.ready = true := by simpa only [hi] using hDecided
    exact ⟨_, exec_collectiveComplete hp hf hx hBanks hHeld hSet hNoSet, hFlag ▸ hRec, hLoft⟩

end Sys2Proof.Laws
end
